-- ==== Sys2Proof/Word.lean ====
section
/-!
DEFINITION. The bytes of the Supervisory Port and of the lanes, and the index types of the part's fixed collections
(spec/00_scope.md section 4, R1).
-/

namespace Sys2Proof

/-- One byte on the Supervisory Port (R178) or on a lane (R72). -/
abbrev Byte := BitVec 8

/-- Bus sections B0 to B7. -/
abbrev BusId := Fin 8
/-- Utility sources U0 and U1. -/
abbrev UtilityId := Fin 2
/-- Generators G0 to G11. -/
abbrev GeneratorId := Fin 12
/-- Switching devices D0 to D47. -/
abbrev DeviceId := Fin 48
/-- Load blocks L0 to L23. -/
abbrev BlockId := Fin 24
/-- Protection elements E0 to E63. -/
abbrev ElementId := Fin 64
/-- Lockout records K0 to K31. -/
abbrev SlotId := Fin 32
/-- Measurement points P0 to P63. -/
abbrev PointId := Fin 64
/-- Field lanes F0 to F15. -/
abbrev LaneId := Fin 16
/-- Sides S0 and S1 of the Intake Scheme. -/
abbrev SideId := Fin 2
/-- A position of the Record Store, 0 to 255 (R1). -/
abbrev StoreIndex := Fin 256

end Sys2Proof
end

