-- ==== Sys2Proof/Config.lean ====
section
/-!
DEFINITION. What the part fixes (the numbers of the spec) and the one value the spec leaves open.
-/

namespace Sys2Proof

/-- FREE VALUE (notes/assumptions/4.md). The closing time Tc that a synchroniser works with when the device record it
should be read from is DAMAGED: R43 gives substitutes for the other device limits and none for Tc. Each such read has a
value of its own, by its number. -/
opaque Config.unreadClosingTime : Nat → Nat

/-- The limit of an element's accumulator (R85, R91). -/
def Config.accumulatorLimit : Nat := 1048576

/-- The substitute values of a FROZEN device (R43), in ms. -/
def Config.frozenCloseLimit : Nat := 2000
def Config.frozenOpenLimit : Nat := 1000
def Config.frozenBreakerFailureTime : Nat := 500

/-- The overlap limit while no scheme is in service (R136), in ms. -/
def Config.defaultMaximumOverlap : Nat := 500

/-- The byte of the BUSY pattern (R173). -/
def Config.busyByte : Byte := 0xE7

/-- The longest body of a request (R178). -/
def Config.maximumBody : Nat := 1020

/-- How many notices one event hands round before the rest is left to the next event (notes/assumptions/2.md). -/
def Config.noticeLimit : Nat := 65536

end Sys2Proof
end

