-- ==== Sys2Proof/Syntax.lean ====
section
/-!
DEFINITION. The commands the part takes (one constructor of Instr per row of spec/opcode_table.json) and the values they
carry: the settings of the ten record kinds (R4 to R9), the characters of a lane (R72), the test values (R83), the
levels of the input lines (R17) and the upsets of stored records (R10).
-/

namespace Sys2Proof

/-! ## Record kinds and the names settings are made of -/

/-- The ten record kinds, in the order of the table of R1. -/
inductive RecordKind where
  | station | bus | utility | generator | device | block | element | lockout | scheme | point
  deriving DecidableEq, Repr

/-- The nominal frequency of the Station record (R4). -/
inductive NominalFrequency where
  | hz50 | hz60
  deriving DecidableEq, Repr

/-- The restore modes (R4, R164). -/
inductive RestoreMode where
  | stepped | headroom | held
  deriving DecidableEq, Repr

/-- The unit at the far end of a lane (R4, section 5.2). -/
inductive UnitKind where
  | sensing | generator
  deriving DecidableEq, Repr

/-- The kinds of a measurement point (R5). -/
inductive PointKind where
  | feeder | bus | utility | generator
  deriving DecidableEq, Repr

/-- The kinds of a lockout record (R5). -/
inductive LockoutKind where
  | tag | protection | breakerFailure | bus
  deriving DecidableEq, Repr

/-- What a lockout record names as its origin (R5). -/
inductive LockoutOrigin where
  | supervisor
  | element (e : ElementId)
  | device (d : DeviceId)
  deriving DecidableEq, Repr

/-- The kinds of a switching device (R7). -/
inductive DeviceKind where
  | incomer | generator | tie | feeder
  deriving DecidableEq, Repr

/-- Terminal B of a device. Its range depends on the device kind (R7), so the constructor is the kind. -/
inductive TerminalB where
  | utility (u : UtilityId)
  | generator (g : GeneratorId)
  | bus (b : BusId)
  | block (l : BlockId)
  deriving DecidableEq, Repr

/-- The device kind that a terminal B belongs to (R7). -/
def TerminalB.kind : TerminalB → DeviceKind
  | .utility _ => .incomer
  | .generator _ => .generator
  | .bus _ => .tie
  | .block _ => .feeder

/-- Which health inputs position supervision watches (R7, R19). -/
inductive SupervisionMask where
  | none | ready | tripHealthy | both
  deriving DecidableEq, Repr

/-- The kinds of a protection element (R8). -/
inductive ElementKind where
  | overcurrent | overvoltage | reversePower
  deriving DecidableEq, Repr

/-- The quantity of an OVERCURRENT element (R8). -/
inductive Quantity where
  | phase | residual
  deriving DecidableEq, Repr

/-- The operate curves (R8, R90). -/
inductive Curve where
  | inv1 | inv2 | definite
  deriving DecidableEq, Repr

/-- The reset modes (R8, R92). -/
inductive ResetMode where
  | instant | timed
  deriving DecidableEq, Repr

/-- An action set: a combination of the four actions (R8, R94). -/
structure ActionSet where
  trip : Bool
  lockout : Bool
  busLockout : Bool
  alarm : Bool
  deriving DecidableEq, Repr

/-- The transfer styles of the Intake Scheme (R9). -/
inductive TransferStyle where
  | open | closed
  deriving DecidableEq, Repr

/-- The retransfer modes of the Intake Scheme (R9). -/
inductive Retransfer where
  | auto | manual
  deriving DecidableEq, Repr

/-- The preferred alternates of the Intake Scheme (R9). -/
inductive PreferredAlternate where
  | tieFirst | generatorFirst
  deriving DecidableEq, Repr

/-! ## Settings (R4 to R9) -/

/-- One entry of the Station lane list (R4). -/
structure LaneSettings where
  enabled : Bool
  unitKind : UnitKind
  /-- character rate in Mbit/s: 1, 2, 4 or 8 -/
  rate : Nat
  /-- silence limit in measurement intervals -/
  silenceLimit : Nat
  deriving DecidableEq, Repr

/-- The settings of the Station record (R4). -/
structure StationSettings where
  nominal : NominalFrequency
  interval : Nat
  liveThreshold : Nat
  deadThreshold : Nat
  scrubPeriod : Nat
  loadingLimit : Nat
  reserve : Nat
  addDelay : Nat
  removeDelay : Nat
  unloadLimit : Nat
  restoreMode : RestoreMode
  restoreInterval : Nat
  restoreMargin : Nat
  lanes : Vector LaneSettings 16
  deriving DecidableEq, Repr

/-- The setting of a Bus record (R5). -/
structure BusSettings where
  point : Option PointId
  deriving DecidableEq, Repr

/-- The settings of a Utility record (R5). -/
structure UtilitySettings where
  point : PointId
  capacity : Nat
  windowLow : Nat
  windowHigh : Nat
  deviation : Nat
  lossDelay : Nat
  returnDelay : Nat
  deriving DecidableEq, Repr

/-- The setting of a Point record (R5). -/
structure PointSettings where
  kind : PointKind
  deriving DecidableEq, Repr

/-- The settings of a Lockout record (R5). The device set is held in ascending order. -/
structure LockoutSettings where
  kind : LockoutKind
  origin : LockoutOrigin
  devices : List DeviceId
  reason : Nat
  deriving DecidableEq, Repr

/-- The settings of a Generator record (R6). -/
structure GeneratorSettings where
  lane : LaneId
  point : PointId
  device : DeviceId
  rating : Nat
  startLimit : Nat
  cooldown : Nat
  voltageWindow : Nat
  slipMaximum : Nat
  slipTarget : Nat
  phaseWindow : Nat
  positiveSlipOnly : Bool
  frequencyNudgeMaximum : Nat
  voltageNudgeMaximum : Nat
  unloadThreshold : Nat
  syncLimit : Nat
  deriving DecidableEq, Repr

/-- The settings of a Device record (R7). The kind is the constructor of terminal B. -/
structure DeviceSettings where
  terminalA : BusId
  terminalB : TerminalB
  closingTime : Nat
  closeLimit : Nat
  openLimit : Nat
  breakerFailureTime : Nat
  mask : SupervisionMask
  automatic : Bool
  deriving DecidableEq, Repr

/-- The settings of a Load block record (R8). -/
structure BlockSettings where
  feeder : DeviceId
  point : PointId
  priority : Nat
  critical : Bool
  demandFloor : Nat
  deriving DecidableEq, Repr

/-- The settings of an Element record (R8). -/
structure ElementSettings where
  kind : ElementKind
  point : PointId
  quantity : Option Quantity
  pickup : Nat
  curve : Curve
  a : Nat
  b : Nat
  timeDial : Nat
  resetMode : ResetMode
  resetTime : Nat
  guarded : DeviceId
  actions : ActionSet
  upstream : Option ElementId
  zoneFast : Option Nat
  blindLimit : Nat
  deriving DecidableEq, Repr

/-- The settings of one side of the Intake Scheme (R9). -/
structure SideSettings where
  incomer : DeviceId
  bus : BusId
  utility : UtilityId
  generatorTie : Option DeviceId
  deriving DecidableEq, Repr

/-- The settings of the Intake Scheme record (R9). -/
structure SchemeSettings where
  sides : Vector SideSettings 2
  tie : Option DeviceId
  generatorBus : Option BusId
  style : TransferStyle
  retransfer : Retransfer
  preferred : PreferredAlternate
  minimumDead : Nat
  maximumOverlap : Nat
  syncLimit : Nat
  deriving DecidableEq, Repr

/-- The settings of a record of any kind. -/
inductive AnySettings where
  | station (x : StationSettings)
  | bus (x : BusSettings)
  | utility (x : UtilitySettings)
  | generator (x : GeneratorSettings)
  | device (x : DeviceSettings)
  | block (x : BlockSettings)
  | element (x : ElementSettings)
  | lockout (x : LockoutSettings)
  | scheme (x : SchemeSettings)
  | point (x : PointSettings)
  deriving DecidableEq, Repr

/-- A (field number, value) pair of LOAD, AMEND and READ (R3, R178). -/
structure FieldPair where
  field : Nat
  value : Int
  deriving DecidableEq, Repr

/-- Corruption of a stored record: what its settings have become, and whether its check code still identifies the
settings as written (R10). No row of the table brings it about: SCRUB_STEP carries it (notes/assumptions/3.md). -/
structure Upset where
  position : StoreIndex
  found : AnySettings
  restorable : Bool
  deriving DecidableEq, Repr

/-! ## Lines, characters and request operands -/

/-- The four inputs of a device (section 2.1). -/
inductive DeviceInput where
  | openContact | closedContact | ready | tripHealthy
  deriving DecidableEq, Repr

/-- The levels of the four inputs of a device (R17). -/
structure Pattern where
  openContact : Bool
  closedContact : Bool
  ready : Bool
  tripHealthy : Bool
  deriving DecidableEq, Repr

/-- The authority input: high is REMOTE, low is LOCAL (section 2.1). -/
inductive Authority where
  | localControl | remoteControl
  deriving DecidableEq, Repr

/-- The levels of the input lines at power-on or at the release of the reset line (R17). -/
structure InputLevels where
  patterns : Vector Pattern 48
  authority : Authority
  deriving DecidableEq, Repr

/-- The three samples of one bit of a character (R72). -/
structure BitSample where
  first : Bool
  second : Bool
  third : Bool
  deriving DecidableEq, Repr

/-- A character as it arrives on a lane: three samples of each of its twelve bits (R72). The samples of the start bit
are false for spacing; data bit n is bit n of the byte. -/
structure LaneCharacter where
  start : BitSample
  data : Vector BitSample 8
  marker : BitSample
  parity : BitSample
  stop : BitSample
  deriving DecidableEq, Repr

/-- The eight values of a point (section 5.2). -/
structure PointValues where
  ia : Nat
  ib : Nat
  ic : Nat
  ir : Nat
  v : Nat
  f : Int
  phi : Int
  p : Int
  deriving DecidableEq, Repr

/-- The modes of TEST INJECT (R83). -/
inductive TestMode where
  | blocked | live
  deriving DecidableEq, Repr

/-- The actions of an operate request (R23). -/
inductive Action where
  | close | open
  deriving DecidableEq, Repr

/-- The scheme modes (R124). -/
inductive SchemeMode where
  | auto | manual
  deriving DecidableEq, Repr

/-! ## Commands

A host request is the taking of that request by the port (R174): its first operand is the tag, which the response
echoes, and the others are the fields of its body (R179). An index is the byte that names it, in range or not. -/

/-- The commands of the part, one per row of spec/opcode_table.json. -/
inductive Instr where
  | powerOn (levels : InputLevels)
  | resetAssert
  | resetRelease (levels : InputLevels)
  | deviceInputChange (device : DeviceId) (input : DeviceInput) (level : Bool)
  | authorityChange (authority : Authority)
  | spiTransaction (bytes : List Byte)
  | read (tag : Byte) (kind index : Nat)
  | readChanged (tag : Byte) (kind : Nat)
  | readIslands (tag : Byte)
  | readSummary (tag : Byte)
  | acknowledge (tag : Byte) (flags : Nat)
  | load (tag : Byte) (kind index : Nat) (pairs : List FieldPair)
  | amend (tag : Byte) (kind index : Nat) (pairs : List FieldPair)
  | retire (tag : Byte) (kind index : Nat)
  | operate (tag : Byte) (device : Nat) (action : Action)
  | syncClose (tag : Byte) (device : Nat)
  | acknowledgeFailure (tag : Byte) (device : Nat)
  | releaseIntertrip (tag : Byte) (side : Nat)
  | placeLockout (tag : Byte) (reason : Nat) (devices : List Nat)
  | addDevices (tag : Byte) (slot : Nat) (devices : List Nat)
  | dropDevices (tag : Byte) (slot : Nat) (devices : List Nat)
  | releaseLockout (tag : Byte) (slot : Nat)
  | resetElement (tag : Byte) (element : Nat)
  | testInject (tag : Byte) (point : Nat) (values : PointValues) (mode : TestMode) (duration : Nat)
  | endTest (tag : Byte) (point : Nat)
  | schemeMode (tag : Byte) (mode : SchemeMode)
  | resetSide (tag : Byte) (side : Nat)
  | generatorStart (tag : Byte) (generator : Nat)
  | generatorStop (tag : Byte) (generator : Nat)
  | resetGenerator (tag : Byte) (generator : Nat)
  | holdBlock (tag : Byte) (block : Nat)
  | releaseBlock (tag : Byte) (block : Nat)
  | shedBlock (tag : Byte) (block : Nat)
  | restoreBlock (tag : Byte) (block : Nat)
  | hold (tag : Byte)
  | resume (tag : Byte)
  | enterService (tag : Byte)
  | leaveService (tag : Byte)
  | unknownRequest (frame : List Byte)
  | laneCharacter (lane : LaneId) (character : LaneCharacter)
  | laneBreak (lane : LaneId)
  | silenceTimerExpiry (lane : LaneId)
  | setpointTransmitDone (lane : LaneId)
  | testIntervalExpiry (point : PointId)
  | testDurationExpiry (point : PointId)
  | scrubStep (upsets : List Upset)
  | closeLimitExpiry (device : DeviceId)
  | openTimerExpiry (device : DeviceId)
  | persistenceTimerExpiry (device : DeviceId)
  | blindTimerExpiry (element : ElementId)
  | zoneTimerExpiry (element : ElementId)
  | lossTimerExpiry (utility : UtilityId)
  | returnTimerExpiry (utility : UtilityId)
  | deadTimerExpiry (side : SideId)
  | retransferSyncTimerExpiry (side : SideId)
  | overlapTimerExpiry (island : BusId)
  | startLimitExpiry (generator : GeneratorId)
  | syncLimitExpiry (generator : GeneratorId)
  | hostTieSyncLimitExpiry
  | unloadLimitExpiry (generator : GeneratorId)
  | cooldownExpiry (generator : GeneratorId)
  | addTimerExpiry (island : BusId)
  | removeTimerExpiry (island : BusId)
  | restoreTimerExpiry
  | sselAssertion
  | lineReturnsToMarking (lane : LaneId)
  deriving DecidableEq, Repr

end Sys2Proof
end

