-- ==== Sys2Proof/Decode.lean ====
section
/-!
DEFINITION. The command that a word spells by the bits of spec/opcode_table.json. No row of the table gives bits, so no
word spells a command.
-/

namespace Sys2Proof

/-- The command a word of a table row spells: none, since no row gives bits. The bytes of the host's requests are read by
Machine.requestOf. -/
def decodeTableWord (_nbits _w : Nat) : Option Instr := none

end Sys2Proof
end

