-- ==== Sys2Proof/Machine/State.lean ====
section
/-!
DEFINITION. Everything the LZ4816 holds, block by block as section 3.1 of spec/00_scope.md assigns it, as plain data; the
notices that pass between blocks inside one event; the reasons a step can stop; and the state right after power-on.
-/

namespace Sys2Proof.Machine

/-! ## Timers -/

/-- A timer: STOPPED, or RUNNING with the time left. The unit is the ms; the scrub timer's is 1/32 ms (R12). -/
inductive Timer where
  | stopped
  | running (left : Nat)
  deriving DecidableEq, Repr

/-- A timer that keeps the fact of its expiry: EXPIRED (R85, R137) or ELAPSED (R125). -/
inductive LatchedTimer where
  | stopped
  | running (left : Nat)
  | ended
  deriving DecidableEq, Repr

/-! ## Record Store (chapter 1) -/

/-- The integrity states of a record that is not EMPTY (R2). -/
inductive Integrity where
  | sound | corrected | damaged
  deriving DecidableEq, Repr

/-- A check code (R2, R10): the settings it was computed over, and, for the difference the stored settings may now
show, whether the code can restore them (notes/assumptions/3.md). -/
structure CheckCode (α : Type) where
  covers : α
  restores : Bool
  deriving DecidableEq, Repr

/-- What the Store holds for a record that is ACTIVE or RETIRED (R2). An EMPTY record is the absence of this. -/
structure Held (α : Type) where
  retired : Bool
  integrity : Integrity
  settings : α
  code : CheckCode α
  deriving DecidableEq, Repr

/-- The three outcomes of a check (section 1.3). -/
inductive CheckOutcome where
  | valid | nearValid | invalid
  deriving DecidableEq, Repr

/-- The Record Store: the 256 records by kind, the scrub position and the scrub step timer (R1, R2, R12). -/
structure RecordStore where
  station : Option (Held StationSettings)
  buses : Vector (Option (Held BusSettings)) 8
  utilities : Vector (Option (Held UtilitySettings)) 2
  generators : Vector (Option (Held GeneratorSettings)) 12
  devices : Vector (Option (Held DeviceSettings)) 48
  blocks : Vector (Option (Held BlockSettings)) 24
  elements : Vector (Option (Held ElementSettings)) 64
  lockouts : Vector (Option (Held LockoutSettings)) 32
  scheme : Option (Held SchemeSettings)
  points : Vector (Option (Held PointSettings)) 64
  scrubPosition : StoreIndex
  scrubTimer : Timer
  deriving DecidableEq, Repr

/-! ## Switching Unit (chapter 2) -/

/-- The eight requesters, in the order of section 3.3 of the overview. -/
inductive Requester where
  | supervisor | changeover | paralleling | loadUnit | protection | breakerFailure | overlap | lockout
  deriving DecidableEq, Repr

/-- The device states, in the order of R20. -/
inductive DeviceState where
  | unset | retired | open | closed | closing | opening | failed | uncertain
  deriving DecidableEq, Repr

/-- The observed positions (R18). -/
inductive Position where
  | open | closed | travel | disagree
  deriving DecidableEq, Repr

/-- The sub-reasons of the topology check, numbered 1 to 5 (R57, R58). -/
inductive TopologySub where
  | utilityParallel | sourceParallel | residual | liveLive | noGrant
  deriving DecidableEq, Repr

/-- The reasons of a refusal: those of the close chain (R26), then RETIRED and AUTHORITY from an open (R30). -/
inductive RefusalReason where
  | retired | damaged | hold | failed | uncertain | busy | locked | authority | unprotected | notReady
  | topology | capacity | openRetired | openAuthority
  deriving DecidableEq, Repr

/-- A refusal as the device keeps it: the reason and, for TOPOLOGY, the sub-reason (R26). -/
structure Refused where
  reason : RefusalReason
  sub : Option TopologySub
  deriving DecidableEq, Repr

/-- The Switching Unit's answer to an operate request (R23). -/
inductive Answer where
  | accepted
  | already
  | refused (r : Refused)
  deriving DecidableEq, Repr

/-- The failure kinds (R20). -/
inductive FailureKind where
  | failedClose | failedOpen
  deriving DecidableEq, Repr

/-- The authorisations a close request may carry (R24). -/
structure Authorisations where
  sync : Bool
  overlap : Bool
  deriving DecidableEq, Repr

/-- The live half of a device record (R20), with its timers (R22), the authorisations a CLOSING device keeps (R24), and
whether the OPENING under way aborted a close (R32, notes/assumptions/6.md). -/
structure DeviceLive where
  state : DeviceState
  pattern : Pattern
  owner : Option Requester
  origin : Option Requester
  lastRefusal : Option Refused
  failure : Option FailureKind
  discrepancy : Bool
  authorisations : Authorisations
  operateTimer : Timer
  persistence : Timer
  abortedClose : Bool
  deriving DecidableEq, Repr

/-- The Switching Unit: the live half of every device position, the debounced authority input and the two intertrip
lines. A line that is ASSERTED holds the incomer it records (section 2.10). -/
structure SwitchingUnit where
  devices : Vector DeviceLive 48
  authority : Authority
  intertrips : Vector (Option DeviceId) 2
  deriving DecidableEq, Repr

/-- The results of a completion notice (R36). -/
inductive Result where
  | done | failed | aborted
  deriving DecidableEq, Repr

/-- The causes of a position notice (R36). -/
inductive Cause where
  | origin (r : Requester)
  | external
  | localChange
  | late
  | settled
  deriving DecidableEq, Repr

/-! ## Topology Map (chapter 3) -/

/-- An entry of the bus-to-device index (R48). The device kind is the constructor of terminal B. -/
structure IndexEntry where
  terminalA : BusId
  terminalB : TerminalB
  deriving DecidableEq, Repr

/-- The threshold classes of a bus (R49). -/
inductive ThresholdClass where
  | high | low | middle | none
  deriving DecidableEq, Repr

/-- The energisations of an island (R52). -/
inductive Energisation where
  | live | dead | residual
  deriving DecidableEq, Repr

/-- The kinds of an island (R53). -/
inductive IslandKind where
  | dead | utility | generator | parallel
  deriving DecidableEq, Repr

/-- An island record (R50). The classes of its members stand with the buses. -/
structure Island where
  id : BusId
  members : List BusId
  utilities : List UtilityId
  generators : List GeneratorId
  blocks : List BlockId
  energisation : Energisation
  kind : IslandKind
  deriving DecidableEq, Repr

/-- The Topology Map: the buses in use with their points and classes, the buses damaged in service (R47), the conducting
state of each device as last notified (R48), the bus-to-device index and the islands. -/
structure TopologyMap where
  inUse : Vector Bool 8
  points : Vector (Option PointId) 8
  damaged : Vector Bool 8
  classes : Vector ThresholdClass 8
  conducting : Vector Bool 48
  index : Vector (Option IndexEntry) 48
  islands : List Island
  deriving DecidableEq, Repr

/-- Which fields of an island differ from the former island of the same id (R55). -/
structure ChangedFields where
  members : Bool
  sources : Bool
  blocks : Bool
  energisation : Bool
  kind : Bool
  deriving DecidableEq, Repr

/-- An island-change notice (R55). -/
structure IslandNotice where
  oldIds : List BusId
  island : Island
  changed : ChangedFields
  deriving DecidableEq, Repr

/-! ## Lockout Table (chapter 4) -/

/-- An entry of the pending list (R66). -/
structure PendingEntry where
  device : DeviceId
  kind : LockoutKind
  origin : LockoutOrigin
  reason : Nat
  deriving DecidableEq, Repr

/-- The Lockout Table: the cover counts and the pending list (R61). Its records stand in the Store. -/
structure LockoutTable where
  cover : Vector Nat 48
  pending : List PendingEntry
  deriving DecidableEq, Repr

/-! ## Lane Interface (chapter 5) -/

/-- The lane states, in the order of R71. -/
inductive LaneState where
  | disabled | down | up | silent
  deriving DecidableEq, Repr

/-- The eight discard counts of a lane, in the order of R75. -/
structure DiscardCounts where
  character : Nat
  kind : Nat
  check : Nat
  truncated : Nat
  duplicate : Nat
  old : Nat
  breaks : Nat
  accepted : Nat
  deriving DecidableEq, Repr

/-- A frame being assembled: its header, its length in characters with the header, whether one of its characters
carried an error, and the bytes after the header in the order they arrived (R73). -/
structure Assembly where
  header : Byte
  length : Nat
  bad : Bool
  bytes : List Byte
  deriving DecidableEq, Repr

/-- The run commands of a generator (R82). -/
inductive RunCommand where
  | stop | run | stopNow
  deriving DecidableEq, Repr

/-- A SETPOINT content (R82). -/
structure Content where
  run : RunCommand
  target : Nat
  frequencyNudge : Int
  voltageNudge : Int
  deriving DecidableEq, Repr

/-- A SETPOINT frame in transmission (R82). -/
structure Sending where
  sequence : Byte
  content : Content
  deriving DecidableEq, Repr

/-- One lane: its entry of the Station lane list as taken into service, its receiver and its transmitter (R71 to R77,
R82). The receive line is spacing from a break until it returns to marking (R74). -/
structure LaneLive where
  state : LaneState
  entry : Option LaneSettings
  lastSequence : Option Byte
  counts : DiscardCounts
  assembly : Option Assembly
  spacing : Bool
  silence : Timer
  sending : Option Sending
  waiting : Option Content
  outbound : Byte
  deriving DecidableEq, Repr

/-- The statuses of a point (R78). -/
inductive PointStatus where
  | none | fresh | stale | test
  deriving DecidableEq, Repr

/-- A test in progress on a point: its held state, the test values and mode, and the two timers (R83). -/
structure TestHold where
  heldStatus : PointStatus
  heldValues : PointValues
  heldDelta : Nat
  values : PointValues
  mode : TestMode
  interval : Timer
  duration : Timer
  deriving DecidableEq, Repr

/-- The live half of a point (R78). The kind is present while the point is in use. -/
structure PointLive where
  kind : Option PointKind
  status : PointStatus
  values : PointValues
  delta : Nat
  missed : Nat
  test : Option TestHold
  deriving DecidableEq, Repr

/-- The Lane Interface: the lanes, the points and the test count (R71, R78, R83). -/
structure LaneInterface where
  lanes : Vector LaneLive 16
  points : Vector PointLive 64
  testCount : Nat
  deriving DecidableEq, Repr

/-- What a point-update notice says of an update: its Δt and, for a test application, the mode (R81). -/
structure UpdateMark where
  delta : Nat
  test : Option TestMode
  deriving DecidableEq, Repr

/-- A point-update notice (R81). A status change carries no update mark. -/
structure PointNotice where
  point : PointId
  status : PointStatus
  values : PointValues
  update : Option UpdateMark
  endOfTest : Bool
  deriving DecidableEq, Repr

/-! ## Protection Unit (chapters 6 and 7) -/

/-- The element states, in the order of R85. -/
inductive ElementState where
  | idle | pickedUp | resetting | tripped | blind | damaged | disabled
  deriving DecidableEq, Repr

/-- The live half of an element record (R85). -/
structure ElementLive where
  state : ElementState
  accumulator : Nat
  zone : Timer
  blind : LatchedTimer
  target : Bool
  deriving DecidableEq, Repr

/-- What a breaker failure asked for beside its backup trips (R106). -/
inductive Asked where
  | nothing | intertrip | stopNow
  deriving DecidableEq, Repr

/-- The last breaker-failure record (R106). -/
structure BreakerFailureRecord where
  device : DeviceId
  origin : Requester
  backup : List DeviceId
  asked : Asked
  deriving DecidableEq, Repr

/-- The Protection Unit. A point's watch list is the elements whose `watch` is that point, in ascending order (R86); an
element's restraint list is the elements whose `upstream` is that element (R114); the elements of a device in the guard
index are those whose `guards` is that device (R16). -/
structure ProtectionUnit where
  elements : Vector ElementLive 64
  watch : Vector (Option PointId) 64
  upstream : Vector (Option ElementId) 64
  guards : Vector (Option DeviceId) 64
  testStanding : Vector (Option TestMode) 64
  unprotected : Vector Bool 48
  lastFailure : Option BreakerFailureRecord
  deriving DecidableEq, Repr

/-! ## Changeover Unit (chapter 8) -/

/-- The qualification states, in the order of R118. -/
inductive Qualification where
  | unknown | absent | outOfWindow | qualifying | qualified | failing | lost
  deriving DecidableEq, Repr

/-- The qualification timer: the loss timer or the return timer, RUNNING or FROZEN (R118). -/
inductive QualificationTimer where
  | stopped
  | loss (frozen : Bool) (left : Nat)
  | back (frozen : Bool) (left : Nat)
  deriving DecidableEq, Repr

/-- The live half of a utility record (R118). The in-service settings are present while the utility is in use;
`measured` is false once the record was damaged in service (R122). -/
structure UtilityLive where
  qualification : Qualification
  underlying : Option Qualification
  timer : QualificationTimer
  settings : Option UtilitySettings
  measured : Bool
  deriving DecidableEq, Repr

/-- The side states, in the order of R125. -/
inductive SideState where
  | unset | manual | normal | isolating | deadWait | altTie | genWait | altGen | onTie | onGen | awaitSource
  | rtSync | rtOverlap | rtOpening | rtClosing | locked
  deriving DecidableEq, Repr

/-- The steps of ALT_TIE and GEN_WAIT (R125). -/
inductive Step where
  | wait | preShed | close
  deriving DecidableEq, Repr

/-- How a side waits for an open it requested (R125): not at all, for its completion, or, where another owner's open was
already under way, for the position notice. -/
inductive OpenWait where
  | none
  | completion (d : DeviceId)
  | position (d : DeviceId)
  | met
  deriving DecidableEq, Repr

/-- A side of the Intake Scheme (R125). `closeSent` and `openWait` are where its close or open request stands. -/
structure SideLive where
  state : SideState
  step : Option Step
  feeding : Option DeviceId
  dead : LatchedTimer
  sync : Timer
  supply : Bool
  closeSent : Bool
  openWait : OpenWait
  deriving DecidableEq, Repr

/-- An overlap timer: the PARALLEL island it belongs to and its elapsed time (R136). -/
structure OverlapTimer where
  island : BusId
  elapsed : Nat
  deriving DecidableEq, Repr

/-- The Changeover Unit: the utilities, the scheme mode, the in-service copy of the scheme, the sides, the tie claim and
the overlap timers (R118 to R136). -/
structure ChangeoverUnit where
  utilities : Vector UtilityLive 2
  mode : SchemeMode
  scheme : Option SchemeSettings
  sides : Vector SideLive 2
  claim : Option SideId
  overlaps : List OverlapTimer
  deriving DecidableEq, Repr

/-! ## Paralleling Unit (chapter 9) -/

/-- The generator states, in the order of R137. -/
inductive GeneratorState where
  | unset | unavailable | stopped | starting | ready | deadClosing | syncing | syncClosing | online | unloading
  | disconnecting | cooldown | failed
  deriving DecidableEq, Repr

/-- The failure reasons of a generator, in the order of R137. -/
inductive GeneratorFailure where
  | startTimeout | fault | tripped | close | open | syncTimeout | breakerFailure | damaged
  deriving DecidableEq, Repr

/-- The host marks of a generator (R137). -/
inductive HostMark where
  | none | run | held
  deriving DecidableEq, Repr

/-- The live half of a generator record and its in-service copy (R137), with the reference point and closing time chosen
at its last entry into SYNCING (R145). -/
structure GeneratorLive where
  state : GeneratorState
  sequence : Option Nat
  target : Nat
  frequencyNudge : Int
  voltageNudge : Int
  failure : Option GeneratorFailure
  run : RunCommand
  mark : HostMark
  startTimer : Timer
  syncTimer : LatchedTimer
  unloadTimer : Timer
  cooldownTimer : Timer
  settings : Option GeneratorSettings
  reference : Option PointId
  closingTime : Nat
  deriving DecidableEq, Repr

/-- A dead-bus arbiter (R143). -/
structure Arbiter where
  queue : List GeneratorId
  grant : Option GeneratorId
  deriving DecidableEq, Repr

/-- An island sync: the side that asked for it, its incomer, the incomer's closing time and the bus of its incoming side,
the incomer's terminal A as the index last had it (R147). -/
structure IslandSync where
  side : SideId
  incomer : DeviceId
  closingTime : Nat
  incoming : Option BusId
  deriving DecidableEq, Repr

/-- A host tie sync (R148). -/
structure HostTieSync where
  tie : DeviceId
  incoming : BusId
  running : BusId
  closingTime : Nat
  limit : Timer
  deriving DecidableEq, Repr

/-- The add and remove timers of an island of kind GENERATOR (R150). -/
structure IslandTimers where
  island : BusId
  add : Timer
  remove : Timer
  deriving DecidableEq, Repr

/-- The Paralleling Unit (R137). `supplySeen` is whether supply was wanted when the unit last judged it (R140). -/
structure ParallelingUnit where
  generators : Vector GeneratorLive 12
  onlineCounter : Nat
  arbiters : Vector (Option Arbiter) 8
  islandSync : Option IslandSync
  waitingSync : Option (SideId × DeviceId)
  hostSync : Option HostTieSync
  islandTimers : List IslandTimers
  supplySeen : Bool
  deriving DecidableEq, Repr

/-! ## Load Unit (chapter 10) -/

/-- The load-block states, in the order of R155. -/
inductive BlockState where
  | unset | served | dark | shed | restoring | held | retired
  deriving DecidableEq, Repr

/-- Who restores a RESTORING block (R155). -/
inductive Restorer where
  | loadUnit | supervisor
  deriving DecidableEq, Repr

/-- The live half of a load-block record and its in-service copy (R155). -/
structure BlockLive where
  state : BlockState
  demand : Option Nat
  servedSequence : Option Nat
  shedSequence : Option Nat
  island : Option BusId
  restorer : Option Restorer
  settings : Option BlockSettings
  deriving DecidableEq, Repr

/-- A pre-shed held for a side (R161). Each outstanding open is a block with the feeder it was sent to. -/
structure PreShed where
  island : BusId
  target : Nat
  remaining : Nat
  outstanding : List (BlockId × DeviceId)
  deriving DecidableEq, Repr

/-- The values the Load Unit keeps for an island (R158). Capacity and headroom are absent for kinds PARALLEL and DEAD. -/
structure Balance where
  island : BusId
  members : List BusId
  capacity : Option Nat
  demand : Nat
  headroom : Option Nat
  critical : Nat
  deriving DecidableEq, Repr

/-- The Load Unit (R155 to R164). `balances` are the values it last worked out, `notified` those its last headroom
notices gave, and `due` says that an event has worked them out and its headroom notices are still to be sent (R158). -/
structure LoadUnit where
  blocks : Vector BlockLive 24
  servedCounter : Nat
  shedCounter : Nat
  queue : List BlockId
  restoreTimer : Timer
  preSheds : Vector (Option PreShed) 2
  balances : List Balance
  notified : List Balance
  due : Bool
  deriving DecidableEq, Repr

/-! ## Service Control (chapter 11) -/

/-- The four hold reasons, in the order of R171. -/
inductive HoldReason where
  | lockoutPending | lockoutDamaged | busDamaged | supervisor
  deriving DecidableEq, Repr

/-- The hold-reason set (R171). -/
structure HoldSet where
  lockoutPending : Bool
  lockoutDamaged : Bool
  busDamaged : Bool
  supervisor : Bool
  deriving DecidableEq, Repr

/-- Service Control: the service state, the hold-reason set and the Station values taken into service at the last entry
(R167, R171). -/
structure ServiceControl where
  inService : Bool
  hold : HoldSet
  station : Option StationSettings
  deriving DecidableEq, Repr

/-! ## Supervisory Port (chapter 12) -/

/-- The nine attention flags, in the order of R175. -/
inductive AttentionFlag where
  | device | protection | lockout | changeover | generator | load | record | lane | hold
  deriving DecidableEq, Repr

/-- The attention flags as the port keeps them (R175). -/
structure AttentionFlags where
  device : Bool
  protection : Bool
  lockout : Bool
  changeover : Bool
  generator : Bool
  load : Bool
  record : Bool
  lane : Bool
  hold : Bool
  deriving DecidableEq, Repr

/-- The status codes (R174). -/
inductive Status where
  | ok | accepted | already | refused | badCheck | badRequest | badKind | badIndex | range | state | damaged
  | origin | authority
  deriving DecidableEq, Repr

/-- A prepared response, less the marks, which are copied into it as it is shifted out (R173, R178). -/
structure Response where
  code : Byte
  tag : Byte
  status : Status
  body : List Byte
  deriving DecidableEq, Repr

/-- What a transaction in progress shifts out: the prepared response with the marks copied into it, or the BUSY
pattern (R173). -/
inductive Presented where
  | response (collision incomplete attention : Bool)
  | busy
  deriving DecidableEq, Repr

/-- The attention flags and the changed marks, which the port keeps and the blocks set (R175, R177). ATTN is asserted
while any flag is set. -/
structure Attention where
  flags : AttentionFlags
  changed : Vector Bool 256
  deriving DecidableEq, Repr

/-- The buffers of the Supervisory Port: the response buffer, the port marks, the transaction in progress and the request
that waits to be taken (R173, R174). PRDY is high while a response is present. -/
structure PortBuffers where
  response : Option Response
  collision : Bool
  incomplete : Bool
  transaction : Option Presented
  request : Option (List Byte)
  deriving DecidableEq, Repr

/-! ## Notices inside one event -/

/-- The three automatic units, in the order in which notices are sent to them (R36, R55, R171). -/
inductive Consumer where
  | changeover | paralleling | load
  deriving DecidableEq, Repr

/-- The blocks a point-update notice goes to, in the order of R81. -/
inductive PointUser where
  | protection | topology | changeover | paralleling | load
  deriving DecidableEq, Repr

/-- A notice sent by one block and not yet taken by the block it is for. The notices of an event are taken in the order
in which they were sent (notes/assumptions/2.md). -/
inductive Notice where
  /-- R36, to the owner of an operation -/
  | completion (owner : Requester) (d : DeviceId) (result : Result) (action : Action) (origin : Requester)
  /-- R35, R106, to the Protection Unit -/
  | breakerFailure (d : DeviceId) (origin : Requester)
  /-- R36, R41, to one consumer -/
  | position (consumer : Consumer) (d : DeviceId) (position : Position) (cause : Cause)
  /-- R40, to the Topology Map -/
  | conducting (d : DeviceId)
  /-- R51, to the Topology Map: the observed position of a GENERATOR device has changed -/
  | source
  /-- R55, the island-change notices of one recomputation, to one consumer -/
  | islands (consumer : Consumer) (changes : List IslandNotice)
  /-- R81, to one user of the point -/
  | point (user : PointUser) (n : PointNotice)
  /-- R80, to the Paralleling Unit; `delta` is the frame's Δt -/
  | generatorState (lane : LaneId) (ready fault : Bool) (delta : Nat)
  /-- R139, to the Paralleling Unit: a lane's former and new state -/
  | lane (lane : LaneId) (former state : LaneState)
  /-- R82, the content that an accepted GENSTATE frame forms -/
  | formContent (lane : LaneId)
  /-- R64, to the Changeover Unit -/
  | lockout (d : DeviceId) (count : Nat) (pending : Bool) (becameLocked : Bool)
  /-- R171, to one consumer -/
  | holdEnded (consumer : Consumer)
  /-- R161, the answer "complete" to a side -/
  | preShedComplete (side : SideId)
  /-- R140, to the Paralleling Unit: supply has been taken or withdrawn -/
  | supply
  /-- R158, to the Load Unit -/
  | rating
  /-- R158, the headroom notices of one event, to one consumer -/
  | headroom (consumer : Consumer) (changes : List Balance)
  /-- R143, a grant pass of a bus's arbiter is due -/
  | grantPass (bus : BusId)
  /-- R149, share targets are due for a generator's island -/
  | shares (g : GeneratorId)
  /-- R128, R129, R131, told to a side: the other side has changed its state from `old` -/
  | sideChanged (told : SideId) (old : SideState)
  /-- R126, R128, told to a side: the other side has released the claim -/
  | claimReleased (told : SideId)
  /-- R164, a trigger of a restore attempt -/
  | restoreTrigger
  deriving DecidableEq, Repr

/-! ## State -/

/-- What the ten blocks behind the port hold, with the attention flags and changed marks they set. `notices` are the
notices an event has sent and no block has taken yet, empty between events. `freeReads` is the model's own: how many free
values have been read (notes/assumptions/4.md). -/
structure Parts where
  store : RecordStore
  switching : SwitchingUnit
  topology : TopologyMap
  lockouts : LockoutTable
  lanes : LaneInterface
  protection : ProtectionUnit
  changeover : ChangeoverUnit
  paralleling : ParallelingUnit
  load : LoadUnit
  service : ServiceControl
  attention : Attention
  notices : List Notice
  freeReads : Nat
  deriving DecidableEq, Repr

/-- The whole LZ4816. `pending` is the queue of commands waiting, first in, first out; `inReset` is the reset line held
low; `port` are the buffers of the Supervisory Port, which no other block reaches; `parts` is everything else. -/
structure State where
  pending : List Instr
  inReset : Bool
  port : PortBuffers
  parts : Parts
  deriving DecidableEq, Repr

/-- The part has no fault: whatever is commanded, it goes on. Nothing raises one. -/
inductive Fault where
  deriving DecidableEq, Repr

/-- The reasons a command is refused by the model. -/
inductive Refusal where
  /-- A command that the model gives no meaning. Exec raises it in an arm rejected by name; safe: no effect is claimed. -/
  | notModelled (mnemonic : String)
  deriving DecidableEq, Repr

/-! ## Values after power-on, the reset line and LEAVE SERVICE -/

/-- A device's inputs with every line low. -/
def Pattern.low : Pattern := ⟨false, false, false, false⟩

/-- A device position out of service (R20), with the observed pattern it has. -/
def DeviceLive.initial (p : Pattern) : DeviceLive :=
  { state := .unset, pattern := p, owner := none, origin := none, lastRefusal := none, failure := none,
    discrepancy := false, authorisations := ⟨false, false⟩, operateTimer := .stopped, persistence := .stopped,
    abortedClose := false }

/-- The Record Store with every record EMPTY and the scrub stopped at position 0 (R2, R12). -/
def RecordStore.initial : RecordStore :=
  { station := none, buses := Vector.replicate 8 none, utilities := Vector.replicate 2 none,
    generators := Vector.replicate 12 none, devices := Vector.replicate 48 none,
    blocks := Vector.replicate 24 none, elements := Vector.replicate 64 none,
    lockouts := Vector.replicate 32 none, scheme := none, points := Vector.replicate 64 none,
    scrubPosition := 0, scrubTimer := .stopped }

/-- The Switching Unit with every device UNSET and the lines released (R20, R44). -/
def SwitchingUnit.initial (levels : InputLevels) : SwitchingUnit :=
  { devices := levels.patterns.map DeviceLive.initial, authority := levels.authority,
    intertrips := Vector.replicate 2 none }

/-- The Topology Map with no bus in use (R46) and an empty index (R16). -/
def TopologyMap.initial : TopologyMap :=
  { inUse := Vector.replicate 8 false, points := Vector.replicate 8 none, damaged := Vector.replicate 8 false,
    classes := Vector.replicate 8 .none, conducting := Vector.replicate 48 false,
    index := Vector.replicate 48 none, islands := [] }

/-- The Lockout Table with nothing held (R61). -/
def LockoutTable.initial : LockoutTable := { cover := Vector.replicate 48 0, pending := [] }

/-- Discard counts of 0 (R71). -/
def DiscardCounts.zero : DiscardCounts := ⟨0, 0, 0, 0, 0, 0, 0, 0⟩

/-- A lane out of service (R71). -/
def LaneLive.initial : LaneLive :=
  { state := .disabled, entry := none, lastSequence := none, counts := DiscardCounts.zero, assembly := none,
    spacing := false, silence := .stopped, sending := none, waiting := none, outbound := 0 }

/-- The values of a point out of service (R78): zero, with f at the given frequency. -/
def PointValues.initial (f : Int) : PointValues := ⟨0, 0, 0, 0, 0, f, 0, 0⟩

/-- A point out of service (R78). -/
def PointLive.initial (f : Int) : PointLive :=
  { kind := none, status := .none, values := PointValues.initial f, delta := 0, missed := 0, test := none }

/-- The Lane Interface out of service (R71, R78). -/
def LaneInterface.initial (f : Int) : LaneInterface :=
  { lanes := Vector.replicate 16 LaneLive.initial, points := Vector.replicate 64 (PointLive.initial f),
    testCount := 0 }

/-- An element position out of service (R85). -/
def ElementLive.initial : ElementLive :=
  { state := .idle, accumulator := 0, zone := .stopped, blind := .stopped, target := false }

/-- The Protection Unit out of service (R85, R106, R114), with the guard index it has. -/
def ProtectionUnit.initial (guards : Vector (Option DeviceId) 64) : ProtectionUnit :=
  { elements := Vector.replicate 64 ElementLive.initial, watch := Vector.replicate 64 none,
    upstream := Vector.replicate 64 none, guards := guards, testStanding := Vector.replicate 64 none,
    unprotected := Vector.replicate 48 false, lastFailure := none }

/-- A utility out of service (R118). -/
def UtilityLive.initial : UtilityLive :=
  { qualification := .unknown, underlying := none, timer := .stopped, settings := none, measured := false }

/-- A side out of service (R123). -/
def SideLive.initial : SideLive :=
  { state := .unset, step := none, feeding := none, dead := .stopped, sync := .stopped, supply := false,
    closeSent := false, openWait := .none }

/-- The Changeover Unit out of service (R118, R123, R136). -/
def ChangeoverUnit.initial : ChangeoverUnit :=
  { utilities := Vector.replicate 2 UtilityLive.initial, mode := .manual, scheme := none,
    sides := Vector.replicate 2 SideLive.initial, claim := none, overlaps := [] }

/-- A generator out of service (R137). -/
def GeneratorLive.initial : GeneratorLive :=
  { state := .unset, sequence := none, target := 0, frequencyNudge := 0, voltageNudge := 0, failure := none,
    run := .stop, mark := .none, startTimer := .stopped, syncTimer := .stopped, unloadTimer := .stopped,
    cooldownTimer := .stopped, settings := none, reference := none, closingTime := 0 }

/-- The Paralleling Unit out of service (R137). -/
def ParallelingUnit.initial : ParallelingUnit :=
  { generators := Vector.replicate 12 GeneratorLive.initial, onlineCounter := 0,
    arbiters := Vector.replicate 8 none, islandSync := none, waitingSync := none, hostSync := none,
    islandTimers := [], supplySeen := false }

/-- A block out of service (R155). -/
def BlockLive.initial : BlockLive :=
  { state := .unset, demand := none, servedSequence := none, shedSequence := none, island := none,
    restorer := none, settings := none }

/-- The Load Unit out of service (R155). -/
def LoadUnit.initial : LoadUnit :=
  { blocks := Vector.replicate 24 BlockLive.initial, servedCounter := 0, shedCounter := 0, queue := [],
    restoreTimer := .stopped, preSheds := Vector.replicate 2 none, balances := [], notified := [], due := false }

/-- The empty hold-reason set (R171). -/
def HoldSet.empty : HoldSet := ⟨false, false, false, false⟩

/-- No attention flag set (R175). -/
def AttentionFlags.clear : AttentionFlags := ⟨false, false, false, false, false, false, false, false, false⟩

/-- The start response (R173). -/
def Response.start : Response := { code := 0, tag := 0, status := .ok, body := [] }

/-- The attention flags and changed marks after power-on and after the reset line (R175, R177). -/
def Attention.initial : Attention := { flags := AttentionFlags.clear, changed := Vector.replicate 256 false }

/-- The Supervisory Port after power-on and after the reset line (R173). -/
def PortBuffers.initial : PortBuffers :=
  { response := some Response.start, collision := false, incomplete := false, transaction := none, request := none }

/-- The blocks at the values of their own chapters for power-on and the reset line (R167), with the input levels found
then, the Station values Service Control still keeps and the entry frequency of the points (R78). -/
def Parts.started (levels : InputLevels) (station : Option StationSettings) (f : Int) (freeReads : Nat) : Parts :=
  { store := RecordStore.initial, switching := SwitchingUnit.initial levels, topology := TopologyMap.initial,
    lockouts := LockoutTable.initial, lanes := LaneInterface.initial f,
    protection := ProtectionUnit.initial (Vector.replicate 64 none), changeover := ChangeoverUnit.initial,
    paralleling := ParallelingUnit.initial, load := LoadUnit.initial,
    service := { inService := false, hold := HoldSet.empty, station := station },
    attention := Attention.initial, notices := [], freeReads := freeReads }

/-- The whole part after power-on or the reset line, with the queue and the count of free values it has. -/
def State.started (levels : InputLevels) (station : Option StationSettings) (f : Int) (freeReads : Nat)
    (pending : List Instr) : State :=
  { pending := pending, inReset := false, port := PortBuffers.initial, parts := Parts.started levels station f freeReads }

/-- Every input line low: the levels State.reset starts from (notes/assumptions/1.md). -/
def InputLevels.low : InputLevels := { patterns := Vector.replicate 48 Pattern.low, authority := .localControl }

/-- The part right after power-on with every input line low (R167; notes/assumptions/1.md). -/
def State.reset : State := State.started InputLevels.low none 50000 0 []

end Sys2Proof.Machine
end

