-- ==== Sys2Proof/Machine/Operands.lean ====
section
/-!
DEFINITION. The operand forms of the commands as bytes: the numbers that travel for enumerated values (R178), multi-byte
fields, the host CRC (R178), the bodies of the requests (R179), and a request frame read as the command it spells.
-/

namespace Sys2Proof.Machine

/-! ## Lists of values. An enumerated value travels as its position in its list, counted from 0 (R178) -/

def RecordKind.all : List RecordKind :=
  [.station, .bus, .utility, .generator, .device, .block, .element, .lockout, .scheme, .point]
def RestoreMode.all : List RestoreMode := [.stepped, .headroom, .held]
def UnitKind.all : List UnitKind := [.sensing, .generator]
def PointKind.all : List PointKind := [.feeder, .bus, .utility, .generator]
def LockoutKind.all : List LockoutKind := [.tag, .protection, .breakerFailure, .bus]
def DeviceKind.all : List DeviceKind := [.incomer, .generator, .tie, .feeder]
def SupervisionMask.all : List SupervisionMask := [.none, .ready, .tripHealthy, .both]
def ElementKind.all : List ElementKind := [.overcurrent, .overvoltage, .reversePower]
def Quantity.all : List Quantity := [.phase, .residual]
def Curve.all : List Curve := [.inv1, .inv2, .definite]
def ResetMode.all : List ResetMode := [.instant, .timed]
def TransferStyle.all : List TransferStyle := [.open, .closed]
def Retransfer.all : List Retransfer := [.auto, .manual]
def PreferredAlternate.all : List PreferredAlternate := [.tieFirst, .generatorFirst]
def Action.all : List Action := [.close, .open]
def TestMode.all : List TestMode := [.blocked, .live]
def SchemeMode.all : List SchemeMode := [.auto, .manual]
/-- The requesters in the order of section 3.3 of the overview. -/
def Requester.all : List Requester :=
  [.supervisor, .changeover, .paralleling, .loadUnit, .protection, .breakerFailure, .overlap, .lockout]
def Integrity.all : List Integrity := [.sound, .corrected, .damaged]
def DeviceState.all : List DeviceState :=
  [.unset, .retired, .open, .closed, .closing, .opening, .failed, .uncertain]
def FailureKind.all : List FailureKind := [.failedClose, .failedOpen]
def ThresholdClass.all : List ThresholdClass := [.high, .low, .middle, .none]
def Energisation.all : List Energisation := [.live, .dead, .residual]
def IslandKind.all : List IslandKind := [.dead, .utility, .generator, .parallel]
def LaneState.all : List LaneState := [.disabled, .down, .up, .silent]
def PointStatus.all : List PointStatus := [.none, .fresh, .stale, .test]
def ElementState.all : List ElementState := [.idle, .pickedUp, .resetting, .tripped, .blind, .damaged, .disabled]
def Asked.all : List Asked := [.nothing, .intertrip, .stopNow]
def Qualification.all : List Qualification :=
  [.unknown, .absent, .outOfWindow, .qualifying, .qualified, .failing, .lost]
/-- The underlying states of a utility (R118), in the order of their list there. -/
def Qualification.underlyingAll : List Qualification :=
  [.absent, .outOfWindow, .qualifying, .qualified, .failing, .lost]
def SideState.all : List SideState :=
  [.unset, .manual, .normal, .isolating, .deadWait, .altTie, .genWait, .altGen, .onTie, .onGen, .awaitSource,
   .rtSync, .rtOverlap, .rtOpening, .rtClosing, .locked]
def Step.all : List Step := [.wait, .preShed, .close]
def GeneratorState.all : List GeneratorState :=
  [.unset, .unavailable, .stopped, .starting, .ready, .deadClosing, .syncing, .syncClosing, .online, .unloading,
   .disconnecting, .cooldown, .failed]
def GeneratorFailure.all : List GeneratorFailure :=
  [.startTimeout, .fault, .tripped, .close, .open, .syncTimeout, .breakerFailure, .damaged]
def RunCommand.all : List RunCommand := [.stop, .run, .stopNow]
def HostMark.all : List HostMark := [.none, .run, .held]
def BlockState.all : List BlockState := [.unset, .served, .dark, .shed, .restoring, .held, .retired]

/-- The number an enumerated value travels as (R178). -/
def codeIn {α : Type} [DecidableEq α] (xs : List α) (x : α) : Nat := xs.idxOf x

/-! ## Bytes, most significant byte first (R178) -/

/-- A byte that carries a number. -/
def byte (n : Nat) : Byte := BitVec.ofNat 8 n

/-- Two bytes, unsigned. -/
def bytes16 (n : Nat) : List Byte := [byte (n / 256), byte n]

/-- Two bytes, two's complement. -/
def bytesSigned16 (v : Int) : List Byte := bytes16 (BitVec.ofInt 16 v).toNat

/-- Four bytes, two's complement. -/
def bytesSigned32 (v : Int) : List Byte :=
  let n := (BitVec.ofInt 32 v).toNat
  [byte (n / 16777216), byte (n / 65536), byte (n / 256), byte n]

/-- Two bytes read as an unsigned number. -/
def read16 (a b : Byte) : Nat := a.toNat * 256 + b.toNat

/-- Two bytes read as a two's complement number. -/
def readSigned16 (a b : Byte) : Int := (BitVec.ofNat 16 (read16 a b)).toInt

/-- Four bytes read as a two's complement number. -/
def readSigned32 (a b c d : Byte) : Int := (BitVec.ofNat 32 (read16 a b * 65536 + read16 c d)).toInt

/-! ## CRC of host frames: polynomial 0x1021, initial value 0xFFFF, most significant bit first (R178) -/

/-- One bit of the division. -/
def crcShift (c : BitVec 16) : BitVec 16 := if c.msb then (c <<< 1) ^^^ 0x1021#16 else c <<< 1

/-- One byte taken into the CRC. -/
def crcByte (c : BitVec 16) (b : Byte) : BitVec 16 :=
  crcShift (crcShift (crcShift (crcShift (crcShift (crcShift (crcShift (crcShift
    (c ^^^ (b.zeroExtend 16 <<< 8)))))))))

/-- The CRC over a list of bytes. -/
def crc (bs : List Byte) : BitVec 16 := bs.foldl crcByte 0xFFFF#16

/-- The CRC field of a frame. -/
def crcBytes (bs : List Byte) : List Byte := bytes16 (crc bs).toNat

/-! ## Request bodies (R178, R179) -/

/-- The pairs of a body: one byte of field number and four signed bytes of value (R178). -/
def readPairs : List Byte → Option (List FieldPair)
  | [] => some []
  | f :: a :: b :: c :: d :: rest => (readPairs rest).map (⟨f.toNat, readSigned32 a b c d⟩ :: ·)
  | _ => none

/-- A pair as five bytes (R178). -/
def pairBytes (p : FieldPair) : List Byte := byte p.field :: bytesSigned32 p.value

/-- The command a request body spells, or nothing where the code is unknown or the body does not fit its layout (R174
step 2, R179). A kind byte is left to the owner (notes/assumptions/10.md). -/
def requestBody (code : Nat) (t : Byte) (body : List Byte) : Option Instr :=
  match code with
  | 0x01 => match body with | [k, i] => some (.read t k.toNat i.toNat) | _ => none
  | 0x02 => match body with | [k] => some (.readChanged t k.toNat) | _ => none
  | 0x03 => match body with | [] => some (.readIslands t) | _ => none
  | 0x04 => match body with | [] => some (.readSummary t) | _ => none
  | 0x05 => match body with | [a, b] => some (.acknowledge t (read16 a b)) | _ => none
  | 0x10 => match body with | k :: i :: ps => (readPairs ps).map (.load t k.toNat i.toNat ·) | _ => none
  | 0x11 => match body with | k :: i :: ps => (readPairs ps).map (.amend t k.toNat i.toNat ·) | _ => none
  | 0x12 => match body with | [k, i] => some (.retire t k.toNat i.toNat) | _ => none
  | 0x20 => match body with | [d, a] => Action.all[a.toNat]?.map (.operate t d.toNat ·) | _ => none
  | 0x21 => match body with | [d] => some (.syncClose t d.toNat) | _ => none
  | 0x22 => match body with | [d] => some (.acknowledgeFailure t d.toNat) | _ => none
  | 0x23 => match body with | [i] => some (.releaseIntertrip t i.toNat) | _ => none
  | 0x30 => match body with | a :: b :: ds => some (.placeLockout t (read16 a b) (ds.map BitVec.toNat)) | _ => none
  | 0x31 => match body with | k :: ds => some (.addDevices t k.toNat (ds.map BitVec.toNat)) | _ => none
  | 0x32 => match body with | k :: ds => some (.dropDevices t k.toNat (ds.map BitVec.toNat)) | _ => none
  | 0x33 => match body with | [k] => some (.releaseLockout t k.toNat) | _ => none
  | 0x40 => match body with | [e] => some (.resetElement t e.toNat) | _ => none
  | 0x41 => match body with
    | [p, a1, a0, b1, b0, c1, c0, r1, r0, v1, v0, f3, f2, f1, f0, h1, h0, p3, p2, p1, p0, m, d1, d0] =>
      TestMode.all[m.toNat]?.map fun mode =>
        .testInject t p.toNat
          { ia := read16 a1 a0, ib := read16 b1 b0, ic := read16 c1 c0, ir := read16 r1 r0, v := read16 v1 v0,
            f := readSigned32 f3 f2 f1 f0, phi := readSigned16 h1 h0, p := readSigned32 p3 p2 p1 p0 }
          mode (read16 d1 d0)
    | _ => none
  | 0x42 => match body with | [p] => some (.endTest t p.toNat) | _ => none
  | 0x50 => match body with | [m] => SchemeMode.all[m.toNat]?.map (.schemeMode t ·) | _ => none
  | 0x51 => match body with | [i] => some (.resetSide t i.toNat) | _ => none
  | 0x60 => match body with | [g] => some (.generatorStart t g.toNat) | _ => none
  | 0x61 => match body with | [g] => some (.generatorStop t g.toNat) | _ => none
  | 0x62 => match body with | [g] => some (.resetGenerator t g.toNat) | _ => none
  | 0x70 => match body with | [l] => some (.holdBlock t l.toNat) | _ => none
  | 0x71 => match body with | [l] => some (.releaseBlock t l.toNat) | _ => none
  | 0x72 => match body with | [l] => some (.shedBlock t l.toNat) | _ => none
  | 0x73 => match body with | [l] => some (.restoreBlock t l.toNat) | _ => none
  | 0x80 => match body with | [] => some (.hold t) | _ => none
  | 0x81 => match body with | [] => some (.resume t) | _ => none
  | 0x82 => match body with | [] => some (.enterService t) | _ => none
  | 0x83 => match body with | [] => some (.leaveService t) | _ => none
  | _ => none

/-- The declared length of a request, or nothing while it has fewer than four bytes. A body length above 1020 ends the
frame after byte 3 (R178). -/
def declaredLength : List Byte → Option Nat
  | _ :: _ :: a :: b :: _ => some (if read16 a b > Config.maximumBody then 4 else 6 + read16 a b)
  | _ => none

/-- Whether the CRC field of a request is right (R174 step 1). A frame that ends after byte 3 carries none and passes
(R178). -/
def crcHolds (frame : List Byte) : Bool :=
  match declaredLength frame with
  | some n => n = 4 || frame.drop (n - 2) == crcBytes (frame.take (n - 2))
  | none => false

/-- The body of a request frame. -/
def frameBody (frame : List Byte) : List Byte := (frame.drop 4).take (frame.length - 6)

/-- The command the taking of a request is (R174): the request its code and body spell, or UNKNOWN_REQUEST where the
check or the form fails. -/
def requestOf (frame : List Byte) : Instr :=
  match frame with
  | c :: t :: _ :: _ :: _ :: _ =>
    if crcHolds frame && declaredLength frame ≠ some 4 then
      (requestBody c.toNat t (frameBody frame)).getD (.unknownRequest frame)
    else .unknownRequest frame
  | _ => .unknownRequest frame

/-- The code and body of a request, for the commands that are host requests (section 12.2, R179). -/
def bodyOf : Instr → Option (Nat × Byte × List Byte)
  | .read t k i => some (0x01, t, [byte k, byte i])
  | .readChanged t k => some (0x02, t, [byte k])
  | .readIslands t => some (0x03, t, [])
  | .readSummary t => some (0x04, t, [])
  | .acknowledge t fs => some (0x05, t, bytes16 fs)
  | .load t k i ps => some (0x10, t, byte k :: byte i :: ps.flatMap pairBytes)
  | .amend t k i ps => some (0x11, t, byte k :: byte i :: ps.flatMap pairBytes)
  | .retire t k i => some (0x12, t, [byte k, byte i])
  | .operate t d a => some (0x20, t, [byte d, byte (codeIn Action.all a)])
  | .syncClose t d => some (0x21, t, [byte d])
  | .acknowledgeFailure t d => some (0x22, t, [byte d])
  | .releaseIntertrip t i => some (0x23, t, [byte i])
  | .placeLockout t r ds => some (0x30, t, bytes16 r ++ ds.map byte)
  | .addDevices t k ds => some (0x31, t, byte k :: ds.map byte)
  | .dropDevices t k ds => some (0x32, t, byte k :: ds.map byte)
  | .releaseLockout t k => some (0x33, t, [byte k])
  | .resetElement t e => some (0x40, t, [byte e])
  | .testInject t p v m n =>
    some (0x41, t, byte p :: (bytes16 v.ia ++ bytes16 v.ib ++ bytes16 v.ic ++ bytes16 v.ir ++ bytes16 v.v ++
      bytesSigned32 v.f ++ bytesSigned16 v.phi ++ bytesSigned32 v.p ++ [byte (codeIn TestMode.all m)] ++ bytes16 n))
  | .endTest t p => some (0x42, t, [byte p])
  | .schemeMode t m => some (0x50, t, [byte (codeIn SchemeMode.all m)])
  | .resetSide t i => some (0x51, t, [byte i])
  | .generatorStart t g => some (0x60, t, [byte g])
  | .generatorStop t g => some (0x61, t, [byte g])
  | .resetGenerator t g => some (0x62, t, [byte g])
  | .holdBlock t l => some (0x70, t, [byte l])
  | .releaseBlock t l => some (0x71, t, [byte l])
  | .shedBlock t l => some (0x72, t, [byte l])
  | .restoreBlock t l => some (0x73, t, [byte l])
  | .hold t => some (0x80, t, [])
  | .resume t => some (0x81, t, [])
  | .enterService t => some (0x82, t, [])
  | .leaveService t => some (0x83, t, [])
  | _ => none

/-- The frame a host sends for a request, with its CRC (R178). -/
def frameOf (i : Instr) : Option (List Byte) :=
  (bodyOf i).map fun (code, t, body) =>
    let head := byte code :: t :: bytes16 body.length ++ body
    head ++ crcBytes head

end Sys2Proof.Machine
end

