-- ==== Sys2Proof/Machine/Ops.lean ====
section
/-!
DEFINITION. The operations every block shares: the collections, the notices of an event, the changed marks and attention
flags, the check of a record (R10, R11), the hold-reason set (R171), the output lines, and the passing of time.
-/

namespace Sys2Proof.Machine

/-- What a meaning answers. -/
abbrev Effect := Host.Outcome State Fault Refusal

/-! ## The collections, in ascending order -/

def allBuses : List BusId := List.finRange 8
def allUtilities : List UtilityId := List.finRange 2
def allGenerators : List GeneratorId := List.finRange 12
def allDevices : List DeviceId := List.finRange 48
def allBlocks : List BlockId := List.finRange 24
def allElements : List ElementId := List.finRange 64
def allSlots : List SlotId := List.finRange 32
def allPoints : List PointId := List.finRange 64
def allLanes : List LaneId := List.finRange 16
def allSides : List SideId := List.finRange 2

/-- The member an index names, or nothing when it is out of range. -/
def index? (n k : Nat) : Option (Fin n) := if h : k < n then some ⟨k, h⟩ else none

/-- A value put into an ascending list at its place, once. -/
def insertAscending {n : Nat} (x : Fin n) : List (Fin n) → List (Fin n)
  | [] => [x]
  | y :: ys => if x < y then x :: y :: ys else if x = y then y :: ys else y :: insertAscending x ys

/-- The members of a list in ascending order, each once. -/
def ascending {n : Nat} (xs : List (Fin n)) : List (Fin n) := xs.foldl (fun acc x => insertAscending x acc) []

/-- A value put into a list before the first member it comes before. -/
def insertBy {α : Type} (before : α → α → Bool) (x : α) : List α → List α
  | [] => [x]
  | y :: ys => if before x y then x :: y :: ys else y :: insertBy before x ys

/-- A list put into the order `before` gives; members it does not separate keep their order. -/
def sortBy {α : Type} (before : α → α → Bool) : List α → List α
  | [] => []
  | x :: xs => insertBy (fun a b => !before b a) x (sortBy before xs)

/-- No member of a list occurs twice. -/
def distinct {α : Type} [DecidableEq α] : List α → Bool
  | [] => true
  | x :: xs => !xs.contains x && distinct xs

/-! ## Store indices (R1) -/

def stationIndex : StoreIndex := 0
def busIndex (b : BusId) : StoreIndex := ⟨1 + b.val, by omega⟩
def utilityIndex (u : UtilityId) : StoreIndex := ⟨9 + u.val, by omega⟩
def generatorIndex (g : GeneratorId) : StoreIndex := ⟨11 + g.val, by omega⟩
def deviceIndex (d : DeviceId) : StoreIndex := ⟨23 + d.val, by omega⟩
def blockIndex (l : BlockId) : StoreIndex := ⟨71 + l.val, by omega⟩
def elementIndex (e : ElementId) : StoreIndex := ⟨95 + e.val, by omega⟩
def lockoutIndex (k : SlotId) : StoreIndex := ⟨159 + k.val, by omega⟩
def schemeIndex : StoreIndex := 191
def pointIndex (p : PointId) : StoreIndex := ⟨192 + p.val, by omega⟩

/-! ## Notices, changed marks and attention flags -/

/-- Sends a notice: it is taken after those already sent (R36). -/
def Parts.send (s : Parts) (n : Notice) : Parts := { s with notices := s.notices ++ [n] }

/-- Sends notices in order. -/
def Parts.sendAll (s : Parts) (ns : List Notice) : Parts := { s with notices := s.notices ++ ns }

/-- Sets the changed mark of a record (R177). -/
def Parts.mark (s : Parts) (i : StoreIndex) : Parts := { s with attention.changed := s.attention.changed.set i true }

/-- Sets the changed mark of a record when a condition holds. -/
def Parts.markIf (s : Parts) (b : Bool) (i : StoreIndex) : Parts := if b then s.mark i else s

/-- An attention flag set (R175). -/
def AttentionFlags.raise (fs : AttentionFlags) : AttentionFlag → AttentionFlags
  | .device => { fs with device := true }
  | .protection => { fs with protection := true }
  | .lockout => { fs with lockout := true }
  | .changeover => { fs with changeover := true }
  | .generator => { fs with generator := true }
  | .load => { fs with load := true }
  | .record => { fs with record := true }
  | .lane => { fs with lane := true }
  | .hold => { fs with hold := true }

/-- Sets an attention flag (R175). -/
def Parts.raise (s : Parts) (f : AttentionFlag) : Parts := { s with attention.flags := s.attention.flags.raise f }

/-- Whether any attention flag is set (R175). -/
def AttentionFlags.any (fs : AttentionFlags) : Bool :=
  fs.device || fs.protection || fs.lockout || fs.changeover || fs.generator || fs.load || fs.record || fs.lane || fs.hold

/-! ## Output lines (section 8 of the overview) -/

/-- CLSn: asserted while the device is CLOSING (R22); no line is driven while RSTN is low (R167). -/
def State.closeLine (s : State) (d : DeviceId) : Bool := !s.inReset && s.parts.switching.devices[d].state == .closing

/-- TRPn: asserted while the device is OPENING (R22). -/
def State.tripLine (s : State) (d : DeviceId) : Bool := !s.inReset && s.parts.switching.devices[d].state == .opening

/-- IT0 and IT1 (R44). -/
def State.intertripLine (s : State) (i : SideId) : Bool := !s.inReset && s.parts.switching.intertrips[i].isSome

/-- PRDY (R173). -/
def State.prdy (s : State) : Bool := s.port.response.isSome

/-- ATTN (R175). -/
def State.attn (s : State) : Bool := s.parts.attention.flags.any

/-! ## Records (R2, R10, R11) -/

/-- A check code computed afresh over settings (R2). -/
def CheckCode.of {α : Type} (x : α) : CheckCode α := { covers := x, restores := true }

/-- A record as LOAD and a lockout placement leave it: ACTIVE, SOUND, with a new code (R13, section 1.4). -/
def Held.fresh {α : Type} (x : α) : Held α := { retired := false, integrity := .sound, settings := x, code := CheckCode.of x }

/-- A record with new settings and a code computed over them; its life and integrity states stay (R14). -/
def Held.rewrite {α : Type} (h : Held α) (x : α) : Held α := { h with settings := x, code := CheckCode.of x }

/-- The outcome of comparing a record's settings with its check code (section 1.3). -/
def Held.outcome {α : Type} [DecidableEq α] (h : Held α) : CheckOutcome :=
  if h.settings = h.code.covers then .valid else if h.code.restores then .nearValid else .invalid

/-- A record after a NEAR-VALID check: restored, code rewritten, CORRECTED (R10). -/
def Held.restore {α : Type} (h : Held α) : Held α :=
  { h with settings := h.code.covers, code := CheckCode.of h.code.covers, integrity := .corrected }

/-- A record after an INVALID check: DAMAGED, settings and code as found (R10). -/
def Held.damage {α : Type} (h : Held α) : Held α := { h with integrity := .damaged }

/-- Whether a position holds a record that is ACTIVE (R2). -/
def isActive {α : Type} : Option (Held α) → Bool
  | some h => !h.retired
  | none => false

/-- Whether a position holds a record that is DAMAGED (R10). -/
def isDamaged {α : Type} : Option (Held α) → Bool
  | some h => h.integrity == .damaged
  | none => false

/-- Whether a position holds an ACTIVE record that is SOUND or CORRECTED. -/
def isUsable {α : Type} (r : Option (Held α)) : Bool := isActive r && !isDamaged r

/-- The settings a position holds, as the Store holds them, whatever their integrity. -/
def settingsOf {α : Type} (r : Option (Held α)) : Option α := r.map Held.settings

/-- The settings of a position whose record is ACTIVE. -/
def activeSettings {α : Type} (r : Option (Held α)) : Option α := if isActive r then settingsOf r else none

/-- A check of one record (R10): `put` writes the record back, `i` is its store index, and `fallback` is what its owner
does at the damage notice. Answers the settings, VALID or restored, or none when the check found it INVALID. -/
def checkHeld {α : Type} [DecidableEq α] (h : Held α) (put : Held α → Parts → Parts) (i : StoreIndex)
    (fallback : Parts → Parts) (s : Parts) : Parts × Option α :=
  match h.outcome with
  | .valid => (s, some h.settings)
  | .nearValid => (((put h.restore s).raise .record).mark i, some h.code.covers)
  | .invalid => (fallback (((put h.damage s).raise .record).mark i), none)

/-- A read of a record's settings for an operation, with the check on use of R11. An EMPTY record answers none; a DAMAGED
one answers none and is not checked. -/
def useHeld {α : Type} [DecidableEq α] (r : Option (Held α)) (put : Held α → Parts → Parts) (i : StoreIndex)
    (fallback : Parts → Parts) (s : Parts) : Parts × Option α :=
  match r with
  | none => (s, none)
  | some h => if h.integrity = .damaged then (s, none) else checkHeld h put i fallback s

def Parts.putStation (s : Parts) (r : Option (Held StationSettings)) : Parts := { s with store.station := r }
def Parts.putBus (s : Parts) (b : BusId) (r : Option (Held BusSettings)) : Parts :=
  { s with store.buses := s.store.buses.set b r }
def Parts.putUtility (s : Parts) (u : UtilityId) (r : Option (Held UtilitySettings)) : Parts :=
  { s with store.utilities := s.store.utilities.set u r }
def Parts.putGenerator (s : Parts) (g : GeneratorId) (r : Option (Held GeneratorSettings)) : Parts :=
  { s with store.generators := s.store.generators.set g r }
def Parts.putDevice (s : Parts) (d : DeviceId) (r : Option (Held DeviceSettings)) : Parts :=
  { s with store.devices := s.store.devices.set d r }
def Parts.putBlock (s : Parts) (l : BlockId) (r : Option (Held BlockSettings)) : Parts :=
  { s with store.blocks := s.store.blocks.set l r }
def Parts.putElement (s : Parts) (e : ElementId) (r : Option (Held ElementSettings)) : Parts :=
  { s with store.elements := s.store.elements.set e r }
def Parts.putLockout (s : Parts) (k : SlotId) (r : Option (Held LockoutSettings)) : Parts :=
  { s with store.lockouts := s.store.lockouts.set k r }
def Parts.putScheme (s : Parts) (r : Option (Held SchemeSettings)) : Parts := { s with store.scheme := r }
def Parts.putPoint (s : Parts) (p : PointId) (r : Option (Held PointSettings)) : Parts :=
  { s with store.points := s.store.points.set p r }

/-- A read of a device record for an operation (R27, R30). The damage notice leaves the Switching Unit's state as it is:
a DAMAGED device is FROZEN from then on (R43). -/
def useDevice (d : DeviceId) (s : Parts) : Parts × Option DeviceSettings :=
  useHeld s.store.devices[d] (fun h s => s.putDevice d (some h)) (deviceIndex d) id s

/-! ## The hold-reason set (R171) -/

def HoldSet.has (h : HoldSet) : HoldReason → Bool
  | .lockoutPending => h.lockoutPending
  | .lockoutDamaged => h.lockoutDamaged
  | .busDamaged => h.busDamaged
  | .supervisor => h.supervisor

def HoldSet.put (h : HoldSet) (r : HoldReason) (b : Bool) : HoldSet :=
  match r with
  | .lockoutPending => { h with lockoutPending := b }
  | .lockoutDamaged => { h with lockoutDamaged := b }
  | .busDamaged => { h with busDamaged := b }
  | .supervisor => { h with supervisor := b }

def HoldSet.isEmpty (h : HoldSet) : Bool :=
  !(h.lockoutPending || h.lockoutDamaged || h.busDamaged || h.supervisor)

/-- Whether the part is in hold (R171). -/
def Parts.inHold (s : Parts) : Bool := !s.service.hold.isEmpty

/-- Adds a hold reason and sets the HOLD flag; a reason already present changes nothing (R171). No reason is added while
the part is CONFIGURING. -/
def Parts.addHold (s : Parts) (r : HoldReason) : Parts :=
  if !s.service.inService || s.service.hold.has r then s
  else { s with service.hold := s.service.hold.put r true }.raise .hold

/-- Removes a hold reason, and sends the hold-ended notice when the set has become empty (R171). -/
def Parts.removeHold (s : Parts) (r : HoldReason) : Parts :=
  if !s.service.hold.has r then s
  else
    let s := { s with service.hold := s.service.hold.put r false }
    if s.inHold then s
    else s.sendAll [.holdEnded .changeover, .holdEnded .paralleling, .holdEnded .load]

/-! ## Time (notes/assumptions/5.md) -/

def Timer.tick (n : Nat) : Timer → Timer
  | .stopped => .stopped
  | .running left => .running (left - n)

def Timer.isRunning : Timer → Bool
  | .stopped => false
  | .running _ => true

def LatchedTimer.tick (n : Nat) : LatchedTimer → LatchedTimer
  | .stopped => .stopped
  | .running left => .running (left - n)
  | .ended => .ended

def LatchedTimer.isRunning : LatchedTimer → Bool
  | .running _ => true
  | _ => false

def QualificationTimer.tick (n : Nat) : QualificationTimer → QualificationTimer
  | .loss false left => .loss false (left - n)
  | .back false left => .back false (left - n)
  | t => t

/-- The maximum overlap in force (R136). -/
def Parts.maximumOverlap (s : Parts) : Nat :=
  match s.changeover.scheme with
  | some c => c.maximumOverlap
  | none => Config.defaultMaximumOverlap

/-- One ms passes: every running timer counts down by one ms and stands at 0 until its expiry is commanded, and every
overlap timer counts up to the maximum overlap in force. One already above a maximum that a LOAD has made smaller stays
where it is (notes/assumptions/24.md). Nothing else changes. -/
def Parts.elapse (s : Parts) : Parts :=
  { s with
    store.scrubTimer := s.store.scrubTimer.tick 32
    switching.devices := s.switching.devices.map fun d =>
      { d with operateTimer := d.operateTimer.tick 1, persistence := d.persistence.tick 1 }
    lanes.lanes := s.lanes.lanes.map fun l => { l with silence := l.silence.tick 1 }
    lanes.points := s.lanes.points.map fun p =>
      { p with test := p.test.map fun t => { t with interval := t.interval.tick 1, duration := t.duration.tick 1 } }
    protection.elements := s.protection.elements.map fun e =>
      { e with zone := e.zone.tick 1, blind := e.blind.tick 1 }
    changeover.utilities := s.changeover.utilities.map fun u => { u with timer := u.timer.tick 1 }
    changeover.sides := s.changeover.sides.map fun x => { x with dead := x.dead.tick 1, sync := x.sync.tick 1 }
    changeover.overlaps := s.changeover.overlaps.map fun t =>
      { t with elapsed := min (t.elapsed + 1) (max t.elapsed s.maximumOverlap) }
    paralleling.generators := s.paralleling.generators.map fun g =>
      { g with startTimer := g.startTimer.tick 1, syncTimer := g.syncTimer.tick 1,
               unloadTimer := g.unloadTimer.tick 1, cooldownTimer := g.cooldownTimer.tick 1 }
    paralleling.hostSync := s.paralleling.hostSync.map fun h => { h with limit := h.limit.tick 1 }
    paralleling.islandTimers := s.paralleling.islandTimers.map fun t =>
      { t with add := t.add.tick 1, remove := t.remove.tick 1 }
    load.restoreTimer := s.load.restoreTimer.tick 1 }

end Sys2Proof.Machine
end

