-- ==== Sys2Proof/Machine/Flags.lean ====
section
/-!
DEFINITION. What the host sees as numbers: status codes (R178), refusal reasons and sub-reasons (R174), attention flags
as a bit mask (R179), the answering of a request (R174) and the bytes of a response as they are shifted out (R173).
-/

namespace Sys2Proof.Machine

/-- The status byte of a response (R178). -/
def Status.number : Status → Nat
  | .ok => 0x00
  | .accepted => 0x01
  | .already => 0x02
  | .refused => 0x03
  | .badCheck => 0x10
  | .badRequest => 0x11
  | .badKind => 0x12
  | .badIndex => 0x13
  | .range => 0x14
  | .state => 0x15
  | .damaged => 0x16
  | .origin => 0x17
  | .authority => 0x18

/-- The number of a refusal reason: its step of the close chain, with UNCERTAIN 15 and the two refusals of an open 13
and 14 (R174, R26). -/
def RefusalReason.number : RefusalReason → Nat
  | .retired => 1
  | .damaged => 2
  | .hold => 3
  | .failed => 4
  | .uncertain => 15
  | .busy => 5
  | .locked => 7
  | .authority => 8
  | .unprotected => 9
  | .notReady => 10
  | .topology => 11
  | .capacity => 12
  | .openRetired => 13
  | .openAuthority => 14

/-- The number of a sub-reason: its step of the topology check (R57, R174). -/
def TopologySub.number : TopologySub → Nat
  | .utilityParallel => 1
  | .sourceParallel => 2
  | .residual => 3
  | .liveLive => 4
  | .noGrant => 5

/-- The body of a REFUSED answer: reason, then sub-reason, 0 where there is none (R179). -/
def Refused.body (r : Refused) : List Byte := [byte r.reason.number, byte (r.sub.elim 0 TopologySub.number)]

/-- A number as a bit mask over a list of bits, the first bit least significant (R178). -/
def maskOf : List Bool → Nat
  | [] => 0
  | b :: bs => (if b then 1 else 0) + 2 * maskOf bs

/-- The bit of a number at a place. -/
def bitAt (n k : Nat) : Bool := n.testBit k

/-- The nine flags as a mask, DEVICE bit 0 to HOLD bit 8 (R179). -/
def AttentionFlags.mask (fs : AttentionFlags) : Nat :=
  maskOf [fs.device, fs.protection, fs.lockout, fs.changeover, fs.generator, fs.load, fs.record, fs.lane, fs.hold]

/-- The flags with those a mask names cleared (R175). -/
def AttentionFlags.lower (fs : AttentionFlags) (m : Nat) : AttentionFlags :=
  { device := fs.device && !bitAt m 0, protection := fs.protection && !bitAt m 1,
    lockout := fs.lockout && !bitAt m 2, changeover := fs.changeover && !bitAt m 3,
    generator := fs.generator && !bitAt m 4, load := fs.load && !bitAt m 5,
    record := fs.record && !bitAt m 6, lane := fs.lane && !bitAt m 7, hold := fs.hold && !bitAt m 8 }

/-- A hold-reason set as its byte (R179). -/
def HoldSet.mask (h : HoldSet) : Nat := maskOf [h.lockoutPending, h.lockoutDamaged, h.busDamaged, h.supervisor]

/-- What an owner answers a request: a status, or what the Switching Unit answered (R174). -/
inductive Reply where
  | status (x : Status)
  | answer (a : Answer)
  deriving DecidableEq, Repr

/-- The status of a reply. -/
def Reply.code : Reply → Status
  | .status x => x
  | .answer .accepted => .accepted
  | .answer .already => .already
  | .answer (.refused _) => .refused

/-- The body of a reply: reason and sub-reason of a REFUSED answer, else empty (R179). -/
def Reply.body : Reply → List Byte
  | .answer (.refused r) => r.body
  | _ => []

/-- A response as bytes, with the marks shifted out with it (R178). -/
def Response.bytes (r : Response) (collision incomplete attention : Bool) : List Byte :=
  let frame := [r.code, r.tag, byte r.status.number, byte (maskOf [collision, incomplete, attention])] ++
    bytes16 r.body.length ++ r.body
  frame ++ crcBytes frame

/-- What a transaction in progress shifts out over its first n bytes: the response followed by 0x00, or the BUSY pattern
(R173). -/
def State.shiftedOut (s : State) (n : Nat) : List Byte :=
  match s.port.transaction, s.port.response with
  | some (.response c i a), some r => (r.bytes c i a ++ List.replicate n 0x00#8).take n
  | some .busy, _ => List.replicate n Config.busyByte
  | _, _ => []

end Sys2Proof.Machine
end

