-- ==== Sys2Proof/Machine/Settings.lean ====
section
/-!
DEFINITION. The settings of the ten record kinds as (field number, value) pairs: which fields a kind has and must have
(R3, R13), their ranges and cross-field cases (R4 to R9), and the pairs a READ returns (R178).
-/

namespace Sys2Proof

open Sys2Proof.Machine

/-! ## Reading one value. Nothing is answered for a value out of range -/

/-- The value a list of pairs gives a field. -/
def valueOf (ps : List FieldPair) (n : Nat) : Option Int := (ps.find? (·.field == n)).map FieldPair.value

/-- A number in an inclusive range. -/
def numberIn (lo hi : Nat) (v : Int) : Option Nat := if (lo : Int) ≤ v ∧ v ≤ hi then some v.toNat else none

/-- An index below n. -/
def indexIn (n : Nat) (v : Int) : Option (Fin n) := if 0 ≤ v then index? n v.toNat else none

/-- An enumerated value by its position (R178). -/
def enumIn {α : Type} (xs : List α) (v : Int) : Option α := if 0 ≤ v then xs[v.toNat]? else none

/-- Yes 1, no 0 (R178). -/
def yesNo (v : Int) : Option Bool := if v = 1 then some true else if v = 0 then some false else none

/-- A setting that must be there. -/
def need {α : Type} (ps : List FieldPair) (n : Nat) (read : Int → Option α) : Option α := (valueOf ps n).bind read

/-- An optional setting: absent, or a value that must be in range. -/
def may {α : Type} (ps : List FieldPair) (n : Nat) (read : Int → Option α) : Option (Option α) :=
  match valueOf ps n with
  | none => some none
  | some v => (read v).map some

/-- A value where a condition holds. -/
def guardThat {α : Type} (b : Bool) (x : α) : Option α := if b then some x else none

/-! ## The kinds -/

def readLane (ps : List FieldPair) (n : LaneId) : Option LaneSettings := do
  let enabled ← need ps (16 + 4 * n.val) yesNo
  let unitKind ← need ps (17 + 4 * n.val) (enumIn UnitKind.all)
  let rate ← (need ps (18 + 4 * n.val) (numberIn 1 8)).bind fun r => guardThat (r == 1 || r == 2 || r == 4 || r == 8) r
  let silenceLimit ← need ps (19 + 4 * n.val) (numberIn 2 16)
  pure { enabled, unitKind, rate, silenceLimit }

/-- The Station settings (R4). -/
def readStation (ps : List FieldPair) : Option StationSettings := do
  let hz ← need ps 1 (numberIn 50 60)
  let nominal ← if hz = 50 then some .hz50 else if hz = 60 then some .hz60 else none
  let interval ← need ps 2 (numberIn 8 50)
  let liveThreshold ← need ps 3 (numberIn 500 1000)
  let deadThreshold ← need ps 4 (numberIn 50 400)
  let scrubPeriod ← need ps 5 (numberIn 1 64)
  let loadingLimit ← need ps 6 (numberIn 50 100)
  let reserve ← need ps 7 (numberIn 0 50)
  let addDelay ← need ps 8 (numberIn 5 600)
  let removeDelay ← need ps 9 (numberIn 5 600)
  let unloadLimit ← need ps 10 (numberIn 5 120)
  let restoreMode ← need ps 11 (enumIn RestoreMode.all)
  let restoreInterval ← need ps 12 (numberIn 1 600)
  let restoreMargin ← need ps 13 (numberIn 0 10000)
  let lanes ← guardThat (allLanes.all fun n => (readLane ps n).isSome)
    (Vector.ofFn fun n => (readLane ps n).getD ⟨false, .sensing, 1, 2⟩)
  guardThat (deadThreshold < liveThreshold)
    { nominal, interval, liveThreshold, deadThreshold, scrubPeriod, loadingLimit, reserve, addDelay, removeDelay,
      unloadLimit, restoreMode, restoreInterval, restoreMargin, lanes }

/-- The Bus setting (R5). -/
def readBus (ps : List FieldPair) : Option BusSettings := do
  let point ← may ps 1 (indexIn 64)
  pure { point }

/-- The Utility settings (R5). -/
def readUtility (ps : List FieldPair) : Option UtilitySettings := do
  let point ← need ps 1 (indexIn 64)
  let capacity ← need ps 2 (numberIn 1 65535)
  let windowLow ← need ps 3 (numberIn 700 980)
  let windowHigh ← need ps 4 (numberIn 1020 1200)
  let deviation ← need ps 5 (numberIn 100 3000)
  let lossDelay ← need ps 6 (numberIn 50 30000)
  let returnDelay ← need ps 7 (numberIn 5 1800)
  pure { point, capacity, windowLow, windowHigh, deviation, lossDelay, returnDelay }

/-- The Point setting (R5). -/
def readPoint (ps : List FieldPair) : Option PointSettings := do
  let kind ← need ps 1 (enumIn PointKind.all)
  pure { kind }

/-- The number a lockout origin travels as (R178). -/
def LockoutOrigin.number : LockoutOrigin → Nat
  | .supervisor => 0
  | .element e => 1 + e.val
  | .device d => 65 + d.val

/-- A lockout origin by its number (R178). -/
def originIn (v : Int) : Option LockoutOrigin :=
  if v = 0 then some .supervisor
  else if v ≤ 64 then (indexIn 64 (v - 1)).map .element
  else (indexIn 48 (v - 65)).map .device

/-- Whether an origin agrees with its lockout kind (R5). -/
def LockoutKind.agrees : LockoutKind → LockoutOrigin → Bool
  | .tag, .supervisor => true
  | .protection, .element _ => true
  | .bus, .element _ => true
  | .breakerFailure, .device _ => true
  | _, _ => false

/-- The devices named by the pairs of a lockout's device set. -/
def readDeviceSet (ps : List FieldPair) : Option (List DeviceId) :=
  (ps.filter (·.field == 3)).foldr (fun p acc => do pure ((← indexIn 48 p.value) :: (← acc))) (some [])

/-- The Lockout settings (R5); the device set is held in ascending order. -/
def readLockout (ps : List FieldPair) : Option LockoutSettings := do
  let kind ← need ps 1 (enumIn LockoutKind.all)
  let origin ← need ps 2 originIn
  let named ← readDeviceSet ps
  let reason ← need ps 4 (numberIn 0 255)
  guardThat (kind.agrees origin && distinct named && (1 ≤ named.length && named.length ≤ 8))
    { kind, origin, devices := ascending named, reason }

/-- The Generator settings (R6). -/
def readGenerator (ps : List FieldPair) : Option GeneratorSettings := do
  let lane ← need ps 1 (indexIn 16)
  let point ← need ps 2 (indexIn 64)
  let device ← need ps 3 (indexIn 48)
  let rating ← need ps 4 (numberIn 100 20000)
  let startLimit ← need ps 5 (numberIn 5 120)
  let cooldown ← need ps 6 (numberIn 0 1800)
  let voltageWindow ← need ps 7 (numberIn 5 100)
  let slipMaximum ← need ps 8 (numberIn 10 500)
  let slipTarget ← need ps 9 (numberIn 0 250)
  let phaseWindow ← need ps 10 (numberIn 10 200)
  let positiveSlipOnly ← need ps 11 yesNo
  let frequencyNudgeMaximum ← need ps 12 (numberIn 50 1000)
  let voltageNudgeMaximum ← need ps 13 (numberIn 5 100)
  let unloadThreshold ← need ps 14 (numberIn 1 20)
  let syncLimit ← need ps 15 (numberIn 5 300)
  guardThat (point.val == 4 * lane.val && slipTarget ≤ slipMaximum)
    { lane, point, device, rating, startLimit, cooldown, voltageWindow, slipMaximum, slipTarget, phaseWindow,
      positiveSlipOnly, frequencyNudgeMaximum, voltageNudgeMaximum, unloadThreshold, syncLimit }

/-- Terminal B of a device of a kind (R7). -/
def readTerminalB (k : DeviceKind) (v : Int) : Option TerminalB :=
  match k with
  | .incomer => (indexIn 2 v).map .utility
  | .generator => (indexIn 12 v).map .generator
  | .tie => (indexIn 8 v).map .bus
  | .feeder => (indexIn 24 v).map .block

/-- The index terminal B travels as (R178). -/
def TerminalB.number : TerminalB → Nat
  | .utility u => u.val
  | .generator g => g.val
  | .bus b => b.val
  | .block l => l.val

/-- The Device settings (R7). -/
def readDevice (ps : List FieldPair) : Option DeviceSettings := do
  let kind ← need ps 1 (enumIn DeviceKind.all)
  let terminalA ← need ps 2 (indexIn 8)
  let terminalB ← need ps 3 (readTerminalB kind)
  let closingTime ← need ps 4 (numberIn 20 300)
  let closeLimit ← need ps 5 (numberIn 50 2000)
  let openLimit ← need ps 6 (numberIn 30 1000)
  let breakerFailureTime ← need ps 7 (numberIn 50 500)
  let mask ← need ps 8 (enumIn SupervisionMask.all)
  let automatic ← need ps 9 yesNo
  guardThat (terminalB != .bus terminalA)
    { terminalA, terminalB, closingTime, closeLimit, openLimit, breakerFailureTime, mask, automatic }

/-- The Load block settings (R8). -/
def readBlock (ps : List FieldPair) : Option BlockSettings := do
  let feeder ← need ps 1 (indexIn 48)
  let point ← need ps 2 (indexIn 64)
  let priority ← need ps 3 (numberIn 1 8)
  let critical ← need ps 4 yesNo
  let demandFloor ← need ps 5 (numberIn 0 20000)
  pure { feeder, point, priority, critical, demandFloor }

/-- The pickup range of an element kind (R8). -/
def ElementKind.pickupRange : ElementKind → Nat × Nat
  | .overcurrent => (5, 20000)
  | .overvoltage => (1000, 1500)
  | .reversePower => (1, 5000)

/-- An action set by its mask, bit n the nth action (R8, R178); the empty combination is out of range. -/
def readActions (v : Int) : Option ActionSet :=
  (numberIn 1 15 v).map fun m => { trip := bitAt m 0, lockout := bitAt m 1, busLockout := bitAt m 2, alarm := bitAt m 3 }

/-- An action set as a mask (R178). -/
def ActionSet.mask (a : ActionSet) : Nat := maskOf [a.trip, a.lockout, a.busLockout, a.alarm]

/-- The Element settings, but for the cycle of upstream elements, which needs the Store (R8). -/
def readElement (ps : List FieldPair) : Option ElementSettings := do
  let kind ← need ps 1 (enumIn ElementKind.all)
  let point ← need ps 2 (indexIn 64)
  let quantity ← may ps 3 (enumIn Quantity.all)
  let pickup ← need ps 4 (numberIn kind.pickupRange.1 kind.pickupRange.2)
  let curve ← need ps 5 (enumIn Curve.all)
  let a ← need ps 6 (numberIn 1 65535)
  let b ← need ps 7 (numberIn 0 10000)
  let timeDial ← need ps 8 (numberIn 1 100)
  let resetMode ← need ps 9 (enumIn ResetMode.all)
  let resetTime ← need ps 10 (numberIn 10 60000)
  let guarded ← need ps 11 (indexIn 48)
  let actions ← need ps 12 readActions
  let upstream ← may ps 13 (indexIn 64)
  let zoneFast ← may ps 14 (numberIn 20 500)
  let blindLimit ← need ps 15 (numberIn 1 64)
  guardThat ((kind == .overcurrent || curve == .definite) && ((kind == .overcurrent) == quantity.isSome))
    { kind, point, quantity, pickup, curve, a, b, timeDial, resetMode, resetTime, guarded, actions, upstream, zoneFast,
      blindLimit }

def readSide (ps : List FieldPair) (base : Nat) : Option SideSettings := do
  let incomer ← need ps base (indexIn 48)
  let bus ← need ps (base + 1) (indexIn 8)
  let utility ← need ps (base + 2) (indexIn 2)
  let generatorTie ← may ps (base + 3) (indexIn 48)
  pure { incomer, bus, utility, generatorTie }

/-- The scheme devices: both incomers, the generator ties present and the tie where present (R9). -/
def SchemeSettings.devices (c : SchemeSettings) : List DeviceId :=
  [c.sides[0].incomer, c.sides[1].incomer] ++ c.sides[0].generatorTie.toList ++ c.sides[1].generatorTie.toList ++
    c.tie.toList

/-- The Intake Scheme settings (R9). -/
def readScheme (ps : List FieldPair) : Option SchemeSettings := do
  let side0 ← readSide ps 1
  let side1 ← readSide ps 5
  let tie ← may ps 9 (indexIn 48)
  let generatorBus ← may ps 10 (indexIn 8)
  let style ← need ps 11 (enumIn TransferStyle.all)
  let retransfer ← need ps 12 (enumIn Retransfer.all)
  let preferred ← need ps 13 (enumIn PreferredAlternate.all)
  let minimumDead ← need ps 14 (numberIn 100 5000)
  let maximumOverlap ← need ps 15 (numberIn 50 500)
  let syncLimit ← need ps 16 (numberIn 5 300)
  let c : SchemeSettings :=
    { sides := #v[side0, side1], tie, generatorBus, style, retransfer, preferred, minimumDead, maximumOverlap, syncLimit }
  guardThat (side0.utility != side1.utility && side0.bus != side1.bus && distinct c.devices &&
    (generatorBus.isSome || (side0.generatorTie.isNone && side1.generatorTie.isNone))) c

/-- The settings of any kind that a list of pairs spells; nothing where a value is out of range or a cross-field case
holds. -/
def readSettings (k : RecordKind) (ps : List FieldPair) : Option AnySettings :=
  match k with
  | .station => (readStation ps).map .station
  | .bus => (readBus ps).map .bus
  | .utility => (readUtility ps).map .utility
  | .generator => (readGenerator ps).map .generator
  | .device => (readDevice ps).map .device
  | .block => (readBlock ps).map .block
  | .element => (readElement ps).map .element
  | .lockout => (readLockout ps).map .lockout
  | .scheme => (readScheme ps).map .scheme
  | .point => (readPoint ps).map .point

/-! ## Field numbers (R3, R13) -/

/-- The field numbers of a kind (section 1.2). -/
def fieldsOf : RecordKind → List Nat
  | .station => (List.range 13).map (· + 1) ++ (List.range 64).map (· + 16)
  | .bus => [1]
  | .utility => (List.range 7).map (· + 1)
  | .generator => (List.range 15).map (· + 1)
  | .device => (List.range 9).map (· + 1)
  | .block => (List.range 5).map (· + 1)
  | .element => (List.range 15).map (· + 1)
  | .lockout => [1, 2, 3, 4]
  | .scheme => (List.range 16).map (· + 1)
  | .point => [1]

/-- The fields of a kind that a LOAD may leave out. The quantity of an element is among them: its presence is a
cross-field case (R8). -/
def optionalFields : RecordKind → List Nat
  | .bus => [1]
  | .element => [3, 13, 14]
  | .scheme => [4, 8, 9, 10]
  | _ => []

/-- No field is unknown to the kind, and none is given twice but the device set of a lockout (R13 step 3). -/
def fieldsFit (k : RecordKind) (ps : List FieldPair) : Bool :=
  ps.all (fun p => (fieldsOf k).contains p.field) &&
    distinct ((ps.map FieldPair.field).filter fun n => !(k == .lockout && n == 3))

/-- No setting that is not optional is left out (R13 step 3). -/
def fieldsComplete (k : RecordKind) (ps : List FieldPair) : Bool :=
  (fieldsOf k).all fun n => (optionalFields k).contains n || ps.any (·.field == n)

/-! ## The pairs a READ returns, in ascending field number (R178, R179) -/

def pairOf (n : Nat) (v : Nat) : FieldPair := ⟨n, v⟩
def flagPair (n : Nat) (b : Bool) : FieldPair := ⟨n, if b then 1 else 0⟩
def optPair (n : Nat) (v : Option Nat) : List FieldPair := (v.map (pairOf n)).toList

def lanePairs (n : Nat) (l : LaneSettings) : List FieldPair :=
  [flagPair (16 + 4 * n) l.enabled, pairOf (17 + 4 * n) (codeIn UnitKind.all l.unitKind), pairOf (18 + 4 * n) l.rate,
   pairOf (19 + 4 * n) l.silenceLimit]

def StationSettings.pairs (x : StationSettings) : List FieldPair :=
  [pairOf 1 (match x.nominal with | .hz50 => 50 | .hz60 => 60), pairOf 2 x.interval, pairOf 3 x.liveThreshold,
   pairOf 4 x.deadThreshold, pairOf 5 x.scrubPeriod, pairOf 6 x.loadingLimit, pairOf 7 x.reserve, pairOf 8 x.addDelay,
   pairOf 9 x.removeDelay, pairOf 10 x.unloadLimit, pairOf 11 (codeIn RestoreMode.all x.restoreMode),
   pairOf 12 x.restoreInterval, pairOf 13 x.restoreMargin] ++
  allLanes.flatMap fun n => lanePairs n.val x.lanes[n]

def BusSettings.pairs (x : BusSettings) : List FieldPair := optPair 1 (x.point.map Fin.val)

def UtilitySettings.pairs (x : UtilitySettings) : List FieldPair :=
  [pairOf 1 x.point.val, pairOf 2 x.capacity, pairOf 3 x.windowLow, pairOf 4 x.windowHigh, pairOf 5 x.deviation,
   pairOf 6 x.lossDelay, pairOf 7 x.returnDelay]

def PointSettings.pairs (x : PointSettings) : List FieldPair := [pairOf 1 (codeIn PointKind.all x.kind)]

def LockoutSettings.pairs (x : LockoutSettings) : List FieldPair :=
  [pairOf 1 (codeIn LockoutKind.all x.kind), pairOf 2 x.origin.number] ++
  x.devices.map (fun d => pairOf 3 d.val) ++ [pairOf 4 x.reason]

def GeneratorSettings.pairs (x : GeneratorSettings) : List FieldPair :=
  [pairOf 1 x.lane.val, pairOf 2 x.point.val, pairOf 3 x.device.val, pairOf 4 x.rating, pairOf 5 x.startLimit,
   pairOf 6 x.cooldown, pairOf 7 x.voltageWindow, pairOf 8 x.slipMaximum, pairOf 9 x.slipTarget,
   pairOf 10 x.phaseWindow, flagPair 11 x.positiveSlipOnly, pairOf 12 x.frequencyNudgeMaximum,
   pairOf 13 x.voltageNudgeMaximum, pairOf 14 x.unloadThreshold, pairOf 15 x.syncLimit]

def DeviceSettings.pairs (x : DeviceSettings) : List FieldPair :=
  [pairOf 1 (codeIn DeviceKind.all x.terminalB.kind), pairOf 2 x.terminalA.val, pairOf 3 x.terminalB.number,
   pairOf 4 x.closingTime, pairOf 5 x.closeLimit, pairOf 6 x.openLimit, pairOf 7 x.breakerFailureTime,
   pairOf 8 (codeIn SupervisionMask.all x.mask), flagPair 9 x.automatic]

def BlockSettings.pairs (x : BlockSettings) : List FieldPair :=
  [pairOf 1 x.feeder.val, pairOf 2 x.point.val, pairOf 3 x.priority, flagPair 4 x.critical, pairOf 5 x.demandFloor]

def ElementSettings.pairs (x : ElementSettings) : List FieldPair :=
  [pairOf 1 (codeIn ElementKind.all x.kind), pairOf 2 x.point.val] ++
  optPair 3 (x.quantity.map (codeIn Quantity.all)) ++
  [pairOf 4 x.pickup, pairOf 5 (codeIn Curve.all x.curve), pairOf 6 x.a, pairOf 7 x.b, pairOf 8 x.timeDial,
   pairOf 9 (codeIn ResetMode.all x.resetMode), pairOf 10 x.resetTime, pairOf 11 x.guarded.val,
   pairOf 12 x.actions.mask] ++
  optPair 13 (x.upstream.map Fin.val) ++ optPair 14 x.zoneFast ++ [pairOf 15 x.blindLimit]

def SideSettings.pairs (base : Nat) (x : SideSettings) : List FieldPair :=
  [pairOf base x.incomer.val, pairOf (base + 1) x.bus.val, pairOf (base + 2) x.utility.val] ++
  optPair (base + 3) (x.generatorTie.map Fin.val)

def SchemeSettings.pairs (x : SchemeSettings) : List FieldPair :=
  x.sides[0].pairs 1 ++ x.sides[1].pairs 5 ++ optPair 9 (x.tie.map Fin.val) ++
  optPair 10 (x.generatorBus.map Fin.val) ++
  [pairOf 11 (codeIn TransferStyle.all x.style), pairOf 12 (codeIn Retransfer.all x.retransfer),
   pairOf 13 (codeIn PreferredAlternate.all x.preferred), pairOf 14 x.minimumDead, pairOf 15 x.maximumOverlap,
   pairOf 16 x.syncLimit]

/-- The pairs of a record's settings (R178). -/
def settingsPairs : AnySettings → List FieldPair
  | .station x => x.pairs
  | .bus x => x.pairs
  | .utility x => x.pairs
  | .generator x => x.pairs
  | .device x => x.pairs
  | .block x => x.pairs
  | .element x => x.pairs
  | .lockout x => x.pairs
  | .scheme x => x.pairs
  | .point x => x.pairs

/-- The kind settings are of. -/
def kindOf : AnySettings → RecordKind
  | .station _ => .station
  | .bus _ => .bus
  | .utility _ => .utility
  | .generator _ => .generator
  | .device _ => .device
  | .block _ => .block
  | .element _ => .element
  | .lockout _ => .lockout
  | .scheme _ => .scheme
  | .point _ => .point

/-- The pairs of a record with new pairs put in place of those of the same fields, and the rest as it was (R14). -/
def amendedPairs (old new : List FieldPair) : List FieldPair :=
  new ++ old.filter fun p => !new.any (·.field == p.field)

end Sys2Proof
end

