-- ==== Sys2Proof/Machine/Conditions.lean ====
section
/-!
DEFINITION. The conditions that one block reads of another's state: observed positions, NOT_READY and conducting (R18,
R19, R22), source liveness (R51), locked and pending devices (R61), and the capacity, demand and headroom of an island
(R158).
-/

namespace Sys2Proof.Machine

/-! ## Devices -/

/-- The observed position of a pattern (R18). -/
def positionOf (p : Pattern) : Position :=
  match p.openContact, p.closedContact with
  | true, false => .open
  | false, true => .closed
  | false, false => .travel
  | true, true => .disagree

/-- The observed position of a device (R18). -/
def Parts.position (s : Parts) (d : DeviceId) : Position := positionOf s.switching.devices[d].pattern

/-- Whether a pattern has a supervised health input at 0 (R19). -/
def notReady (m : SupervisionMask) (p : Pattern) : Bool :=
  match m with
  | .none => false
  | .ready => !p.ready
  | .tripHealthy => !p.tripHealthy
  | .both => !p.ready || !p.tripHealthy

/-- The mask supervision reads, without a check; BOTH for a DAMAGED record (R19, R43). -/
def Parts.supervisionMask (s : Parts) (d : DeviceId) : SupervisionMask :=
  match s.store.devices[d] with
  | some h => if h.integrity = .damaged then .both else h.settings.mask
  | none => .both

/-- The conducting condition (R22). The latch of an aborted close is notes/assumptions/6.md. -/
def DeviceLive.isConducting (x : DeviceLive) : Bool :=
  match x.state with
  | .unset | .retired => false
  | .closing => true
  | .opening => x.abortedClose || positionOf x.pattern != .open
  | _ => positionOf x.pattern != .open

/-- Whether a device is conducting, as the Switching Unit has it (R22). -/
def Parts.isConducting (s : Parts) (d : DeviceId) : Bool := s.switching.devices[d].isConducting

/-- Whether a device is CLOSING or OPENING. -/
def DeviceState.inFlight : DeviceState → Bool
  | .closing | .opening => true
  | _ => false

/-- Whether a requester's open runs under the breaker-failure time (R25). -/
def Requester.isTrip : Requester → Bool
  | .protection | .breakerFailure | .overlap | .lockout => true
  | _ => false

/-! ## Sources (R51) -/

/-- A utility is live while QUALIFIED or FAILING. -/
def Qualification.isLive : Qualification → Bool
  | .qualified | .failing => true
  | _ => false

def Parts.utilityLive (s : Parts) (u : UtilityId) : Bool := s.changeover.utilities[u].qualification.isLive

/-- The running states of a generator. -/
def GeneratorState.isRunning : GeneratorState → Bool
  | .ready | .deadClosing | .syncing | .syncClosing | .online | .unloading | .disconnecting | .cooldown => true
  | _ => false

/-- The device of a generator, as its in-service copy names it. -/
def Parts.generatorDevice (s : Parts) (g : GeneratorId) : Option DeviceId :=
  s.paralleling.generators[g].settings.map GeneratorSettings.device

/-- A generator is live while it is running and its device is observed CLOSED. -/
def Parts.generatorLive (s : Parts) (g : GeneratorId) : Bool :=
  s.paralleling.generators[g].state.isRunning &&
    match s.generatorDevice g with
    | some d => s.position d == .closed
    | none => false

/-- A generator is connected while ONLINE, UNLOADING or DISCONNECTING, or while its device is CLOSING. -/
def Parts.generatorConnected (s : Parts) (g : GeneratorId) : Bool :=
  (match s.paralleling.generators[g].state with
   | .online | .unloading | .disconnecting => true
   | _ => false) ||
    match s.generatorDevice g with
    | some d => s.switching.devices[d].state == .closing
    | none => false

def Parts.isOnline (s : Parts) (g : GeneratorId) : Bool := s.paralleling.generators[g].state == .online

/-! ## Islands -/

/-- The island of an id. -/
def Parts.island? (s : Parts) (b : BusId) : Option Island := s.topology.islands.find? (·.id == b)

/-- The island that holds a bus. -/
def Parts.islandOf (s : Parts) (b : BusId) : Option Island := s.topology.islands.find? (·.members.contains b)

/-- The bus of a device's terminal A in the index (R48). -/
def Parts.terminalA (s : Parts) (d : DeviceId) : Option BusId := s.topology.index[d].map IndexEntry.terminalA

/-- The island that holds the terminal A bus of a device in the index. -/
def Parts.islandOfDevice (s : Parts) (d : DeviceId) : Option Island := (s.terminalA d).bind s.islandOf

/-! ## Lockouts (R61) -/

/-- Whether the pending list holds an entry for a device. -/
def Parts.isPending (s : Parts) (d : DeviceId) : Bool := s.lockouts.pending.any (·.device == d)

/-- Whether a device is locked: covered, or pending. -/
def Parts.isLocked (s : Parts) (d : DeviceId) : Bool := s.lockouts.cover[d] != 0 || s.isPending d

/-! ## Capacity, demand and headroom (R158) -/

/-- Whether a block counts toward its island's demand. -/
def BlockState.counts : BlockState → Bool
  | .served | .restoring => true
  | _ => false

/-- The demand of a block, 0 where none is kept. -/
def Parts.blockDemand (s : Parts) (l : BlockId) : Nat := s.load.blocks[l].demand.getD 0

/-- Whether a block's in-service copy says critical. -/
def Parts.isCritical (s : Parts) (l : BlockId) : Bool := s.load.blocks[l].settings.elim false BlockSettings.critical

/-- The rating of a generator, as the Paralleling Unit holds it. -/
def Parts.rating (s : Parts) (g : GeneratorId) : Nat :=
  s.paralleling.generators[g].settings.elim 0 GeneratorSettings.rating

/-- The sum of the ratings of the ONLINE generators of an island. -/
def Parts.onlineRating (s : Parts) (i : Island) : Nat := ((i.generators.filter s.isOnline).map s.rating).sum

/-- The loading limit in service. -/
def Parts.loadingLimit (s : Parts) : Nat := s.service.station.elim 0 StationSettings.loadingLimit

/-- The capacity of an island; none for the kinds PARALLEL and DEAD. -/
def Parts.capacityOf (s : Parts) (i : Island) : Option Nat :=
  match i.kind with
  | .utility =>
    some (i.utilities.map fun u => s.changeover.utilities[u].settings.elim 0 UtilitySettings.capacity).sum
  | .generator => some (s.onlineRating i * s.loadingLimit / 100)
  | .parallel | .dead => none

/-- The demand of an island. -/
def Parts.demandOf (s : Parts) (i : Island) : Nat :=
  ((i.blocks.filter fun l => s.load.blocks[l].state.counts).map s.blockDemand).sum

/-- The critical demand of an island. -/
def Parts.criticalDemandOf (s : Parts) (i : Island) : Nat :=
  ((i.blocks.filter fun l => s.isCritical l &&
      match s.load.blocks[l].state with
      | .served | .dark | .restoring => true
      | _ => false).map s.blockDemand).sum

/-- The headroom of an island, not below 0; none where no capacity is kept. -/
def Parts.headroomOf (s : Parts) (i : Island) : Option Nat := (s.capacityOf i).map (· - s.demandOf i)

/-- The values of an island as they stand. -/
def Parts.balanceOf (s : Parts) (i : Island) : Balance :=
  { island := i.id, members := i.members, capacity := s.capacityOf i, demand := s.demandOf i,
    headroom := s.headroomOf i, critical := s.criticalDemandOf i }

/-- The values of an island as the Load Unit holds them, which the Changeover Unit and the Paralleling Unit read: those it
last worked out (R158). For an island it has not worked out yet they are those of the island that held its lowest bus
(notes/assumptions/60.md). -/
def Parts.heldBalance (s : Parts) (i : Island) : Option Balance := s.load.balances.find? (·.members.contains i.id)

/-- The demand of an island as the Load Unit holds it, 0 where there is none. -/
def Parts.heldDemand (s : Parts) (i : Island) : Nat := (s.heldBalance i).elim 0 Balance.demand

end Sys2Proof.Machine
end

