-- ==== Sys2Proof/Machine/Topology.lean ====
section
/-!
DEFINITION. The Topology Map (chapter 3): threshold classes (R49), the island partition and records (R50 to R53),
recomputation and island-change notices (R54, R55), and the topology check (R56 to R58).
-/

namespace Sys2Proof.Machine

/-- The class a voltage has under the thresholds in service (R49). -/
def classOfVoltage (t : StationSettings) (v : Nat) : ThresholdClass :=
  if v ≥ t.liveThreshold then .high else if v ≤ t.deadThreshold then .low else .middle

/-- The threshold class of a bus, worked out from its point as it stands (R49). -/
def Parts.classOf (s : Parts) (b : BusId) : ThresholdClass :=
  if !s.topology.inUse[b] || s.topology.damaged[b] then .none
  else match s.topology.points[b], s.service.station with
    | some p, some t =>
      if s.lanes.points[p].status = .fresh then classOfVoltage t s.lanes.points[p].values.v else .none
    | _, _ => .none

/-! ## The partition (R50) -/

/-- Buses as labels; each stands at first by itself. -/
abbrev Labels := Vector BusId 8

/-- Two buses joined: every bus with the greater of their labels takes the lesser. -/
def joinLabels (ls : Labels) (a b : BusId) : Labels :=
  ls.map fun l => if l = max ls[a] ls[b] then min ls[a] ls[b] else l

/-- The labels as one device leaves them: a conducting TIE between two buses in use joins them. -/
def joinDevice (s : Parts) (ls : Labels) (d : DeviceId) : Labels :=
  match s.topology.index[d] with
  | some { terminalA := a, terminalB := .bus b } =>
    if s.topology.conducting[d] && s.topology.inUse[a] && s.topology.inUse[b] then joinLabels ls a b else ls
  | _ => ls

/-- The id of the island each bus is in. -/
def labelsOf (s : Parts) : Labels := allDevices.foldl (joinDevice s) (Vector.ofFn id)

/-- Whether a conducting device of the index has terminal A at one of some buses and a given terminal B. -/
def reaches (s : Parts) (members : List BusId) (t : TerminalB) : Bool :=
  allDevices.any fun d =>
    match s.topology.index[d] with
    | some e => s.topology.conducting[d] && members.contains e.terminalA && e.terminalB == t
    | none => false

/-- The energisation of member buses with listed sources (R52). -/
def energisationOf (s : Parts) (members : List BusId) (us : List UtilityId) (gs : List GeneratorId) : Energisation :=
  let live := us.any s.utilityLive || gs.any s.generatorLive
  if members.any (fun b => s.topology.classes[b] == .high) || live then .live
  else if members.all fun b => s.topology.classes[b] == .low then .dead
  else .residual

/-- The kind that listed sources give (R53). -/
def kindOfSources (s : Parts) (us : List UtilityId) (gs : List GeneratorId) : IslandKind :=
  match us.isEmpty, gs.any s.isOnline with
  | true, false => .dead
  | false, false => .utility
  | true, true => .generator
  | false, true => .parallel

/-- The island record of a set of buses (R50). -/
def islandRecord (s : Parts) (id : BusId) (members : List BusId) : Island :=
  let us := allUtilities.filter fun u => reaches s members (.utility u)
  let gs := allGenerators.filter fun g => reaches s members (.generator g)
  { id := id, members := members, utilities := us, generators := gs,
    blocks := allBlocks.filter fun l => reaches s members (.block l),
    energisation := energisationOf s members us gs, kind := kindOfSources s us gs }

/-- The buses in use that a labelling puts in the island of an id. -/
def membersOf (s : Parts) (ls : Labels) (id : BusId) : List BusId :=
  allBuses.filter fun c => s.topology.inUse[c] && ls[c] == id

/-- The islands as they stand, in ascending id (R50). -/
def computeIslands (s : Parts) : List Island :=
  let ls := labelsOf s
  (allBuses.filter fun b => s.topology.inUse[b] && ls[b] == b).map fun b => islandRecord s b (membersOf s ls b)

/-! ## Recomputation (R54, R55) -/

/-- Which fields of an island differ from the former island of its id; all five where there was none (R55). -/
def changedFields (former : Option Island) (i : Island) : ChangedFields :=
  match former with
  | none => ⟨true, true, true, true, true⟩
  | some o =>
    { members := o.members != i.members, sources := o.utilities != i.utilities || o.generators != i.generators,
      blocks := o.blocks != i.blocks, energisation := o.energisation != i.energisation, kind := o.kind != i.kind }

def ChangedFields.any (c : ChangedFields) : Bool := c.members || c.sources || c.blocks || c.energisation || c.kind

/-- The island-change notices of a recomputation, in ascending new id (R54, R55). -/
def islandNotices (old new : List Island) : List IslandNotice :=
  (new.map fun i =>
    { oldIds := (old.filter fun o => o.members.any i.members.contains).map Island.id, island := i,
      changed := changedFields (old.find? (·.id == i.id)) i : IslandNotice }).filter fun n => n.changed.any

/-- A recomputation of the islands (R54). -/
def recompute (s : Parts) : Parts :=
  let new := computeIslands s
  let ns := islandNotices s.topology.islands new
  let s := { s with topology.islands := new }
  if ns.isEmpty then s
  else s.sendAll [.islands .changeover ns, .islands .paralleling ns, .islands .load ns]

/-- The conducting notice of a device taken by the Map (R40, R48, R54). -/
def takeConducting (s : Parts) (d : DeviceId) : Parts :=
  recompute { s with topology.conducting := s.topology.conducting.set d (s.isConducting d) }

/-- The class of a bus worked out again; a change recomputes the islands (R49). -/
def reviewClass (s : Parts) (b : BusId) : Parts :=
  let c := s.classOf b
  if c = s.topology.classes[b] then s
  else recompute { s with topology.classes := s.topology.classes.set b c }

/-- A point-update notice at the Map, taken for each bus that names the point (R49). -/
def topologyPoint (p : PointId) (s : Parts) : Parts :=
  allBuses.foldl (fun s b => if s.topology.inUse[b] && s.topology.points[b] == some p then reviewClass s b else s) s

/-- The damage notice of a bus record (R47). -/
def busDamaged (b : BusId) (s : Parts) : Parts :=
  if !s.topology.inUse[b] then s
  else
    let s := s.addHold .busDamaged
    recompute { s with topology.damaged := s.topology.damaged.set b true,
                       topology.classes := s.topology.classes.set b .none }

/-! ## The topology check (R56 to R58) -/

/-- One side of a would-be closure (R56). -/
structure CheckSide where
  energisation : Energisation
  isSource : Bool
  utilities : List UtilityId
  generators : List GeneratorId
  deriving DecidableEq, Repr

/-- An island as a side. -/
def islandSide (i : Island) : CheckSide :=
  { energisation := i.energisation, isSource := !(i.utilities.isEmpty && i.generators.isEmpty),
    utilities := i.utilities, generators := i.generators }

/-- A utility as a side. -/
def utilitySide (s : Parts) (u : UtilityId) : CheckSide :=
  { energisation := match s.changeover.utilities[u].qualification with
      | .qualified | .failing => .live
      | .absent => .dead
      | .unknown | .outOfWindow | .qualifying | .lost => .residual,
    isSource := true, utilities := [u], generators := [] }

/-- A generator as a side. -/
def generatorSide (s : Parts) (g : GeneratorId) : CheckSide :=
  { energisation := if s.paralleling.generators[g].state.isRunning then .live else .residual,
    isSource := true, utilities := [], generators := [g] }

/-- Step 1: the result would list both utilities (R57). -/
def listsBothUtilities (us : List UtilityId) : Bool := us.contains 0 && us.contains 1

/-- Step 2: a utility together with a connected generator (R57). The generator being closed counts as connected. -/
def parallelsSources (s : Parts) (closed : Option GeneratorId) (us : List UtilityId) (gs : List GeneratorId) : Bool :=
  !us.isEmpty && (closed.isSome || gs.any s.generatorConnected)

/-- Step 3: a RESIDUAL side that is not closed onto a DEAD side without sources (R58). -/
def residualFails (a b : CheckSide) : Bool :=
  let excepts (x y : CheckSide) := x.energisation == .residual && !(y.energisation == .dead && !y.isSource)
  excepts a b || excepts b a

/-- Step 5: whether a generator holds the dead-bus grant of a bus of an island (R58). -/
def holdsGrant (s : Parts) (i : Island) (g : GeneratorId) : Bool :=
  i.members.any fun b => match s.paralleling.arbiters[b] with
    | some a => a.grant == some g
    | none => false

/-- Steps 1 to 5 over two sides; none is PASS. `closed` is the generator of a GENERATOR device, `first` the island of
terminal A. -/
def judgeSides (s : Parts) (first : Island) (b : CheckSide) (closed : Option GeneratorId) (au : Authorisations) :
    Option TopologySub :=
  let a := islandSide first
  let us := a.utilities ++ b.utilities
  let gs := a.generators ++ b.generators
  if listsBothUtilities us then some .utilityParallel
  else if parallelsSources s closed us gs && !au.overlap then some .sourceParallel
  else if residualFails a b then some .residual
  else if a.energisation == .live && b.energisation == .live && !au.sync then some .liveLive
  else match closed with
    | some g =>
      if s.paralleling.generators[g].state.isRunning && a.energisation == .dead && !holdsGrant s first g then some .noGrant
      else none
    | none => none

/-- The topology check on a device with given terminals (R56); none is PASS. A bus not in use is in no island. -/
def topologyCheck (s : Parts) (ta : BusId) (tb : TerminalB) (au : Authorisations) : Option TopologySub :=
  match tb with
  | .block _ => none
  | .bus b =>
    match s.islandOf ta, s.islandOf b with
    | some i, some j =>
      if i.id = j.id then (if listsBothUtilities i.utilities then some .utilityParallel else none)
      else judgeSides s i (islandSide j) none au
    | _, _ => some .residual
  | .utility u =>
    match s.islandOf ta with
    | some i => judgeSides s i (utilitySide s u) none au
    | none => some .residual
  | .generator g =>
    match s.islandOf ta with
    | some i => judgeSides s i (generatorSide s g) (some g) au
    | none => some .residual

end Sys2Proof.Machine
end

