-- ==== Sys2Proof/Machine/Switching.lean ====
section
/-!
DEFINITION. The Switching Unit (chapter 2): the close permissive chain (R26 to R29), opens and trips (R30 to R33), the
end of operations (R34 to R36), uncommanded changes (R37 to R41), failures (R42) and the intertrip lines (R44, R45).
-/

namespace Sys2Proof.Machine

/-- The live fields of a device that a READ shows (R20). -/
def DeviceLive.shown (x : DeviceLive) : DeviceState × Pattern × Option Requester × Option Requester ×
    Option Refused × Option FailureKind × Bool :=
  (x.state, x.pattern, x.owner, x.origin, x.lastRefusal, x.failure, x.discrepancy)

/-- The live half of a device written, with the changed mark of its record (R20) where that is not EMPTY (R17, R41;
notes/assumptions/49.md). -/
def Parts.setDevice (s : Parts) (d : DeviceId) (x : DeviceLive) : Parts :=
  let shows := s.store.devices[d].isSome && s.switching.devices[d].shown != x.shown
  { s with switching.devices := s.switching.devices.set d x }.markIf shows (deviceIndex d)

/-- A position notice to the three units, in order (R36). -/
def Parts.sendPosition (s : Parts) (d : DeviceId) (p : Position) (c : Cause) : Parts :=
  s.sendAll [.position .changeover d p c, .position .paralleling d p c, .position .load d p c]

/-- A source notice where the liveness of a generator has changed since `before` (R51), then a conducting notice where
the device's conducting state has (R40). -/
def Parts.sendConducting (s before : Parts) (d : DeviceId) : Parts :=
  let s := if allGenerators.any fun g => before.generatorLive g != s.generatorLive g then s.send .source else s
  if before.isConducting d != s.isConducting d then s.send (.conducting d) else s

/-- A completion notice to the owner of an operation (R36). -/
def Parts.sendCompletion (s : Parts) (x : DeviceLive) (d : DeviceId) (r : Result) (a : Action) : Parts :=
  match x.owner with
  | some o => s.send (.completion o d r a (x.origin.getD o))
  | none => s

/-- A device with no operation in flight, in a state. -/
def DeviceLive.ended (x : DeviceLive) (st : DeviceState) : DeviceLive :=
  { x with state := st, owner := none, origin := none, authorisations := ⟨false, false⟩, operateTimer := .stopped,
           abortedClose := false }

/-! ## The close permissive chain (R26 to R29) -/

/-- Step 8: the requester has authority (R28). -/
def hasAuthority (s : Parts) (r : Requester) (x : DeviceSettings) : Bool :=
  match r with
  | .supervisor => s.switching.authority == .remoteControl
  | _ => x.automatic

/-- Step 12: a FEEDER fits the headroom of its island (R28). One whose terminal A bus is not in use, and so lies in no
island, passes (notes/assumptions/14.md). -/
def fitsHeadroom (s : Parts) (x : DeviceSettings) : Bool :=
  match x.terminalB with
  | .block l =>
    match (s.islandOf x.terminalA).bind s.headroomOf with
    | some h => s.blockDemand l ≤ h
    | none => true
  | _ => true

/-- The answer of the chain. `x` is what the check on use of step 2 gave, none for a DAMAGED record (R26). -/
def closeChain (s : Parts) (d : DeviceId) (r : Requester) (au : Authorisations) (x : Option DeviceSettings) : Answer :=
  let refuse (why : RefusalReason) : Answer := .refused ⟨why, none⟩
  let v := s.switching.devices[d]
  if v.state = .retired ∨ v.state = .unset then refuse .retired
  else match x with
    | none => refuse .damaged
    | some x =>
      if s.inHold then refuse .hold
      else if v.state = .failed then refuse .failed
      else if v.state = .uncertain then refuse .uncertain
      else if v.state = .open ∧ s.position d ≠ .open then refuse .uncertain
      else if v.state.inFlight then refuse .busy
      else if v.state = .closed then .already
      else if s.isLocked d then refuse .locked
      else if !hasAuthority s r x then refuse .authority
      else if s.protection.unprotected[d] then refuse .unprotected
      else if notReady x.mask v.pattern then refuse .notReady
      else match topologyCheck s x.terminalA x.terminalB au with
        | some sub => .refused ⟨.topology, some sub⟩
        | none => if fitsHeadroom s x then .accepted else refuse .capacity

/-- A refusal stored on the device (R23). -/
def storeRefusal (s : Parts) (d : DeviceId) (r : Refused) : Parts :=
  s.setDevice d { s.switching.devices[d] with lastRefusal := some r }

/-- A close accepted (R29). -/
def acceptClose (s : Parts) (d : DeviceId) (r : Requester) (au : Authorisations) (limit : Nat) : Parts :=
  let x := { s.switching.devices[d] with
    state := .closing, owner := some r, origin := some r, authorisations := au, operateTimer := .running limit }
  takeConducting (s.setDevice d x) d

/-- A close request (R26). -/
def closeRequest (d : DeviceId) (r : Requester) (au : Authorisations) (s : Parts) : Parts × Answer :=
  let st := s.switching.devices[d].state
  if st = .retired ∨ st = .unset then (storeRefusal s d ⟨.retired, none⟩, .refused ⟨.retired, none⟩)
  else
    let (s, x) := useDevice d s
    let a := closeChain s d r au x
    match a with
    | .accepted => (acceptClose s d r au (x.elim Config.frozenCloseLimit DeviceSettings.closeLimit), a)
    | .already => (s, a)
    | .refused why => (storeRefusal s d why, a)

/-! ## Opens and trips (R30 to R33) -/

/-- The time an open or trip runs under, by its origin (R25); substitutes for a DAMAGED record (R43). -/
def openTime (r : Requester) (x : Option DeviceSettings) : Nat :=
  if r.isTrip then x.elim Config.frozenBreakerFailureTime DeviceSettings.breakerFailureTime
  else x.elim Config.frozenOpenLimit DeviceSettings.openLimit

/-- An open that starts or replaces an operation (R31, R32). -/
def startOpening (s : Parts) (d : DeviceId) (r : Requester) (time : Nat) : Parts :=
  let v := s.switching.devices[d]
  let aborts := v.state == .closing
  let x : DeviceLive :=
    { v with state := .opening, owner := some r, origin := some r, failure := none, authorisations := ⟨false, false⟩,
             operateTimer := .running time, persistence := .stopped, abortedClose := aborts }
  let s := s.setDevice d x
  if aborts then s.sendCompletion v d .aborted .close else s

/-- An open or trip request (R30, R33). -/
def openRequest (d : DeviceId) (r : Requester) (s : Parts) : Parts × Answer :=
  let v := s.switching.devices[d]
  if v.state = .retired ∨ v.state = .unset then
    (storeRefusal s d ⟨.openRetired, none⟩, .refused ⟨.openRetired, none⟩)
  else if v.state = .open ∧ s.position d = .open then (s, .already)
  else if v.state = .opening then
    if r.isTrip && !(v.origin.elim false Requester.isTrip) then
      let (s, x) := useDevice d s
      (s.setDevice d { s.switching.devices[d] with origin := some r, operateTimer := .running (openTime r x) }, .accepted)
    else (s, .already)
  else if r = .supervisor ∧ s.switching.authority = .localControl then
    (storeRefusal s d ⟨.openAuthority, none⟩, .refused ⟨.openAuthority, none⟩)
  else
    let (s, x) := useDevice d s
    (startOpening s d r (openTime r x), .accepted)

/-- An open request whose answer nobody waits for. -/
def sendOpen (d : DeviceId) (r : Requester) (s : Parts) : Parts := (openRequest d r s).1

/-! ## The end of operations (R34 to R36) -/

/-- An operation that ends DONE in OPEN or CLOSED (R34, R35, R36). `before` is the state before the event. -/
def endDone (before s : Parts) (d : DeviceId) (st : DeviceState) (p : Position) (a : Action) : Parts :=
  let v := s.switching.devices[d]
  let s := (s.setDevice d (v.ended st)).sendCompletion v d .done a
  let s := match v.origin with
    | some o => s.sendPosition d p (.origin o)
    | none => s
  s.sendConducting before d

/-- The close-limit timer expires (R34). -/
def closeLimitExpires (d : DeviceId) (s : Parts) : Parts :=
  let v := s.switching.devices[d]
  if v.state = .closing ∧ v.operateTimer.isRunning then
    let t := (s.setDevice d { v.ended .failed with failure := some .failedClose }).raise .device
    (t.sendCompletion v d .failed .close).sendConducting s d
  else s

/-- The open-limit or breaker-failure timer expires (R35). -/
def openTimerExpires (d : DeviceId) (s : Parts) : Parts :=
  let v := s.switching.devices[d]
  if v.state = .opening ∧ v.operateTimer.isRunning then
    if s.position d = .open then endDone s s d .open .open .open
    else
      let t := (s.setDevice d { v.ended .failed with failure := some .failedOpen }).raise .device
      let t := t.sendCompletion v d .failed .open
      let t := match v.origin with
        | some o => if o.isTrip then t.send (.breakerFailure d o) else t
        | none => t
      t.sendConducting s d
  else s

/-- The persistence timer expires (R37). -/
def persistenceExpires (d : DeviceId) (s : Parts) : Parts :=
  let v := s.switching.devices[d]
  if v.persistence.isRunning then
    (s.setDevice d { v with state := .uncertain, persistence := .stopped }).raise .device
  else s

/-! ## Changes of the observed position (R37 to R41) -/

/-- The cause of an uncommanded change, by the authority (R38, R39). -/
def Parts.uncommanded (s : Parts) : Cause :=
  match s.switching.authority with
  | .remoteControl => .external
  | .localControl => .localChange

/-- The persistence time of a device: its close limit, read without a check, or the substitute (R37, R43). -/
def Parts.persistenceTime (s : Parts) (d : DeviceId) : Nat :=
  match s.store.devices[d] with
  | some h => if h.integrity = .damaged then Config.frozenCloseLimit else h.settings.closeLimit
  | none => Config.frozenCloseLimit

/-- An OPEN or CLOSED device that has left its position starts its persistence timer once (R37). -/
def startPersistence (s : Parts) (d : DeviceId) : Parts :=
  let v := s.switching.devices[d]
  if v.persistence.isRunning then s
  else s.setDevice d { v with persistence := .running (s.persistenceTime d) }

/-- Whether the observed position of a device has changed between OPEN and another since `before`. -/
def Parts.leftOrEnteredOpen (s before : Parts) (d : DeviceId) : Bool := (before.position d == .open) != (s.position d == .open)

/-- An observed position taken by a device in service (R34, R35, R37 to R41). `before` is the state before the event and
`s` already shows the new pattern. -/
def takePosition (before : Parts) (d : DeviceId) (s : Parts) : Parts :=
  let v := s.switching.devices[d]
  let p := s.position d
  match v.state, p with
  | .closing, .closed => endDone before s d .closed .closed .close
  | .opening, .open => endDone before s d .open .open .open
  | .open, .open => (s.setDevice d { v with persistence := .stopped }).sendConducting before d
  | .closed, .closed => (s.setDevice d { v with persistence := .stopped }).sendConducting before d
  | .open, .closed =>
    let marks := s.switching.authority == .remoteControl
    let t := s.setDevice d { v with state := .closed, persistence := .stopped, discrepancy := v.discrepancy || marks }
    let t := if marks then t.raise .device else t
    (t.sendPosition d .closed s.uncommanded).sendConducting before d
  | .closed, .open =>
    let t := s.setDevice d { v with state := .open, persistence := .stopped }
    (t.sendPosition d .open s.uncommanded).sendConducting before d
  | .open, _ => (startPersistence s d).sendConducting before d
  | .closed, _ => (startPersistence s d).sendConducting before d
  | .failed, _ =>
    (if s.leftOrEnteredOpen before d then s.sendPosition d p .late else s).sendConducting before d
  | .uncertain, .open => ((s.setDevice d { v with state := .open }).sendPosition d .open .settled).sendConducting before d
  | .uncertain, .closed =>
    ((s.setDevice d { v with state := .closed }).sendPosition d .closed .settled).sendConducting before d
  | _, _ => s.sendConducting before d

/-- A pattern with one input at a level. -/
def putInput (p : Pattern) (i : DeviceInput) (level : Bool) : Pattern :=
  match i with
  | .openContact => { p with openContact := level }
  | .closedContact => { p with closedContact := level }
  | .ready => { p with ready := level }
  | .tripHealthy => { p with tripHealthy := level }

/-- A taken change of one input of a device (R17). It is an entry into NOT_READY (R19) only where the device was not NOT_READY
under the same mask before it (notes/assumptions/66.md). -/
def takeInput (d : DeviceId) (i : DeviceInput) (level : Bool) (s : Parts) : Parts :=
  let v := s.switching.devices[d]
  let p := putInput v.pattern i level
  if p = v.pattern then s
  else
    let t := s.setDevice d { v with pattern := p }
    if v.state = .unset ∨ v.state = .retired then t
    else
      let m := s.supervisionMask d
      let t := if !notReady m v.pattern && notReady m p then t.raise .device else t
      if positionOf p = positionOf v.pattern then t else takePosition s d t

/-! ## Putting a device in and out of service (R21) -/

/-- The state of an observed position (R21, R42). -/
def stateOfPosition : Position → DeviceState
  | .open => .open
  | .closed => .closed
  | .travel | .disagree => .uncertain

/-- A device's live half as ENTER SERVICE, a LOAD notice or a RETIRE notice leaves it, in a state (R21). -/
def DeviceLive.placed (x : DeviceLive) (st : DeviceState) : DeviceLive :=
  { DeviceLive.initial x.pattern with state := st }

/-- A device put in service by its observation, or RETIRED where its record is EMPTY or RETIRED (R21); the entry into
NOT_READY sets the DEVICE flag (R19). -/
def placeDevice (d : DeviceId) (s : Parts) : Parts :=
  let v := s.switching.devices[d]
  if isActive s.store.devices[d] then
    let s := s.setDevice d (v.placed (stateOfPosition (s.position d)))
    if notReady (s.supervisionMask d) v.pattern then s.raise .device else s
  else s.setDevice d (v.placed .retired)

/-- A LOAD or RETIRE notice of a device record in service (R21). -/
def replaceDevice (d : DeviceId) (s : Parts) : Parts :=
  if s.service.inService then (placeDevice d s).sendConducting s d else s

/-! ## Failures and intertrips (R42, R44, R45) -/

/-- ACKNOWLEDGE FAILURE of a device (R42). -/
def acknowledgeDevice (d : DeviceId) (s : Parts) : Parts × Status :=
  let v := s.switching.devices[d]
  match v.state with
  | .failed =>
    let t := s.setDevice d { v with state := stateOfPosition (s.position d), failure := none, discrepancy := false }
    let t := match s.position d with
      | .open => t.sendPosition d .open .settled
      | .closed => t.sendPosition d .closed .settled
      | _ => t
    (t.sendConducting s d, .ok)
  | .open | .closed | .uncertain =>
    if v.discrepancy then (s.setDevice d { v with discrepancy := false }, .ok) else (s, .state)
  | _ => (s, .state)

/-- The intertrip of a side is asked for an incomer (R44). -/
def assertIntertrip (i : SideId) (d : DeviceId) (s : Parts) : Parts :=
  let t := { s with switching.intertrips := s.switching.intertrips.set i (some d) }
  if s.switching.intertrips[i].isNone then t.raise .device else t

/-- RELEASE INTERTRIP of a side (R45). -/
def releaseIntertripOf (i : SideId) (s : Parts) : Parts × Status :=
  match s.switching.intertrips[i] with
  | none => (s, .already)
  | some d =>
    if s.position d = .open then
      ({ s with switching.intertrips := s.switching.intertrips.set i none }, .ok)
    else (s, .state)

end Sys2Proof.Machine
end

