-- ==== Sys2Proof/Machine/Lockouts.lean ====
section
/-!
DEFINITION. The Lockout Table (chapter 4): placement by merge, new record and pending entry (R62, R63), cover counts and
lockout notices (R64), the abort of a locked close (R65), the pending list and its drain (R66, R67), ADD and DROP DEVICES
(R68), release (R69) and damaged lockout records (R70).
-/

namespace Sys2Proof.Machine

/-! ## Cover counts and notices (R64) -/

/-- The cover counts with every device of a list changed. -/
def changeCover (f : Nat → Nat) (ds : List DeviceId) (s : Parts) : Parts :=
  { s with lockouts.cover := ds.foldl (fun counts (d : DeviceId) => counts.set d (f counts[d])) s.lockouts.cover }

def countIn (ds : List DeviceId) (s : Parts) : Parts := changeCover (· + 1) ds s
def countOut (ds : List DeviceId) (s : Parts) : Parts := changeCover (· - 1) ds s

/-- The lockout notices of an event: the devices whose locked standing changed since `before`, in ascending order. -/
def sendLockoutNotices (before s : Parts) : Parts :=
  if s.service.inService then
    s.sendAll ((allDevices.filter fun d =>
        before.lockouts.cover[d] != s.lockouts.cover[d] || before.isPending d != s.isPending d).map fun d =>
      .lockout d s.lockouts.cover[d] (s.isPending d) (!before.isLocked d && s.isLocked d))
  else s

/-- Every CLOSING device that is locked is sent an open with requester LOCKOUT, in ascending order (R65). -/
def abortLocked (s : Parts) : Parts :=
  allDevices.foldl (fun s d =>
    if s.switching.devices[d].state = .closing ∧ s.isLocked d then sendOpen d .lockout s else s) s

/-! ## Records -/

/-- The set of a lockout record as last written, by which its devices are counted (R64, R70). -/
def writtenSet (h : Held LockoutSettings) : List DeviceId := h.code.covers.devices

/-- Whether any ACTIVE lockout record is DAMAGED. -/
def Parts.anyLockoutDamaged (s : Parts) : Bool := allSlots.any fun k => isDamaged s.store.lockouts[k]

/-- The damage notice of a lockout record (R70). -/
def lockoutDamaged (k : SlotId) (s : Parts) : Parts :=
  match s.store.lockouts[k] with
  | some h =>
    let t := (countOut (writtenSet h) s).addHold .lockoutDamaged
    sendLockoutNotices s (t.raise .lockout)
  | none => s

/-- A read of a lockout record for an operation (R11, R63, R68). -/
def useLockout (k : SlotId) (s : Parts) : Parts × Option LockoutSettings :=
  useHeld s.store.lockouts[k] (fun h s => s.putLockout k (some h)) (lockoutIndex k) (lockoutDamaged k) s

/-- A lockout record's set rewritten, with a new check code and the changed mark. -/
def rewriteSet (k : SlotId) (ds : List DeviceId) (s : Parts) : Parts :=
  match s.store.lockouts[k] with
  | some h => (s.putLockout k (some (h.rewrite { h.settings with devices := ds }))).mark (lockoutIndex k)
  | none => s

/-- The lowest EMPTY slot. -/
def Parts.emptySlot (s : Parts) : Option SlotId := allSlots.find? fun k => s.store.lockouts[k].isNone

/-- The settings of a slot whose record is SOUND or CORRECTED and of a kind and origin. -/
def Parts.soundOf (s : Parts) (k : SlotId) (kd : LockoutKind) (o : LockoutOrigin) : Option LockoutSettings :=
  match s.store.lockouts[k] with
  | some h => if h.integrity ≠ .damaged ∧ h.settings.kind = kd ∧ h.settings.origin = o then some h.settings else none
  | none => none

/-- Whether a slot holds a SOUND or CORRECTED TAG record, of whatever origin, with one of some devices in its set (R68). -/
def Parts.tagHas (s : Parts) (k : SlotId) (ds : List DeviceId) : Bool :=
  match s.store.lockouts[k] with
  | some h => h.integrity != .damaged && h.settings.kind == .tag && ds.any h.settings.devices.contains
  | none => false

/-! ## Placement (R63) -/

/-- The reads of the merge targets: every SOUND or CORRECTED record of the kind and origin is checked. -/
def readTargets (kd : LockoutKind) (o : LockoutOrigin) (s : Parts) : Parts :=
  allSlots.foldl (fun s k => if (s.soundOf k kd o).isSome then (useLockout k s).1 else s) s

/-- The merge targets after the reads, in ascending order. -/
def Parts.targets (s : Parts) (kd : LockoutKind) (o : LockoutOrigin) : List (SlotId × List DeviceId) :=
  allSlots.filterMap fun k => (s.soundOf k kd o).map fun x => (k, x.devices)

/-- Step 1 for one device: nothing where a target has it, else the lowest target with room takes it. Answers whether the
device is done. -/
def mergeDevice (kd : LockoutKind) (o : LockoutOrigin) (d : DeviceId) (s : Parts) : Parts × Bool :=
  let ts := s.targets kd o
  if ts.any fun t => t.2.contains d then (s, true)
  else match ts.find? fun t => t.2.length < 8 with
    | some t => (countIn [d] (rewriteSet t.1 (insertAscending d t.2) s), true)
    | none => (s, false)

/-- Step 1 for a list of devices; answers those left over. -/
def mergeAll (kd : LockoutKind) (o : LockoutOrigin) : List DeviceId → Parts → Parts × List DeviceId
  | [], s => (s, [])
  | d :: ds, s =>
    let (s, done) := mergeDevice kd o d s
    let (s, left) := mergeAll kd o ds s
    (s, if done then left else d :: left)

/-- A new record in a slot: ACTIVE and SOUND with a new check code (R63). -/
def placeRecord (k : SlotId) (x : LockoutSettings) (s : Parts) : Parts :=
  countIn x.devices ((s.putLockout k (some (Held.fresh x))).mark (lockoutIndex k))

/-- Step 2: the devices left over go into EMPTY slots, eight to a slot, while there are any; answers those left. -/
def placeNew (kd : LockoutKind) (o : LockoutOrigin) (reason : Nat) : Nat → List DeviceId → Parts → Parts × List DeviceId
  | 0, ds, s => (s, ds)
  | n + 1, ds, s =>
    if ds.isEmpty then (s, [])
    else match s.emptySlot with
      | some k => placeNew kd o reason n (ds.drop 8)
          (placeRecord k { kind := kd, origin := o, devices := ds.take 8, reason := reason } s)
      | none => (s, ds)

/-- An entry put into the pending list at its place (R66). -/
def insertEntry (e : PendingEntry) (es : List PendingEntry) : List PendingEntry :=
  insertBy (fun a b => a.device.val < b.device.val) e es

/-- Step 3 for one device: an entry, unless it is covered or has one already (R63, R66). -/
def makePending (kd : LockoutKind) (o : LockoutOrigin) (reason : Nat) (s : Parts) (d : DeviceId) : Parts :=
  if s.isLocked d then s
  else
    let s := { s with
      lockouts.pending := insertEntry { device := d, kind := kd, origin := o, reason := reason } s.lockouts.pending }
    (s.raise .lockout).addHold .lockoutPending

/-- A placement (R63) with the notices of R64 and the aborts of R65. The devices are in ascending order. -/
def placeLockouts (kd : LockoutKind) (o : LockoutOrigin) (reason : Nat) (ds : List DeviceId) (s : Parts) : Parts :=
  let t := readTargets kd o s
  let (u, left) := mergeAll kd o ds t
  let (u, left) := placeNew kd o reason 32 left u
  let u := left.foldl (makePending kd o reason) u
  abortLocked (sendLockoutNotices t u)

/-- A placement from the Protection Unit, which sets the LOCKOUT flag whatever its outcome (R62). One with an empty list
does nothing beside (notes/assumptions/18.md). -/
def placeAutomatic (kd : LockoutKind) (o : LockoutOrigin) (ds : List DeviceId) (s : Parts) : Parts :=
  if ds.isEmpty then s.raise .lockout else placeLockouts kd o 0 ds (s.raise .lockout)

/-- The list of a BUS placement for a guarded device (R62). -/
def busLockoutList (s : Parts) (d : DeviceId) : List DeviceId :=
  match s.terminalA d with
  | none => []
  | some b =>
    (allDevices.filter fun x =>
      (match s.topology.index[x] with
       | some e => e.terminalA == b || e.terminalB == .bus b
       | none => false) && s.switching.devices[x].state != .retired).take 8

/-- The outcome the host is told for a named device: the slot that holds it, 0xFE PENDING or 0xFF COVERED (R63, R179). One
that no slot of the placement holds and that is both covered and pending is told PENDING (notes/assumptions/35.md). -/
def placementOutcome (s : Parts) (d : DeviceId) : Nat :=
  match (s.targets .tag .supervisor).find? fun t => t.2.contains d with
  | some t => t.1.val
  | none => if s.isPending d then 0xFE else 0xFF

/-! ## The drain (R67) -/

/-- One entry taken off the list and placed. Answers whether the drain goes on. -/
def drainEntry (e : PendingEntry) (rest : List PendingEntry) (s : Parts) : Parts × Bool :=
  let s := { s with lockouts.pending := rest }.raise .lockout
  let (s, done) := mergeDevice e.kind e.origin e.device (readTargets e.kind e.origin s)
  if done then (s, true)
  else ((placeNew e.kind e.origin e.reason 1 [e.device] s).1, false)

/-- The drain, over at most as many entries as the list holds. -/
def drainLoop : Nat → Parts → Parts
  | 0, s => s
  | n + 1, s =>
    match s.lockouts.pending, s.emptySlot with
    | e :: rest, some _ =>
      let (s, goesOn) := drainEntry e rest s
      if goesOn then drainLoop n s else s
    | _, _ => s

/-- The drain of the pending list at an event that has made a slot EMPTY. -/
def drain (s : Parts) : Parts :=
  let t := drainLoop 48 s
  let t := if t.lockouts.pending.isEmpty then t.removeHold .lockoutPending else t
  abortLocked (sendLockoutNotices s t)

/-- A record freed: steps 1 to 5 of R69. -/
def freeLockout (k : SlotId) (s : Parts) : Parts :=
  match s.store.lockouts[k] with
  | none => s
  | some h =>
    let t := (s.putLockout k none).mark (lockoutIndex k)
    let t := if h.integrity = .damaged then t else countOut (writtenSet h) t
    let t := if h.integrity = .damaged ∧ !t.anyLockoutDamaged then t.removeHold .lockoutDamaged else t
    drain (sendLockoutNotices s t)

/-! ## Host requests (R62, R68, R69) -/

/-- The devices a list of index bytes names, or nothing where one is out of range. -/
def devicesNamed (ds : List Nat) : Option (List DeviceId) :=
  ds.foldr (fun d acc => do pure ((← index? 48 d) :: (← acc))) (some [])

/-- PLACE LOCKOUT (R62): the state, the status and the outcomes. -/
def placeRequest (reason : Nat) (ds : List Nat) (s : Parts) : Parts × Status × List Byte :=
  if ds.isEmpty ∨ ds.length > 8 ∨ !distinct ds then (s, .badRequest, [])
  else match devicesNamed ds with
    | none => (s, .badIndex, [])
    | some named =>
      if reason > 255 then (s, .range, [])
      else
        let t := placeLockouts .tag .supervisor reason (ascending named) s
        (t, .ok, named.map fun d => byte (placementOutcome t d))

/-- What ADD DEVICES and DROP DEVICES examine in common, steps 1 to 6 of R68: the slot, the named devices and the
settings as checked, or the answer. -/
def examineSet (slot : Nat) (ds : List Nat) (s : Parts) :
    Parts × Except Status (SlotId × List DeviceId × LockoutSettings) :=
  match index? 32 slot, devicesNamed ds with
  | some k, some named =>
    if ds.isEmpty ∨ ds.length > 8 ∨ !distinct ds then (s, .error .badRequest)
    else match s.store.lockouts[k] with
      | none => (s, .error .state)
      | some h =>
        if h.integrity = .damaged then (s, .error .damaged)
        else if h.settings.kind ≠ .tag then (s, .error .origin)
        else match useLockout k s with
          | (s, some x) => (s, .ok (k, named, x))
          | (s, none) => (s, .error .damaged)
  | _, _ => (s, .error .badIndex)

/-- ADD DEVICES (R68). -/
def addRequest (slot : Nat) (ds : List Nat) (s : Parts) : Parts × Status :=
  match examineSet slot ds s with
  | (s, .error e) => (s, e)
  | (s, .ok (k, named, x)) =>
    let fresh := named.filter fun d => !x.devices.contains d
    if x.devices.length + fresh.length > 8 then (s, .range)
    else if allSlots.any fun j => j != k && s.tagHas j named then (s, .state)
    else
      let t := countIn fresh (rewriteSet k (fresh.foldl (fun acc d => insertAscending d acc) x.devices) s)
      (abortLocked (sendLockoutNotices s t), .ok)

/-- DROP DEVICES (R68). -/
def dropRequest (slot : Nat) (ds : List Nat) (s : Parts) : Parts × Status :=
  match examineSet slot ds s with
  | (s, .error e) => (s, e)
  | (s, .ok (k, named, x)) =>
    if named.any fun d => !x.devices.contains d then (s, .range)
    else
      let left := x.devices.filter fun d => !named.contains d
      if left.isEmpty then (freeLockout k s, .ok)
      else
        let t := countOut named (rewriteSet k left s)
        (sendLockoutNotices s t, .ok)

/-- RELEASE LOCKOUT (R69). -/
def releaseRequest (slot : Nat) (s : Parts) : Parts × Status :=
  match index? 32 slot with
  | none => (s, .badIndex)
  | some k => if s.store.lockouts[k].isNone then (s, .state) else (freeLockout k s, .ok)

/-- The LOAD notice of a lockout record; `former` is the record before the LOAD (R70). -/
def lockoutLoaded (k : SlotId) (former : Held LockoutSettings) (s : Parts) : Parts :=
  match s.store.lockouts[k] with
  | none => s
  | some h =>
    let t := if former.integrity = .damaged then s else countOut (writtenSet former) s
    let t := abortLocked (countIn (writtenSet h) t)
    let t := if t.anyLockoutDamaged then t else t.removeHold .lockoutDamaged
    (sendLockoutNotices s t).mark (lockoutIndex k)

end Sys2Proof.Machine
end

