-- ==== Sys2Proof/Machine/Lanes.lean ====
section
/-!
DEFINITION. The Lane Interface (chapter 5): characters and frames (R72 to R76), silence and break (R74, R77), points (R78
to R81), SETPOINT transmission (R82) and test substitution (R83, R84), with the lane frame layouts of R180.
-/

namespace Sys2Proof.Machine

/-! ## Characters (R72) -/

/-- The majority of the three samples of a bit. -/
def majority (b : BitSample) : Bool := (b.first && b.second) || (b.first && b.third) || (b.second && b.third)

/-- Whether the three samples of a bit disagree. -/
def disagrees (b : BitSample) : Bool := !(b.first == b.second && b.second == b.third)

/-- The byte of a character: data bit n is bit n. -/
def characterByte (x : LaneCharacter) : Byte := byte (maskOf ((x.data.map majority).toList))

/-- PARITY: the ones among data, marker and parity are odd. -/
def parityError (x : LaneCharacter) : Bool :=
  (x.data.map majority).toList.foldl xor (xor (majority x.marker) (majority x.parity))

/-- FRAMING: the stop bit is taken as spacing. -/
def framingError (x : LaneCharacter) : Bool := !majority x.stop

/-- NOISE: the samples of any bit disagree. -/
def noiseError (x : LaneCharacter) : Bool :=
  disagrees x.start || x.data.toList.any disagrees || disagrees x.marker || disagrees x.parity || disagrees x.stop

/-- How many character errors a character carries. -/
def errorCount (x : LaneCharacter) : Nat :=
  (parityError x).toNat + (framingError x).toNat + (noiseError x).toNat

/-! ## Discard counts (R75) -/

/-- A count that stops at 65535. -/
def addCount (n k : Nat) : Nat := min 65535 (n + k)

/-- A lane written. -/
def Parts.setLane (s : Parts) (f : LaneId) (x : LaneLive) : Parts :=
  { s with lanes.lanes := s.lanes.lanes.set f x }

/-- The measurement interval in service. -/
def Parts.interval (s : Parts) : Nat := s.service.station.elim 0 StationSettings.interval

/-- The unit kind of a lane, as taken into service. -/
def LaneLive.isGeneratorLane (x : LaneLive) : Bool :=
  match x.entry with
  | some e => e.unitKind == .generator
  | none => false

/-! ## Points (R78, R81) -/

/-- The point of a slot of a lane (R78). -/
def slotPoint (f : LaneId) (k : Fin 4) : PointId := ⟨4 * f.val + k.val, by omega⟩

/-- The slots of a lane. -/
def allSlotNumbers : List (Fin 4) := List.finRange 4

/-- The lane of a point (R78). -/
def laneOfPoint (p : PointId) : LaneId := ⟨p.val / 4, by omega⟩

/-- The live fields of a point that a READ shows (R78). -/
def PointLive.shown (x : PointLive) : PointStatus × PointValues × Nat × Nat := (x.status, x.values, x.delta, x.missed)

/-- A point written, with the changed mark of a point in use (R78). -/
def Parts.setPoint (s : Parts) (p : PointId) (x : PointLive) : Parts :=
  { s with lanes.points := s.lanes.points.set p x }.markIf
    (x.kind.isSome && s.lanes.points[p].shown != x.shown) (pointIndex p)

/-- The blocks that use a point of a kind, in the order of R81. A bus that names an ACTIVE point of another kind than BUS
is told nothing of it and stays at class NONE (notes/assumptions/36.md). -/
def pointUsers (k : PointKind) : List PointUser :=
  match k with
  | .feeder => [.load]
  | .bus => [.topology, .paralleling]
  | .utility => [.changeover]
  | .generator => [.paralleling]

/-- A point-update notice to each block that uses the point (R81). -/
def Parts.sendPoint (s : Parts) (p : PointId) (u : Option UpdateMark) (endOfTest : Bool) : Parts :=
  let x := s.lanes.points[p]
  let n : PointNotice := { point := p, status := x.status, values := x.values, update := u, endOfTest := endOfTest }
  let watched := allElements.any fun e => s.protection.watch[e] == some p
  let users : List PointUser := (if watched then [.protection] else []) ++ x.kind.elim [] pointUsers
  s.sendAll (users.map fun user => .point user n)

/-- A FRESH point becomes STALE, with its notice (R77, R79). -/
def makeStale (p : PointId) (s : Parts) : Parts :=
  (s.setPoint p { s.lanes.points[p] with status := .stale }).sendPoint p none false

/-- Every FRESH point of a lane becomes STALE (R74, R77). -/
def stalePoints (f : LaneId) (s : Parts) : Parts :=
  allSlotNumbers.foldl (fun s k =>
    if s.lanes.points[slotPoint f k].status = .fresh then makeStale (slotPoint f k) s else s) s

/-! ## Groups and limits (R79, R180) -/

/-- A phase angle brought into −1800..1799. -/
def wrapPhase (v : Int) : Int := (v + 1800) % 3600 - 1800

/-- A value clamped to a range. -/
def clampTo (lo hi v : Int) : Int := max lo (min hi v)

/-- A voltage limited to 2000. -/
def limitVoltage (v : Nat) : Nat := min 2000 v

/-- A three-byte signed power, −8,388,608 taken as −8,388,607. -/
def readPower (a b d : Byte) : Int :=
  max (-8388607) (BitVec.ofNat 24 (a.toNat * 65536 + read16 b d)).toInt

/-- The values of an 18-byte group, with the limits of R79, and its last byte. -/
def readGroup : List Byte → Option (PointValues × Byte)
  | [a1, a0, b1, b0, c1, c0, r1, r0, v1, v0, f1, f0, h1, h0, p2, p1, p0, q] =>
    some ({ ia := read16 a1 a0, ib := read16 b1 b0, ic := read16 c1 c0, ir := read16 r1 r0,
            v := limitVoltage (read16 v1 v0), f := clampTo 40000 70000 ((read16 f1 f0 : Int) + 30000),
            phi := wrapPhase (readSigned16 h1 h0), p := readPower p2 p1 p0 }, q)
  | _ => none

/-- The group at a place of a body. -/
def groupAt (body : List Byte) (n : Nat) : List Byte := (body.drop (18 * n)).take 18

/-! ## Frames (R73, R75, R180) -/

/-- The frame kinds that arrive. -/
inductive FrameKind where
  | measure | genstate
  deriving DecidableEq, Repr

/-- The frame kind of a header. A SETPOINT header does not arrive. -/
def headerKind (h : Byte) : Option FrameKind :=
  if h.toNat / 16 = 1 then some .measure else if h.toNat / 16 = 2 then some .genstate else none

/-- Whether a slot is in the mask of a MEASURE header. -/
def inMask (h : Byte) (k : Fin 4) : Bool := bitAt h.toNat k.val

/-- The number of slots in the mask below a slot. -/
def slotsBelow (h : Byte) (k : Nat) : Nat := (allSlotNumbers.filter fun j => j.val < k && inMask h j).length

/-- The length a header gives, in characters with the header; none where it gives no usable length (R73). -/
def headerLength (h : Byte) : Option Nat :=
  match headerKind h with
  | some .measure => if slotsBelow h 4 = 0 then none else some (4 + 18 * slotsBelow h 4)
  | some .genstate => some 22
  | none => none

/-! ## SETPOINT transmission (R82) -/

/-- A transmission begins: it takes the outbound sequence number and advances it. -/
def LaneLive.transmit (x : LaneLive) (y : Content) : LaneLive :=
  { x with sending := some { sequence := x.outbound, content := y }, outbound := x.outbound + 1 }

/-- A new content for a lane (R82). -/
def offerContent (f : LaneId) (y : Content) (s : Parts) : Parts :=
  let x := s.lanes.lanes[f]
  if x.state = .disabled ∨ !x.isGeneratorLane then s
  else match x.sending with
    | none => s.setLane f (x.transmit y)
    | some _ => s.setLane f { x with waiting := some y }

/-- The stop bit of a SETPOINT frame's last character is sent (R82). -/
def transmissionEnds (f : LaneId) (s : Parts) : Parts :=
  let x := s.lanes.lanes[f]
  match x.sending, x.waiting with
  | none, _ => s
  | some _, some y => s.setLane f ({ x with waiting := none }.transmit y)
  | some _, none => s.setLane f { x with sending := none }

/-- The content the Paralleling Unit holds for a generator (R82). -/
def contentOf (g : GeneratorLive) : Content :=
  { run := g.run, target := g.target, frequencyNudge := g.frequencyNudge, voltageNudge := g.voltageNudge }

/-- The generator whose content a lane takes at an accepted GENSTATE frame: the lowest-indexed one whose in-service copy names
it (notes/assumptions/22.md). -/
def Parts.generatorOfLane (s : Parts) (f : LaneId) : Option GeneratorId :=
  allGenerators.find? fun g => match s.paralleling.generators[g].settings with
    | some x => x.lane == f
    | none => false

/-- The content an accepted GENSTATE frame forms (R82). -/
def formContent (f : LaneId) (s : Parts) : Parts :=
  match s.generatorOfLane f with
  | some g => offerContent f (contentOf s.paralleling.generators[g]) s
  | none => s

/-- The bytes of a SETPOINT frame (R180). The CRC is over every byte after the header (R75). -/
def Sending.bytes (x : Sending) : List Byte :=
  let body := x.sequence :: byte (codeIn RunCommand.all x.content.run) ::
    (bytes16 x.content.target ++ bytesSigned16 x.content.frequencyNudge ++ bytesSigned16 x.content.voltageNudge)
  0x30#8 :: (body ++ crcBytes body)

/-- A bit held at a level, whose three samples agree. -/
def steadySample (b : Bool) : BitSample := ⟨b, b, b⟩

/-- The character of a byte and a marker bit: start, data, marker, even parity and stop (R72). -/
def characterOf (b : Byte) (marker : Bool) : LaneCharacter :=
  let data : Vector Bool 8 := Vector.ofFn fun k => bitAt b.toNat k.val
  { start := steadySample false, data := data.map steadySample, marker := steadySample marker,
    parity := steadySample (data.toList.foldl xor marker), stop := steadySample true }

/-- The characters of a SETPOINT frame as they are sent: the marker bit is set only on the header (R82). -/
def Sending.characters (x : Sending) : List LaneCharacter :=
  match x.bytes with
  | header :: rest => characterOf header true :: rest.map (characterOf · false)
  | [] => []

/-- What the transmit line of a lane carries; no line is driven while RSTN is low (R82, R167). -/
def State.transmitLine (s : State) (f : LaneId) : List LaneCharacter :=
  if s.inReset then [] else (s.parts.lanes.lanes[f].sending).elim [] Sending.characters

/-! ## Acceptance (R76, R79, R80) -/

/-- One slot in the mask, with its values and whether its quality is valid (R79). -/
def takeSlot (p : PointId) (delta : Nat) (v : PointValues) (valid : Bool) (s : Parts) : Parts :=
  let x := s.lanes.points[p]
  if x.kind.isNone ∨ x.status = .test then s
  else if valid then
    (s.setPoint p { x with status := .fresh, values := v, delta := delta, missed := 0 }).sendPoint p
      (some { delta := delta, test := none }) false
  else
    let t := s.setPoint p { x with status := .stale, missed := 0 }
    if x.status = .stale then t else t.sendPoint p none false

/-- One slot not in the mask (R79). -/
def missSlot (p : PointId) (limit : Nat) (s : Parts) : Parts :=
  let x := s.lanes.points[p]
  if x.kind.isNone ∨ x.status ≠ .fresh then s
  else if x.missed + 1 ≥ limit then
    (s.setPoint p { x with missed := x.missed + 1, status := .stale }).sendPoint p none false
  else s.setPoint p { x with missed := x.missed + 1 }

/-- The points of an accepted MEASURE frame, in ascending slot order (R79). `body` follows the sequence number. -/
def takeMeasure (f : LaneId) (h : Byte) (body : List Byte) (delta limit : Nat) (s : Parts) : Parts :=
  allSlotNumbers.foldl (fun s k =>
    if inMask h k then
      match readGroup (groupAt body (slotsBelow h k.val)) with
      | some (v, q) => takeSlot (slotPoint f k) delta v (bitAt q.toNat 0) s
      | none => s
    else missSlot (slotPoint f k) limit s) s

/-- An accepted GENSTATE frame: the point of slot 0, the generator-state notice, and the content it forms (R80, R82). The
content is taken once the Paralleling Unit has acted on that notice (notes/assumptions/2.md). -/
def takeGenstate (f : LaneId) (body : List Byte) (delta : Nat) (s : Parts) : Parts :=
  match readGroup (groupAt body 0) with
  | some (v, q) =>
    let t := takeSlot (slotPoint f 0) delta v (bitAt q.toNat 0) s
    t.sendAll [.generatorState f (bitAt q.toNat 1) (bitAt q.toNat 2) delta, .formContent f]
  | none => s

/-- The acceptance of a valid frame with its Δt (R76). -/
def acceptFrame (f : LaneId) (k : FrameKind) (h sequence : Byte) (body : List Byte) (delta : Nat) (s : Parts) : Parts :=
  let x := s.lanes.lanes[f]
  let limit := x.entry.elim 0 LaneSettings.silenceLimit
  let t := s.setLane f { x with
    state := .up, lastSequence := some sequence, silence := .running (limit * s.interval),
    counts := { x.counts with accepted := addCount x.counts.accepted 1 } }
  let t := if x.state ≠ .up ∧ x.isGeneratorLane then t.send (.lane f x.state .up) else t
  match k with
  | .measure => takeMeasure f h body delta limit t
  | .genstate => takeGenstate f body delta t

/-- A valid frame judged by its sequence number (R76). -/
def judgeSequence (f : LaneId) (k : FrameKind) (h sequence : Byte) (body : List Byte) (s : Parts) : Parts :=
  let x := s.lanes.lanes[f]
  if x.state ≠ .up then acceptFrame f k h sequence body s.interval s
  else
    let gap := (sequence - x.lastSequence.getD 0).toNat
    if gap = 0 then
      s.setLane f { x with counts := { x.counts with duplicate := addCount x.counts.duplicate 1 } }
    else if gap < 128 then acceptFrame f k h sequence body (min gap 4 * s.interval) s
    else s.setLane f { x with counts := { x.counts with old := addCount x.counts.old 1 } }

/-- Whether a frame kind matches a lane's unit kind (R75 check 2). -/
def kindMatches (k : FrameKind) (x : LaneLive) : Bool :=
  match k with
  | .measure => !x.isGeneratorLane
  | .genstate => x.isGeneratorLane

/-- A complete frame judged (R75). The lane already assembles nothing. -/
def judgeFrame (f : LaneId) (a : Assembly) (s : Parts) : Parts :=
  let x := s.lanes.lanes[f]
  match headerKind a.header, a.bytes with
  | some k, sequence :: rest =>
    if a.bad then s
    else if !kindMatches k x then
      s.setLane f { x with counts := { x.counts with kind := addCount x.counts.kind 1 } }
    else if a.bytes.drop (a.bytes.length - 2) ≠ crcBytes (a.bytes.take (a.bytes.length - 2)) then
      s.setLane f { x with counts := { x.counts with check := addCount x.counts.check 1 } }
    else judgeSequence f k a.header sequence (rest.take (rest.length - 2)) s
  | _, _ => s

/-- A character with its marker bit set (R73). -/
def takeHeader (f : LaneId) (b : Byte) (errors : Nat) (s : Parts) : Parts :=
  let x := s.lanes.lanes[f]
  let counts := if x.assembly.isSome then { x.counts with truncated := addCount x.counts.truncated 1 } else x.counts
  if errors > 0 then s.setLane f { x with counts := counts, assembly := none }
  else match headerLength b with
    | some n => s.setLane f { x with counts := counts, assembly := some { header := b, length := n, bad := false, bytes := [] } }
    | none => s.setLane f { x with counts := { counts with kind := addCount counts.kind 1 }, assembly := none }

/-- A character with its marker bit clear (R73). -/
def takeBody (f : LaneId) (b : Byte) (errors : Nat) (s : Parts) : Parts :=
  let x := s.lanes.lanes[f]
  match x.assembly with
  | none => s
  | some a =>
    let a := { a with bytes := a.bytes ++ [b], bad := a.bad || errors > 0 }
    if a.bytes.length + 1 ≥ a.length then judgeFrame f a (s.setLane f { x with assembly := none })
    else s.setLane f { x with assembly := some a }

/-- A character on a lane (R72, R73). A DISABLED lane, or one still spacing after a break, takes none. -/
def takeCharacter (f : LaneId) (y : LaneCharacter) (s : Parts) : Parts :=
  let x := s.lanes.lanes[f]
  if x.state = .disabled ∨ x.spacing then s
  else
    let s := s.setLane f { x with counts := { x.counts with character := addCount x.counts.character (errorCount y) } }
    if majority y.marker then takeHeader f (characterByte y) (errorCount y) s
    else takeBody f (characterByte y) (errorCount y) s

/-! ## Break and silence (R74, R77) -/

/-- A lane leaves UP or SILENT for another state: the LANE flag, the notice of R139 and its FRESH points. -/
def dropLane (f : LaneId) (st : LaneState) (s : Parts) : Parts :=
  let x := s.lanes.lanes[f]
  let t := (s.setLane f { x with state := st, silence := .stopped }).raise .lane
  let t := if x.isGeneratorLane then t.send (.lane f x.state st) else t
  stalePoints f t

/-- A break (R74). -/
def takeBreak (f : LaneId) (s : Parts) : Parts :=
  let x := s.lanes.lanes[f]
  if x.state = .disabled ∨ x.spacing then s
  else
    let t := s.setLane f { x with
      assembly := none, lastSequence := none, spacing := true,
      counts := { x.counts with breaks := addCount x.counts.breaks 1 } }
    if x.state = .down then t else dropLane f .down t

/-- The silence timer expires (R77). -/
def silenceExpires (f : LaneId) (s : Parts) : Parts :=
  if s.lanes.lanes[f].state = .up ∧ s.lanes.lanes[f].silence.isRunning then dropLane f .silent s else s

/-- The receive line returns to marking (R74). -/
def lineMarks (f : LaneId) (s : Parts) : Parts := s.setLane f { s.lanes.lanes[f] with spacing := false }

/-! ## Tests (R83, R84) -/

/-- The ranges of R78 over test values. -/
def valuesInRange (v : PointValues) : Bool :=
  v.ia ≤ 65535 && v.ib ≤ 65535 && v.ic ≤ 65535 && v.ir ≤ 65535 && v.v ≤ 2000 && (40000 ≤ v.f && v.f ≤ 70000) &&
    (-1800 ≤ v.phi && v.phi ≤ 1799) && (-8388607 ≤ v.p && v.p ≤ 8388607)

/-- An application of the test values (R84). -/
def applyTest (p : PointId) (t : TestHold) (s : Parts) : Parts :=
  let x := s.lanes.points[p]
  (s.setPoint p { x with values := t.values, delta := s.interval, missed := 0 }).sendPoint p
    (some { delta := s.interval, test := some t.mode }) false

/-- TEST INJECT (R83). -/
def injectRequest (point : Nat) (v : PointValues) (mode : TestMode) (duration : Nat) (s : Parts) : Parts × Status :=
  match index? 64 point with
  | none => (s, .badIndex)
  | some p =>
    let x := s.lanes.points[p]
    if !valuesInRange v ∨ duration < 1 ∨ duration > 600 then (s, .range)
    else if !s.service.inService ∨ x.kind ≠ some .feeder ∨ x.status = .test then (s, .state)
    else
      let t : TestHold :=
        { heldStatus := x.status, heldValues := x.values, heldDelta := x.delta, values := v, mode := mode,
          interval := .running s.interval, duration := .running (duration * 1000) }
      let s := applyTest p t (s.setPoint p { x with status := .test, test := some t })
      ({ s with lanes.testCount := s.lanes.testCount + 1 }, .ok)

/-- The status a test leaves, from its lane and its held status (R84). -/
def statusAfterTest (held : PointStatus) (laneUp : Bool) : PointStatus :=
  match held with
  | .fresh => if laneUp then .fresh else .stale
  | .stale => .stale
  | _ => .none

/-- The end of a test (R84). -/
def endTestOf (p : PointId) (t : TestHold) (s : Parts) : Parts :=
  let x := s.lanes.points[p]
  let up := s.lanes.lanes[laneOfPoint p].state == .up
  let s := s.setPoint p { x with
    values := t.heldValues, delta := t.heldDelta, status := statusAfterTest t.heldStatus up, missed := 0, test := none }
  let s := s.sendPoint p none true
  { s with lanes.testCount := s.lanes.testCount - 1 }

/-- END TEST (R84). -/
def endTestRequest (point : Nat) (s : Parts) : Parts × Status :=
  match index? 64 point with
  | none => (s, .badIndex)
  | some p => match s.lanes.points[p].test with
    | some t => (endTestOf p t s, .ok)
    | none => (s, .state)

/-- A test interval timer expires (R84). -/
def testIntervalExpires (p : PointId) (s : Parts) : Parts :=
  match s.lanes.points[p].test with
  | some t =>
    if t.interval.isRunning then
      let t := { t with interval := .running s.interval }
      applyTest p t (s.setPoint p { s.lanes.points[p] with test := some t })
    else s
  | none => s

/-- A test duration timer expires (R84). -/
def testDurationExpires (p : PointId) (s : Parts) : Parts :=
  match s.lanes.points[p].test with
  | some t => if t.duration.isRunning then endTestOf p t s else s
  | none => s

/-! ## Entering and leaving service (R71, R78) -/

/-- The entry frequency of the points: 50000 × (nominal frequency ÷ 50) as last taken, 50000 after power-on (R78). -/
def entryFrequency (t : Option StationSettings) : Int :=
  match t with
  | some x => match x.nominal with
    | .hz50 => 50000
    | .hz60 => 60000
  | none => 50000

/-- A lane at entry (R71), with no spacing run known to be under way (notes/assumptions/42.md). -/
def laneAtEntry (e : LaneSettings) : LaneLive :=
  { LaneLive.initial with entry := some e, state := if e.enabled then .down else .disabled }

/-- The kind of a point at entry, as the record gives it; none where the point is not in use (R78). -/
def Parts.kindAtEntry (s : Parts) (p : PointId) : Option PointKind :=
  if isActive s.store.points[p] then (settingsOf s.store.points[p]).map PointSettings.kind else none

/-- A point taken into service with its entry values (R78). -/
def enterPoint (f : Int) (s : Parts) (p : PointId) : Parts :=
  s.setPoint p { PointLive.initial f with kind := s.kindAtEntry p }

/-- The lanes and points taken into service (R71, R78). -/
def enterLanes (t : StationSettings) (s : Parts) : Parts :=
  allPoints.foldl (enterPoint (entryFrequency (some t)))
    { s with lanes.lanes := t.lanes.map laneAtEntry, lanes.testCount := 0 }

/-- The Lane Interface out of service (R71, R78), with no spacing run kept (notes/assumptions/42.md). -/
def leaveLanes (s : Parts) : Parts := { s with lanes := LaneInterface.initial (entryFrequency s.service.station) }

end Sys2Proof.Machine
end

