-- ==== Sys2Proof/Machine/Protection.lean ====
section
/-!
DEFINITION. Protection elements (chapter 6): quantity, operate time and accumulator (R88 to R92), updates (R93), tripping
(R94 to R96), tests and status changes (R97, R98), blind limits and the UNPROTECTED set (R99, R100), damage, loading and
amendment (R101 to R103), and zone interlocking (R114 to R117).
-/

namespace Sys2Proof.Machine

/-! ## Quantity and operate time (R88 to R90) -/

/-- The quantity Q of an element (R88). -/
def quantityOf (x : ElementSettings) (v : PointValues) : Nat :=
  match x.kind, x.quantity with
  | .overcurrent, some .residual => v.ir
  | .overcurrent, _ => max v.ia (max v.ib v.ic)
  | .overvoltage, _ => v.v
  | .reversePower, _ => (-v.p).toNat

/-- Whether an element is picked up by values (R88). -/
def pickedUp (x : ElementSettings) (v : PointValues) : Bool := quantityOf x v ≥ x.pickup

/-- The multiple q (R89). -/
def multiple (x : ElementSettings) (v : PointValues) : Nat :=
  let q := min 640 (16 * quantityOf x v / x.pickup)
  match x.curve with
  | .inv1 | .inv2 => max 17 q
  | .definite => q

/-- The operate time t in ms (R90). -/
def operateTime (x : ElementSettings) (q : Nat) : Nat :=
  max 1 (match x.curve with
    | .inv1 => x.timeDial * (x.a * 16 / (q - 16) + x.b) / 10
    | .inv2 => x.timeDial * (x.a * 256 / (q * q - 256) + x.b) / 10
    | .definite => x.timeDial * x.b / 10)

/-- The increment of a picked-up update (R91). -/
def increment (delta t : Nat) : Nat := max 1 (delta * Config.accumulatorLimit / t)

/-- The accumulator after a picked-up update (R91). -/
def advanced (x : ElementSettings) (v : PointValues) (delta acc : Nat) : Nat :=
  min (acc + increment delta (operateTime x (multiple x v))) Config.accumulatorLimit

/-- The accumulator after an update that is not picked up (R92). -/
def lowered (x : ElementSettings) (delta acc : Nat) : Nat :=
  match x.resetMode with
  | .instant => 0
  | .timed => acc - max 1 (delta * Config.accumulatorLimit / x.resetTime)

/-! ## Writing an element (R105) -/

/-- Whether a blind timer is in another of its three conditions. -/
def blindMoved (a b : LatchedTimer) : Bool := a.isRunning != b.isRunning || (a == .ended) != (b == .ended)

/-- Whether a change of an element is one that sets its record's changed mark (R105). -/
def ElementLive.moved (o x : ElementLive) : Bool :=
  o.state != x.state || o.target != x.target || blindMoved o.blind x.blind || o.zone.isRunning != x.zone.isRunning

/-- An element written, with its changed mark (R105), whatever the life state of its record (notes/assumptions/49.md). -/
def Parts.setElement (s : Parts) (e : ElementId) (x : ElementLive) : Parts :=
  { s with protection.elements := s.protection.elements.set e x }.markIf
    (s.protection.elements[e].moved x) (elementIndex e)

/-! ## The UNPROTECTED set (R100) -/

/-- Whether an element makes its device unprotected: DAMAGED or past its blind limit. -/
def ElementLive.fails (x : ElementLive) : Bool := x.state == .damaged || x.blind == .ended

/-- Whether the guard index lists a device against an element that is DAMAGED or past its blind limit. -/
def Parts.isUnguarded (s : Parts) (d : DeviceId) : Bool :=
  allElements.any fun e => s.protection.guards[e] == some d && s.protection.elements[e].fails

/-- A review of a device's membership (R100). -/
def reviewGuard (d : DeviceId) (s : Parts) : Parts :=
  let t := { s with protection.unprotected := s.protection.unprotected.set d (s.isUnguarded d) }
  if s.isUnguarded d && !s.protection.unprotected[d] then t.raise .protection else t

/-- A review of the device the guard index lists an element against. -/
def reviewGuardOf (e : ElementId) (s : Parts) : Parts :=
  match s.protection.guards[e] with
  | some d => reviewGuard d s
  | none => s

/-! ## Zone interlocking (R114, R115) and damage (R101) -/

/-- Whether an element restrains the upstream it names. -/
def ElementState.restrains : ElementState → Bool
  | .pickedUp | .tripped | .blind => true
  | _ => false

/-- Whether an element is restrained by its restraint list (R114). -/
def Parts.isRestrained (s : Parts) (x : ElementId) : Bool :=
  allElements.any fun e => s.protection.upstream[e] == some x && s.protection.elements[e].state.restrains

/-- The fallback of a damaged element (R101), which also leaves its restraint list (R114). -/
def damageElement (e : ElementId) (s : Parts) : Parts :=
  let x := s.protection.elements[e]
  let t := s.setElement e { x with
    state := .damaged, accumulator := if x.state = .tripped then 0 else x.accumulator, zone := .stopped, blind := .stopped }
  reviewGuardOf e { t with protection.upstream := t.protection.upstream.set e none }

/-- Whether a damage notice acts on an element: in service, at a position that is not DISABLED (R101). -/
def Parts.damageActs (s : Parts) (e : ElementId) : Bool :=
  s.service.inService && s.protection.elements[e].state != .disabled

/-- A review of an element's zone timer (R115). The start reads the settings with the check of R87; a record found
INVALID there takes R101, and its own upstream is then reviewed. `n` bounds the chain of upstream elements (R117). -/
def reviewZone : Nat → ElementId → Parts → Parts
  | 0, _, s => s
  | n + 1, x, s =>
    let v := s.protection.elements[x]
    let wants := v.state == .pickedUp && !s.isRestrained x
    if !wants then
      if v.zone.isRunning then s.setElement x { v with zone := .stopped } else s
    else if v.zone.isRunning then s
    else if (settingsOf s.store.elements[x]).bind ElementSettings.zoneFast = none then s
    else
      let (s, y) := useHeld s.store.elements[x] (fun h s => s.putElement x (some h)) (elementIndex x)
        (fun s =>
          let up := s.protection.upstream[x]
          let s := damageElement x s
          match up with
          | some u => reviewZone n u s
          | none => s) s
      match y.bind ElementSettings.zoneFast with
      | some t => s.setElement x { s.protection.elements[x] with zone := .running t }
      | none => s

/-- The length of the longest chain of upstream elements. -/
def chainLimit : Nat := 64

/-- A review of the upstream an element names, if any. -/
def reviewUpstream (e : ElementId) (s : Parts) : Parts :=
  match s.protection.upstream[e] with
  | some u => reviewZone chainLimit u s
  | none => s

/-- The damage notice of an element record (R101). -/
def elementDamaged (e : ElementId) (s : Parts) : Parts :=
  if s.damageActs e then
    match s.protection.upstream[e] with
    | some u => reviewZone chainLimit u (damageElement e s)
    | none => damageElement e s
  else s

/-- A read of an element's settings for an operation (R87). -/
def useElement (e : ElementId) (s : Parts) : Parts × Option ElementSettings :=
  useHeld s.store.elements[e] (fun h s => s.putElement e (some h)) (elementIndex e) (elementDamaged e) s

/-- An element written; a change of its state reviews its own zone timer and its upstream's (R115). -/
def changeElement (e : ElementId) (x : ElementLive) (s : Parts) : Parts :=
  let moved := s.protection.elements[e].state != x.state
  let s := s.setElement e x
  if moved then reviewUpstream e (reviewZone chainLimit e s) else s

/-! ## Tripping (R94, R95, R116) -/

/-- The actions of an action set, in order (R94). -/
def carryOut (e : ElementId) (x : ElementSettings) (s : Parts) : Parts :=
  let s := if x.actions.trip then sendOpen x.guarded .protection s else s
  let s := if x.actions.lockout then placeAutomatic .protection (.element e) [x.guarded] s else s
  if x.actions.busLockout then placeAutomatic .bus (.element e) (busLockoutList s x.guarded) s else s

/-- An entry into TRIPPED (R94, R95). Under a BLOCKED test the settings are not read here: no action is to be carried out
(notes/assumptions/37.md). -/
def tripElement (e : ElementId) (s : Parts) : Parts :=
  let v := s.protection.elements[e]
  let s := changeElement e
    { v with state := .tripped, accumulator := Config.accumulatorLimit, zone := .stopped, target := true } s
  let s := s.raise .protection
  let standing := (s.protection.watch[e]).bind fun p => s.protection.testStanding[p]
  if standing = some .blocked then s
  else match useElement e s with
    | (s, some x) => carryOut e x s
    | (s, none) => s

/-- The zone timer of an element expires (R116). -/
def zoneExpires (e : ElementId) (s : Parts) : Parts :=
  if s.protection.elements[e].zone.isRunning then tripElement e s else s

/-! ## Updates (R93) -/

/-- The blind timer of an element stops; a stop from EXPIRED reviews its device (R99). -/
def stopBlind (e : ElementId) (s : Parts) : Parts :=
  let v := s.protection.elements[e]
  let t := s.setElement e { v with blind := .stopped }
  if v.blind = .ended then reviewGuardOf e t else t

/-- An update judged on settings as read (R91, R92). -/
def judgeUpdate (e : ElementId) (x : ElementSettings) (v : PointValues) (delta : Nat) (s : Parts) : Parts :=
  let y := s.protection.elements[e]
  if pickedUp x v then
    if y.state = .tripped then s
    else
      let acc := advanced x v delta y.accumulator
      if acc = Config.accumulatorLimit then tripElement e s
      else changeElement e { y with state := .pickedUp, accumulator := acc } s
  else if y.state = .tripped then changeElement e { y with state := .idle, accumulator := 0 } s
  else
    let acc := lowered x delta y.accumulator
    changeElement e { y with state := if acc = 0 then .idle else .resetting, accumulator := acc } s

/-- An update of its point taken by one element (R93). -/
def updateElement (v : PointValues) (delta : Nat) (s : Parts) (e : ElementId) : Parts :=
  match s.protection.elements[e].state with
  | .damaged | .disabled => s
  | _ =>
    match useElement e s with
    | (s, some x) => judgeUpdate e x v delta (stopBlind e s)
    | (s, none) => s

/-! ## Status changes and the end of a test (R97, R98) -/

/-- The blind timer of an element starts where it is STOPPED (R98). -/
def startBlind (e : ElementId) (s : Parts) : Parts :=
  if s.protection.elements[e].blind = .stopped then
    match useElement e s with
    | (s, some x) =>
      s.setElement e { s.protection.elements[e] with blind := .running (x.blindLimit * s.interval) }
    | (s, none) => s
  else s

/-- A status change to STALE or NONE taken by one element (R98). -/
def blindElement (s : Parts) (e : ElementId) : Parts :=
  let x := s.protection.elements[e]
  match x.state with
  | .idle | .pickedUp | .resetting => startBlind e (changeElement e { x with state := .blind, zone := .stopped } s)
  | .tripped => startBlind e (changeElement e { x with state := .blind, accumulator := 0, zone := .stopped } s)
  | _ => s

/-- Step 1 of the end of a test (R97). A zone timer that the change starts at an upstream reads that upstream's settings, as
R115 gives (notes/assumptions/68.md). -/
def disarmElement (s : Parts) (e : ElementId) : Parts :=
  let x := s.protection.elements[e]
  match x.state with
  | .tripped | .pickedUp | .resetting =>
    changeElement e { x with state := .idle, accumulator := 0, zone := .stopped } s
  | _ => s

/-- Step 3 of the end of a test, for a status STALE or NONE (R97). -/
def blindAfterTest (s : Parts) (e : ElementId) : Parts :=
  let x := s.protection.elements[e]
  match x.state with
  | .damaged | .disabled => s
  | _ => startBlind e (changeElement e { x with state := .blind, accumulator := 0 } s)

/-- The watch list of a point, in ascending order (R86). -/
def Parts.watchers (s : Parts) (p : PointId) : List ElementId :=
  allElements.filter fun e => s.protection.watch[e] == some p

/-- The test standing of a point is kept while the point is in a watch list, and is none once its last element has left
(R95). -/
def reviewStanding (p : PointId) (s : Parts) : Parts :=
  if (s.watchers p).isEmpty then { s with protection.testStanding := s.protection.testStanding.set p none } else s

/-- Whether a status leaves an element without fresh values. -/
def PointStatus.blinds : PointStatus → Bool
  | .none | .stale => true
  | _ => false

/-- A point-update notice at the Protection Unit (R86, R93, R95, R97, R98). -/
def protectionPoint (n : PointNotice) (s : Parts) : Parts :=
  let es := s.watchers n.point
  match n.update with
  | some u =>
    let s := match u.test with
      | some m => { s with protection.testStanding := s.protection.testStanding.set n.point (some m) }
      | none => s
    es.foldl (updateElement n.values u.delta) s
  | none =>
    if n.endOfTest then
      let s := es.foldl disarmElement s
      let s := { s with protection.testStanding := s.protection.testStanding.set n.point none }
      if n.status.blinds then es.foldl blindAfterTest s else s
    else if n.status.blinds then es.foldl blindElement s
    else s

/-- The blind timer of an element expires (R99). -/
def blindExpires (e : ElementId) (s : Parts) : Parts :=
  let x := s.protection.elements[e]
  if x.blind.isRunning then reviewGuardOf e (s.setElement e { x with blind := .ended }) else s

/-! ## Taking elements into service (R86, R102, R114) -/

/-- An element position at ENTER SERVICE (R86). -/
def enterElement (s : Parts) (e : ElementId) : Parts :=
  if isActive s.store.elements[e] then
    let s := { s with
      protection.watch := s.protection.watch.set e ((settingsOf s.store.elements[e]).map ElementSettings.point) }
    startBlind e (s.setElement e { ElementLive.initial with state := .blind })
  else s.setElement e { ElementLive.initial with state := .disabled }

/-- The upstream an element in service names (R114). -/
def Parts.upstreamOf (s : Parts) (e : ElementId) : Option ElementId :=
  if isUsable s.store.elements[e] then (settingsOf s.store.elements[e]).bind ElementSettings.upstream else none

/-- The elements taken into service, and then the restraint lists (R86, R114). -/
def enterProtection (s : Parts) : Parts :=
  let s := { s with protection := { ProtectionUnit.initial s.protection.guards with lastFailure := none } }
  let s := allElements.foldl enterElement s
  { s with protection.upstream := Vector.ofFn s.upstreamOf }

/-- The watch list and the restraint list an element is entered in by new settings; its former point may be left without
one (R95, R102, R114). An element that keeps its point leaves and enters in one step (notes/assumptions/29.md). -/
def enlistElement (e : ElementId) (x : ElementSettings) (s : Parts) : Parts :=
  let t := { s with protection.watch := s.protection.watch.set e (some x.point),
                    protection.upstream := s.protection.upstream.set e x.upstream }
  match s.protection.watch[e] with
  | some p => reviewStanding p t
  | none => t

/-- The LOAD notice of an element record (R102, R114); `oldGuard` is its device in the guard index before the rebuild. The
upstreams are reviewed at the IDLE it passes through too (notes/assumptions/67.md). -/
def elementLoaded (e : ElementId) (oldGuard : Option DeviceId) (s : Parts) : Parts :=
  if !s.service.inService then s
  else match settingsOf s.store.elements[e] with
    | none => s
    | some x =>
      let former := s.protection.upstream[e]
      let s := enlistElement e x s
      let s := changeElement e ElementLive.initial s
      let s := match former with
        | some u => reviewZone chainLimit u s
        | none => s
      let s := if s.lanes.points[x.point].status.blinds then
          startBlind e (changeElement e { s.protection.elements[e] with state := .blind } s)
        else s
      let s := match oldGuard with
        | some d => reviewGuard d s
        | none => s
      reviewUpstream e (reviewGuardOf e s)

/-! ## RESET ELEMENT (R104) -/

def resetElementRequest (element : Nat) (s : Parts) : Parts × Status :=
  match index? 64 element with
  | none => (s, .badIndex)
  | some e =>
    if s.store.elements[e].isNone then (s, .state)
    else if !s.protection.elements[e].target then (s, .already)
    else (s.setElement e { s.protection.elements[e] with target := false }, .ok)

end Sys2Proof.Machine
end

