-- ==== Sys2Proof/Machine/Loads.lean ====
section
/-!
DEFINITION. The Load Unit (chapter 10): block states and demand (R155 to R157), capacity and headroom (R158), shedding
(R159, R160), pre-sheds (R161), the Restore Queue and its pacing (R162 to R164), host block requests (R165), and damage,
loading and amendment (R166).
-/

namespace Sys2Proof.Machine

/-! ## Writing a block (R155) -/

/-- The fields of a block whose changes set its record's changed mark. -/
def BlockLive.shown (x : BlockLive) : BlockState × Option Nat × Option Nat × Option BusId × Option Nat :=
  (x.state, x.servedSequence, x.shedSequence, x.island, x.demand)

/-- A block written, with its changed mark, whatever the life state of its record (notes/assumptions/49.md). -/
def Parts.setBlock (s : Parts) (l : BlockId) (x : BlockLive) : Parts :=
  { s with load.blocks := s.load.blocks.set l x }.markIf (s.load.blocks[l].shown != x.shown) (blockIndex l)

/-- The feeder device of a block, as its in-service copy names it. -/
def Parts.feederOf (s : Parts) (l : BlockId) : Option DeviceId := s.load.blocks[l].settings.map BlockSettings.feeder

/-- The blocks in service that a feeder device belongs to, in ascending order. A LOAD in service may leave it more than one. -/
def Parts.blocksOfFeeder (s : Parts) (d : DeviceId) : List BlockId := allBlocks.filter fun l => s.feederOf l == some d

/-- The island of a block's feeder. -/
def Parts.islandOfBlock (s : Parts) (l : BlockId) : Option Island := (s.feederOf l).bind s.islandOfDevice

/-- The priority of a block, as its in-service copy has it. -/
def Parts.priorityOf (s : Parts) (l : BlockId) : Nat := s.load.blocks[l].settings.elim 0 BlockSettings.priority

/-! ## The Restore Queue (R162) -/

/-- Whether a block comes before another: by priority, then by shed sequence. -/
def queueBefore (s : Parts) (a b : BlockId) : Bool :=
  s.priorityOf a < s.priorityOf b ||
    (s.priorityOf a == s.priorityOf b &&
      (s.load.blocks[a].shedSequence.getD 0) < (s.load.blocks[b].shedSequence.getD 0))

/-- A block put into the queue at its place, from wherever it stood. -/
def placeInQueue (l : BlockId) (s : Parts) : Parts :=
  { s with load.queue := insertBy (queueBefore s) l (s.load.queue.filter (· != l)) }

/-- A block joins the queue; this is a trigger of a restore attempt (R164). -/
def joinQueue (l : BlockId) (s : Parts) : Parts := (placeInQueue l s).send .restoreTrigger

/-- A block leaves the queue. -/
def leaveQueue (l : BlockId) (s : Parts) : Parts := { s with load.queue := s.load.queue.filter (· != l) }

/-! ## Changes of state -/

/-- A block becomes SHED with the next shed sequence and joins the queue. -/
def becomeShed (l : BlockId) (s : Parts) : Parts :=
  let n := s.load.shedCounter + 1
  let x := s.load.blocks[l]
  joinQueue l ({ s with load.shedCounter := n }.setBlock l
    { x with state := .shed, shedSequence := some n, restorer := none })

/-- A block becomes SERVED with the next served sequence. -/
def becomeServed (l : BlockId) (s : Parts) : Parts :=
  let n := s.load.servedCounter + 1
  let x := s.load.blocks[l]
  leaveQueue l ({ s with load.servedCounter := n }.setBlock l
    { x with state := .served, servedSequence := some n, shedSequence := none, restorer := none })

/-- A block in a state with no sequence of its own: DARK or HELD. -/
def becomePlain (l : BlockId) (st : BlockState) (s : Parts) : Parts :=
  leaveQueue l (s.setBlock l { s.load.blocks[l] with state := st, shedSequence := none, restorer := none })

/-- SERVED with the next served sequence, or DARK, by the energisation of its island (R160); DARK where its feeder's bus
lies in no island (notes/assumptions/44.md). -/
def backIntoService (l : BlockId) (s : Parts) : Parts :=
  match s.islandOfBlock l with
  | some i => if i.energisation = .live then becomeServed l s else becomePlain l .dark s
  | none => becomePlain l .dark s

/-! ## Shedding (R159) -/

/-- Whether a block may be opened by the Load Unit in a state: not critical, its record sound, its feeder CLOSED. -/
def mayShed (s : Parts) (st : BlockState) (l : BlockId) : Bool :=
  s.load.blocks[l].state == st && !s.isCritical l && isUsable s.store.blocks[l] &&
    match s.feederOf l with
    | some d => s.switching.devices[d].state == .closed
    | none => false

/-- Victim order: highest priority number first, then most recent served sequence first. A block with no served sequence
counts as the least recent, and blocks that nothing separates go in ascending order (notes/assumptions/26.md). -/
def victimBefore (s : Parts) (a b : BlockId) : Bool :=
  s.priorityOf b < s.priorityOf a ||
    (s.priorityOf a == s.priorityOf b &&
      (s.load.blocks[b].servedSequence.getD 0) < (s.load.blocks[a].servedSequence.getD 0))

/-- The victims of an island's shed step, in order. -/
def victims (s : Parts) (i : Island) : List BlockId :=
  sortBy (victimBefore s) (i.blocks.filter (mayShed s .served))

/-- One block opened and made SHED. -/
def shedOne (l : BlockId) (s : Parts) : Parts :=
  match s.feederOf l with
  | some d => becomeShed l (sendOpen d .loadUnit s)
  | none => s

/-- The shed step over an island with a capacity. `n` bounds the number of victims. -/
def shedLoop (i : Island) (capacity : Nat) : Nat → Parts → Parts
  | 0, s => s
  | n + 1, s =>
    if s.demandOf i ≤ capacity then s
    else match victims s i with
      | l :: _ => shedLoop i capacity n ((shedOne l s).raise .load)
      | [] => s.raise .load

/-- The shed step of an island of kind UTILITY or GENERATOR (R159). -/
def shedStep (i : Island) (s : Parts) : Parts :=
  match s.capacityOf i with
  | some capacity => shedLoop i capacity 25 s
  | none => s

/-- The shed step of the island of a block's feeder (R160, R166). -/
def shedStepAt (l : BlockId) (s : Parts) : Parts := (s.islandOfBlock l).elim s fun i => shedStep i s

/-! ## Working the values out again (R158, R159, R164) -/

/-- The values last worked out for an island. -/
def Parts.keptBalance (s : Parts) (b : BusId) : Option Balance := s.load.balances.find? (·.island == b)

/-- Whether the capacity, the demand or the members of an island differ from those last worked out. -/
def balanceMoved (s : Parts) (i : Island) : Bool :=
  match s.keptBalance i.id with
  | some o => o.capacity != s.capacityOf i || o.demand != s.demandOf i || o.members != i.members
  | none => true

/-- Whether the headroom of an island has risen since it was last worked out. -/
def headroomRose (s : Parts) (i : Island) : Bool :=
  match s.headroomOf i, (s.keptBalance i.id).bind Balance.headroom with
  | some h, some o => o < h
  | some h, none => 0 < h
  | none, _ => false

/-- The values kept as they stand, their headroom notices due at the end of the event. -/
def keepBalances (s : Parts) : Parts :=
  { s with load.balances := s.topology.islands.map s.balanceOf, load.due := true }

/-- The Load Unit works its values out again: the shed step of every island whose capacity, demand or membership has
changed, in ascending island id (notes/assumptions/64.md), then the trigger of a restore attempt where a headroom has
risen. -/
def loadReview (s : Parts) : Parts :=
  let t := (s.topology.islands.filter (balanceMoved s)).foldl (fun s i => shedStep i s) s
  let t := if t.topology.islands.any (headroomRose t) then t.send .restoreTrigger else t
  keepBalances t

/-- Whether the state or the demand of a block has changed. -/
def blocksMoved (before s : Parts) : Bool :=
  allBlocks.any fun l => before.load.blocks[l].state != s.load.blocks[l].state ||
    before.load.blocks[l].demand != s.load.blocks[l].demand

/-- The values worked out again where the state or the demand of a block has changed (R158). -/
def reviewMoved (before s : Parts) : Parts := if blocksMoved before s then loadReview s else s

/-! ## Restoring (R163, R164) -/

/-- The first block of the queue whose island is LIVE and of kind UTILITY or GENERATOR. -/
def restoreCandidate (s : Parts) : Option (BlockId × Island) :=
  s.load.queue.findSome? fun l =>
    match s.islandOfBlock l with
    | some i => if i.energisation = .live ∧ (i.kind = .utility ∨ i.kind = .generator) then some (l, i) else none
    | none => none

/-- Whether a restore attempt may be made (R164). -/
def mayRestore (s : Parts) : Bool :=
  !s.inHold &&
    (match s.service.station with
     | some t => match t.restoreMode with
       | .stepped => !s.load.restoreTimer.isRunning
       | .headroom => true
       | .held => false
     | none => false) &&
    !allBlocks.any fun l => s.load.blocks[l].restorer == some .loadUnit

/-- The restore timer started by an accepted restore in STEPPED mode. -/
def startRestoreTimer (s : Parts) : Parts :=
  match s.service.station with
  | some t => match t.restoreMode with
    | .stepped => { s with load.restoreTimer := .running (t.restoreInterval * 1000) }
    | _ => s
  | none => s

/-- A LOAD_UNIT close of a block's feeder, with its answer (R163). -/
def restoreBlockBy (l : BlockId) (d : DeviceId) (s : Parts) : Parts :=
  match closeRequest d .loadUnit ⟨false, false⟩ s with
  | (s, .accepted) =>
    startRestoreTimer (leaveQueue l (s.setBlock l
      { s.load.blocks[l] with state := .restoring, restorer := some .loadUnit }))
  | (s, .already) => (becomeServed l s).send .restoreTrigger
  | (s, .refused _) => s.raise .load

/-- A restore attempt (R163). -/
def restoreAttempt (s : Parts) : Parts :=
  if !mayRestore s then s
  else match restoreCandidate s with
    | none => s
    | some (l, i) =>
      let margin := s.service.station.elim 0 StationSettings.restoreMargin
      match s.headroomOf i, s.feederOf l with
      | some h, some d => if s.blockDemand l + margin ≤ h then restoreBlockBy l d s else s
      | _, _ => s

/-- The restore timer expires (R164). -/
def restoreExpires (s : Parts) : Parts :=
  if s.load.restoreTimer.isRunning then
    reviewMoved s (restoreAttempt { s with load.restoreTimer := .stopped })
  else s

/-! ## Pre-sheds (R161) -/

/-- The demands of some blocks. -/
def demandsOf (s : Parts) (ls : List BlockId) : Nat := (ls.map s.blockDemand).sum

/-- Step 3: candidates are shed while the remaining demand exceeds the target. `n` bounds the candidates. -/
def preShedLoop (i : Island) : Nat → PreShed → Parts → Parts × PreShed
  | 0, p, s => (s, p)
  | n + 1, p, s =>
    if p.remaining ≤ p.target then (s, p)
    else match sortBy (victimBefore s) (i.blocks.filter (mayShed s .dark)) with
      | l :: _ =>
        preShedLoop i n
          { p with remaining := p.remaining - s.blockDemand l
                   outstanding := p.outstanding ++ ((s.feederOf l).map (l, ·)).toList }
          (shedOne l s)
      | [] => (s, p)

/-- A pre-shed kept, or answered "complete" where its outstanding opens are empty. -/
def keepPreShed (i : SideId) (p : PreShed) (s : Parts) : Parts :=
  if p.outstanding.isEmpty then { s with load.preSheds := s.load.preSheds.set i none }.send (.preShedComplete i)
  else { s with load.preSheds := s.load.preSheds.set i (some p) }

/-- Step 3 made for a side, over its island as it stands. Where the id that the request named is no island's any more
nothing further is shed (notes/assumptions/45.md). -/
def runPreShed (i : SideId) (p : PreShed) (s : Parts) : Parts :=
  match s.island? p.island with
  | some isl =>
    let (s, p) := preShedLoop isl 24 p s
    keepPreShed i p s
  | none => keepPreShed i p s

/-- A pre-shed request of a side: the island of its bus and a target. -/
def requestPreShed (i : SideId) (isl : Island) (target : Nat) (s : Parts) : Parts :=
  let dark := isl.blocks.filter fun l => s.load.blocks[l].state == .dark && !s.isCritical l
  let p : PreShed :=
    { island := isl.id, target := target, remaining := s.criticalDemandOf isl + demandsOf s dark, outstanding := [] }
  reviewMoved s (runPreShed i p s)

/-- A withdrawal ends the pre-shed of a side with no answer. -/
def withdrawPreShed (i : SideId) (s : Parts) : Parts := { s with load.preSheds := s.load.preSheds.set i none }

/-- The outstanding open sent to a device leaves the pre-sheds. Where it has FAILED, its block's demand comes back to the
remaining demand and step 3 is made again. -/
def settlePreShed (d : DeviceId) (failed : Bool) (s : Parts) : Parts :=
  allSides.foldl (fun s i =>
    match s.load.preSheds[i] with
    | some p =>
      if p.outstanding.any (·.2 == d) then
        let back := demandsOf s ((p.outstanding.filter (·.2 == d)).map Prod.fst)
        let p := { p with outstanding := p.outstanding.filter (·.2 != d) }
        if failed then runPreShed i { p with remaining := p.remaining + back } s else keepPreShed i p s
      else s
    | none => s) s

/-! ## Notices at the Load Unit -/

/-- A restore close that the Load Unit owns has ended, at the block it restores (R163, R166). The end of such a restore, and
not that of a host's, is a trigger (notes/assumptions/71.md). -/
def restoreEnded (r : Result) (s : Parts) (l : BlockId) : Parts :=
  let x := s.load.blocks[l]
  if x.state = .restoring ∧ x.restorer = some .loadUnit then
    let t := match r with
      | .done => becomeServed l s
      | .failed =>
        if isDamaged s.store.blocks[l] then (becomePlain l .held s).raise .load
        else (joinQueue l (s.setBlock l { x with state := .shed, restorer := none })).raise .load
      | .aborted => (becomePlain l .held s).raise .load
    loadReview (t.send .restoreTrigger)
  else s

/-- A LOAD_UNIT open of its feeder has FAILED, at one block: it comes back into service from SHED or HELD, and the shed step
of its island is made again (R160). -/
def openFailed (s : Parts) (l : BlockId) : Parts :=
  shedStepAt l (if s.load.blocks[l].state = .shed ∨ s.load.blocks[l].state = .held then backIntoService l s else s)

/-- The completion of an operation the Load Unit owns (R160, R161, R163, R166). -/
def loadCompletion (d : DeviceId) (r : Result) (a : Action) (s : Parts) : Parts :=
  match a, r with
  | .close, _ => (s.blocksOfFeeder d).foldl (restoreEnded r) s
  | .open, .done => settlePreShed d false s
  | .open, .failed => reviewMoved s (settlePreShed d true ((s.blocksOfFeeder d).foldl openFailed (s.raise .load)))
  | .open, .aborted => s

/-- A feeder has entered OPEN with another cause than LOAD_UNIT, at one block (R160). -/
def feederOpened (s : Parts) (l : BlockId) : Parts :=
  let x := s.load.blocks[l]
  if x.state = .served ∨ x.state = .dark ∨ x.state = .shed ∨ (x.state = .restoring ∧ x.restorer = some .supervisor) then
    (becomePlain l .held s).raise .load
  else s

/-- A feeder has entered CLOSED with another cause than LOAD_UNIT, at one block (R160). The end of a host's restore is no
trigger by itself (notes/assumptions/71.md). -/
def feederClosed (s : Parts) (l : BlockId) : Parts :=
  let x := s.load.blocks[l]
  if x.state = .shed ∨ x.state = .held ∨ (x.state = .restoring ∧ x.restorer = some .supervisor) then backIntoService l s
  else s

/-- A position notice of a feeder (R160, R161). -/
def loadPosition (d : DeviceId) (p : Position) (c : Cause) (s : Parts) : Parts :=
  if c = .origin .loadUnit then s
  else match p with
    | .open => reviewMoved s (settlePreShed d false ((s.blocksOfFeeder d).foldl feederOpened s))
    | .closed => reviewMoved s ((s.blocksOfFeeder d).foldl feederClosed s)
    | .travel | .disagree => s

/-- One block at an island-change notice for the island of its feeder's bus (R156). Its island field changes at these
notices alone (notes/assumptions/46.md). A block that a host restores is shed again where its feeder has ceased to conduct:
not being listed is not enough, since after a LOAD the bus-to-device index may name another block for the feeder. A block
takes nothing from an island that does not hold its own feeder's bus (notes/assumptions/55.md). -/
def blockAtIsland (i : Island) (s : Parts) (l : BlockId) : Parts :=
  match s.feederOf l, (s.feederOf l).bind s.terminalA with
  | some d, some b =>
    if !i.members.contains b then s
    else
      let s := s.setBlock l { s.load.blocks[l] with island := some i.id }
      let x := s.load.blocks[l]
      let listed := i.blocks.contains l
      if listed && x.state == .served && i.energisation != .live then becomePlain l .dark s
      else if listed && x.state == .dark && i.energisation == .live then becomeServed l s
      else if !listed && !s.isConducting d && x.state == .restoring && x.restorer == some .supervisor then
        if isDamaged s.store.blocks[l] then becomePlain l .held s else becomeShed l s
      else s
  | _, _ => s

/-- The shed step of the island of every block that is SERVED now and was DARK before (R156), in ascending order of those
blocks, and so not of the islands (notes/assumptions/64.md). -/
def shedAfterWaking (before s : Parts) : Parts :=
  (allBlocks.filter fun l => before.load.blocks[l].state == .dark && s.load.blocks[l].state == .served).foldl
    (fun s l => shedStepAt l s) s

/-- The island-change notices of a recomputation (R156, R158, R164). The shed step follows a DARK block that becomes SERVED
whether or not the demand has moved. An island becomes LIVE where its notice has a changed energisation, which is judged
against the former island of its id (notes/assumptions/54.md). Several DARK blocks that become SERVED take their served
sequences in ascending island id, and within an island in ascending block order (notes/assumptions/59.md). -/
def loadIslands (ns : List IslandNotice) (s : Parts) : Parts :=
  let t := shedAfterWaking s (ns.foldl (fun s n => allBlocks.foldl (blockAtIsland n.island) s) s)
  let t := if ns.any fun n => n.changed.energisation && n.island.energisation == .live then t.send .restoreTrigger else t
  loadReview t

/-- A point-update notice of a FEEDER point (R157). -/
def loadPoint (n : PointNotice) (s : Parts) : Parts :=
  match n.update with
  | some u =>
    if u.test.isSome ∨ n.status ≠ .fresh then s
    else
      let t := allBlocks.foldl (fun s l =>
        match s.load.blocks[l].settings with
        | some y =>
          if y.point = n.point ∧ s.load.blocks[l].state = .served then
            s.setBlock l { s.load.blocks[l] with demand := some (max n.values.p.toNat y.demandFloor) }
          else s
        | none => s) s
      reviewMoved s t
  | none => s

/-! ## Taking blocks into service (R155, R166) -/

/-- A block's state taken from its feeder; DARK where it conducts and its bus lies in no island
(notes/assumptions/44.md). -/
def blockFromFeeder (l : BlockId) (y : BlockSettings) (s : Parts) : Parts :=
  let isl := s.islandOfDevice y.feeder
  let x : BlockLive :=
    { BlockLive.initial with demand := some y.demandFloor, island := isl.map Island.id, settings := some y }
  if !s.isConducting y.feeder then s.setBlock l { x with state := .held }
  else if isl.any fun i => i.energisation == .live then
    let n := s.load.servedCounter + 1
    { s with load.servedCounter := n }.setBlock l { x with state := .served, servedSequence := some n }
  else s.setBlock l { x with state := .dark }

/-- A block position at ENTER SERVICE (R155). -/
def enterBlock (s : Parts) (l : BlockId) : Parts :=
  match s.store.blocks[l] with
  | some h => if h.retired then s.setBlock l { BlockLive.initial with state := .retired } else blockFromFeeder l h.settings s
  | none => s.setBlock l { BlockLive.initial with state := .retired }

/-- The blocks taken into service, in ascending order (R155). -/
def enterLoads (s : Parts) : Parts :=
  keepBalances (allBlocks.foldl enterBlock { s with load := LoadUnit.initial })

/-- The LOAD notice of a block record (R166). The shed step of its island follows whether or not the demand has moved,
and so does a trigger (notes/assumptions/56.md). -/
def blockLoaded (l : BlockId) (s : Parts) : Parts :=
  if !s.service.inService then s
  else match settingsOf s.store.blocks[l] with
    | some y => (loadReview (shedStepAt l (blockFromFeeder l y (leaveQueue l s)))).send .restoreTrigger
    | none => s

/-- The amend notice of a block record, naming the fields changed (R166). A change of its demand is followed by the shed step
and by a trigger (notes/assumptions/56.md); a change of its critical setting alone has the values worked out again too
(notes/assumptions/70.md). -/
def blockAmended (l : BlockId) (fields : List Nat) (s : Parts) : Parts :=
  if !s.service.inService ∨ s.load.blocks[l].settings.isNone then s
  else match settingsOf s.store.blocks[l] with
    | none => s
    | some y =>
      let x := s.load.blocks[l]
      let p := s.lanes.points[y.point]
      let demand :=
        if !fields.contains 5 then x.demand
        else if x.state = .served ∧ p.status = .fresh then some (max p.values.p.toNat y.demandFloor)
        else x.demand.map (max · y.demandFloor)
      let s := s.setBlock l { x with settings := some y, demand := demand }
      let s := if x.state = .shed then placeInQueue l s else s
      if demand = x.demand then loadReview s else (loadReview (shedStepAt l s)).send .restoreTrigger

/-- The damage notice of a block record (R166). That of a RETIRED record in service changes nothing and sets no flag
(notes/assumptions/58.md). -/
def blockDamaged (l : BlockId) (s : Parts) : Parts :=
  if !s.service.inService ∨ s.load.blocks[l].settings.isNone then s
  else
    let s := if s.load.blocks[l].state = .shed then becomePlain l .held s else s
    s.raise .load

/-! ## Host block requests (R165) -/

/-- A host's block request: BAD_INDEX, STATE while CONFIGURING or RETIRED, or judged by the block's state. -/
def blockRequest (judge : BlockId → BlockState → Parts → Parts × Reply) (block : Nat) (s : Parts) : Parts × Reply :=
  match index? 24 block with
  | none => (s, .status .badIndex)
  | some l =>
    let st := s.load.blocks[l].state
    if st = .unset ∨ st = .retired then (s, .status .state) else judge l st s

/-- HOLD BLOCK. -/
def holdBlockJudge (l : BlockId) (st : BlockState) (s : Parts) : Parts × Reply :=
  match st with
  | .shed => (loadReview (becomePlain l .held s), .status .ok)
  | .held => (s, .status .already)
  | _ => (s, .status .state)

/-- RELEASE BLOCK. -/
def releaseBlockJudge (l : BlockId) (st : BlockState) (s : Parts) : Parts × Reply :=
  match st with
  | .held =>
    if isDamaged s.store.blocks[l] then (s, .status .damaged)
    else match s.feederOf l with
      | some d =>
        if s.position d = .open then (loadReview (becomeShed l s), .status .ok) else (s, .status .state)
      | none => (s, .status .state)
  | .shed => (s, .status .already)
  | _ => (s, .status .state)

/-- SHED BLOCK. -/
def shedBlockJudge (l : BlockId) (st : BlockState) (s : Parts) : Parts × Reply :=
  match st, s.feederOf l with
  | .served, some d | .dark, some d =>
    if s.switching.authority = .localControl then (s, .status .authority)
    else match openRequest d .loadUnit s with
      | (s, .accepted) => (loadReview (becomeShed l s), .answer .accepted)
      | (s, a) => (s, .answer a)
  | .shed, _ | .held, _ => (s, .status .already)
  | _, _ => (s, .status .state)

/-- RESTORE BLOCK. -/
def restoreBlockJudge (l : BlockId) (st : BlockState) (s : Parts) : Parts × Reply :=
  match st, s.feederOf l with
  | .shed, some d | .held, some d =>
    match closeRequest d .supervisor ⟨false, false⟩ s with
    | (s, .accepted) =>
      (loadReview (leaveQueue l (s.setBlock l { s.load.blocks[l] with
        state := .restoring, shedSequence := none, restorer := some .supervisor })), .answer .accepted)
    | (s, a) => (s, .answer a)
  | _, _ => (s, .status .state)

end Sys2Proof.Machine
end

