-- ==== Sys2Proof/Machine/Paralleling.lean ====
section
/-!
DEFINITION. The Paralleling Unit (chapter 9): generator states and commands (R137 to R142), the dead-bus arbiter (R143,
R144), the synchroniser (R145, R146), island sync and host tie sync (R147, R148), share targets (R149), adding and removing
generators (R150 to R153), and damage, loading and amendment (R154).
-/

namespace Sys2Proof.Machine

def Parts.gen (s : Parts) (g : GeneratorId) : GeneratorLive := s.paralleling.generators[g]

/-- Whether a state carries an online sequence number and a share target. -/
def GeneratorState.shares : GeneratorState → Bool
  | .online | .unloading => true
  | _ => false

/-- The bus of a generator: terminal A of its device in the index (R138). -/
def Parts.generatorBus (s : Parts) (g : GeneratorId) : Option BusId := (s.generatorDevice g).bind s.terminalA

/-- The bus island of a generator. -/
def Parts.generatorIsland (s : Parts) (g : GeneratorId) : Option Island := (s.generatorBus g).bind s.islandOf

/-- Whether the lane of a generator is UP. -/
def Parts.laneUp (s : Parts) (g : GeneratorId) : Bool :=
  match (s.gen g).settings with
  | some x => s.lanes.lanes[x.lane].state == .up
  | none => false

/-- The fields of a generator whose changes set its record's changed mark (R138). -/
def GeneratorLive.shown (x : GeneratorLive) : GeneratorState × Option Nat × Nat × Int × Int × Option GeneratorFailure × HostMark :=
  (x.state, x.sequence, x.target, x.frequencyNudge, x.voltageNudge, x.failure, x.mark)

/-- The content of a generator offered to its lane (R82, R138). -/
def sendCommand (g : GeneratorId) (s : Parts) : Parts :=
  match (s.gen g).settings with
  | some x => offerContent x.lane (contentOf (s.gen g)) s
  | none => s

/-- A generator written (R138): the changed mark, whatever the life state of its record (notes/assumptions/49.md), the
source notice of R51 with the recomputation it causes, the rating notice of R158, the command notice, and the share targets
where the generator enters or leaves those that share. `asked` has the command notice sent whether or not a command has
changed (R112). -/
def writeGenerator (asked : Bool) (g : GeneratorId) (x : GeneratorLive) (s : Parts) : Parts :=
  let o := s.gen g
  let x := if x.state.shares then x else { x with target := 0, sequence := none }
  let t := { s with paralleling.generators := s.paralleling.generators.set g x }.markIf
    (o.shown != x.shown) (generatorIndex g)
  let moved := (o.state == .online) != (x.state == .online)
  let t := if moved || s.generatorLive g != t.generatorLive g then recompute t else t
  let t := if moved then t.send .rating else t
  let t := if asked || contentOf o != contentOf x then sendCommand g t else t
  if o.state ≠ x.state ∧ (o.state.shares || x.state.shares) then t.send (.shares g) else t

/-- A generator written by the unit's own rules. -/
def setGenerator (g : GeneratorId) (x : GeneratorLive) (s : Parts) : Parts := writeGenerator false g x s

/-! ## Queues and grants (R143) -/

/-- A generator leaves every queue. -/
def leaveQueues (g : GeneratorId) (s : Parts) : Parts :=
  { s with paralleling.arbiters :=
      s.paralleling.arbiters.map fun a => a.map fun a => { a with queue := a.queue.filter (· != g) } }

/-- A grant given up; the release is an event of the arbiter. -/
def releaseGrant (b : BusId) (s : Parts) : Parts :=
  match s.paralleling.arbiters[b] with
  | some a => { s with paralleling.arbiters := s.paralleling.arbiters.set b (some { a with grant := none }) }.send (.grantPass b)
  | none => s

/-- Whether a bus's grant is held by a generator. -/
def holdsGrantOf (s : Parts) (b : BusId) (g : GeneratorId) : Bool :=
  match s.paralleling.arbiters[b] with
  | some a => a.grant == some g
  | none => false

/-- Whether a generator is in a bus's queue. -/
def isQueued (s : Parts) (b : BusId) (g : GeneratorId) : Bool :=
  match s.paralleling.arbiters[b] with
  | some a => a.queue.contains g
  | none => false

/-- Every grant a generator holds given up. -/
def releaseGrants (g : GeneratorId) (s : Parts) : Parts :=
  allBuses.foldl (fun s b => if holdsGrantOf s b g then releaseGrant b s else s) s

/-- A generator with its four timers stopped. -/
def GeneratorLive.still (x : GeneratorLive) : GeneratorLive :=
  { x with startTimer := .stopped, syncTimer := .stopped, unloadTimer := .stopped, cooldownTimer := .stopped }

/-- A generator with nudges of 0. -/
def GeneratorLive.level (x : GeneratorLive) : GeneratorLive := { x with frequencyNudge := 0, voltageNudge := 0 }

/-- An entry into FAILED, which sets the GENERATOR flag (R138, R142). `asked` says that the Protection Unit has asked for
it (R112). -/
def enterFailed (asked : Bool) (g : GeneratorId) (why : GeneratorFailure) (r : RunCommand) (s : Parts) : Parts :=
  let x := (s.gen g).still.level
  (releaseGrants g (leaveQueues g
    (writeGenerator asked g { x with state := .failed, failure := some why, run := r, reference := none } s))).raise
      .generator

/-- An entry into FAILED by an event of the unit's own (R142). -/
def failGenerator (g : GeneratorId) (why : GeneratorFailure) (r : RunCommand) (s : Parts) : Parts :=
  enterFailed false g why r s

/-! ## Unloading and disconnecting (R151) -/

/-- Whether supply is wanted (R140). -/
def Parts.supplyWanted (s : Parts) : Bool := allSides.any fun i => s.changeover.sides[i].supply

/-- An entry into UNLOADING. -/
def unloadGenerator (g : GeneratorId) (s : Parts) : Parts :=
  let limit := s.service.station.elim 0 StationSettings.unloadLimit
  setGenerator g { s.gen g with state := .unloading, target := 0, unloadTimer := .running (limit * 1000) } s

/-- An entry into DISCONNECTING, its nudges 0 and its timers stopped whatever state it leaves (notes/assumptions/25.md).
`done` is what follows where the device is OPEN already, or takes no operation. -/
def disconnectWith (done : Parts → Parts) (g : GeneratorId) (s : Parts) : Parts :=
  let x := (s.gen g).still.level
  let s := releaseGrants g (leaveQueues g (setGenerator g { x with state := .disconnecting } s))
  match s.generatorDevice g with
  | none => done s
  | some d =>
    match openRequest d .paralleling s with
    | (s, .accepted) => s
    | (s, .already) => if s.switching.devices[d].state = .open then done s else s
    | (s, .refused _) => done s

/-- The damage notice of a generator record (R154). -/
def generatorDamaged (g : GeneratorId) (s : Parts) : Parts :=
  let fails := failGenerator g .damaged .stop
  if !isActive s.store.generators[g] then s
  else match (s.gen g).state with
    | .unset => s
    | .failed => setGenerator g { s.gen g with failure := some .damaged } s
    | .online => unloadGenerator g s
    | .unloading | .disconnecting => s
    | .deadClosing | .syncClosing => disconnectWith fails g s
    | _ => fails s

/-- The in-service copy of a generator written. -/
def takeCopy (g : GeneratorId) (y : GeneratorSettings) (s : Parts) : Parts :=
  { s with paralleling.generators := s.paralleling.generators.set g { s.gen g with settings := some y } }

/-- A read of a generator's settings for an operation, which refreshes the in-service copy (R137). -/
def useGenerator (g : GeneratorId) (s : Parts) : Parts × Option GeneratorSettings :=
  match useHeld s.store.generators[g] (fun h s => s.putGenerator g (some h)) (generatorIndex g) (generatorDamaged g) s with
  | (s, some x) => (takeCopy g x s, some x)
  | (s, none) => (s, none)

/-! ## Starting (R140, R141) -/

/-- An entry into STARTING, where the read finds the record sound. -/
def startGenerator (g : GeneratorId) (s : Parts) : Parts :=
  match useGenerator g s with
  | (s, some y) =>
    let x := (s.gen g).still.level
    leaveQueues g (setGenerator g
      { x with state := .starting, run := .run, startTimer := .running (y.startLimit * 1000), reference := none } s)
  | (s, none) => s

/-- Every STOPPED generator whose host mark is not HELD starts, in ascending order, while supply is wanted (R140). -/
def startWanted (s : Parts) : Parts :=
  if s.supplyWanted then
    allGenerators.foldl (fun s g =>
      if (s.gen g).state = .stopped ∧ (s.gen g).mark ≠ .held then startGenerator g s else s) s
  else s

/-- An entry into STOPPED with the rest of the live half as in `x`. -/
def stopFrom (x : GeneratorLive) (g : GeneratorId) (s : Parts) : Parts :=
  startWanted (setGenerator g { x.still.level with state := .stopped, run := .stop } s)

/-- An entry into STOPPED. -/
def stopGenerator (g : GeneratorId) (s : Parts) : Parts := stopFrom (s.gen g) g s

/-- STOPPED where the lane is UP, UNAVAILABLE with STOP otherwise, with the rest of the live half as in `x`. -/
def restFrom (x : GeneratorLive) (g : GeneratorId) (s : Parts) : Parts :=
  if s.laneUp g then stopFrom x g s
  else setGenerator g { x.still.level with state := .unavailable, run := .stop } s

/-- STOPPED where the lane is UP, UNAVAILABLE with STOP otherwise (R151, R152). -/
def restGenerator (g : GeneratorId) (s : Parts) : Parts := restFrom (s.gen g) g s

/-- An entry into COOLDOWN; a cooldown of 0 ends at once (R151). -/
def coolGenerator (g : GeneratorId) (s : Parts) : Parts :=
  let time := (s.gen g).settings.elim 0 GeneratorSettings.cooldown
  let x := { (s.gen g).still.level with
    state := .cooldown, run := .stop, cooldownTimer := .running (time * 1000), reference := none }
  let s := leaveQueues g (setGenerator g x s)
  if time = 0 then restGenerator g s else s

/-- The end of a disconnection: COOLDOWN, or FAILED for a DAMAGED record (R151, R154). -/
def afterDisconnect (g : GeneratorId) (s : Parts) : Parts :=
  if isDamaged s.store.generators[g] then failGenerator g .damaged .stop s else coolGenerator g s

def disconnectGenerator (g : GeneratorId) (s : Parts) : Parts := disconnectWith (afterDisconnect g) g s

/-- The shutdown of ONLINE generators (R153). -/
def judgeShutdown (s : Parts) : Parts :=
  let tied := match s.changeover.scheme with
    | some y => allSides.any fun i => (y.sides[i].generatorTie).any s.isConducting
    | none => false
  if s.supplyWanted || tied then s
  else allGenerators.foldl (fun s g =>
    if (s.gen g).state = .online ∧ (s.gen g).mark ≠ .run then disconnectGenerator g s else s) s

/-- An entry into ONLINE with the next online sequence number, with the rest of the live half as in `x`. Its nudges are 0
and its timers stopped at an entry by another close than its own too (notes/assumptions/25.md). -/
def onlineFrom (x : GeneratorLive) (g : GeneratorId) (s : Parts) : Parts :=
  let n := s.paralleling.onlineCounter + 1
  let y := { x.still.level with state := .online, run := .run, sequence := some n, reference := none }
  let s := setGenerator g y { s with paralleling.onlineCounter := n }
  judgeShutdown (releaseGrants g (leaveQueues g s))

/-- An entry into ONLINE (R144, R146, R142). -/
def goOnline (g : GeneratorId) (s : Parts) : Parts := onlineFrom (s.gen g) g s

/-! ## Placing a READY generator and entering SYNCING (R141, R145) -/

/-- The point of a bus in service, where it is FRESH. -/
def Parts.freshBusPoint (s : Parts) (b : BusId) : Option PointId :=
  match s.topology.points[b] with
  | some p => if s.lanes.points[p].status = .fresh then some p else none
  | none => none

/-- The reference point of a generator (R145). -/
def chooseReference (s : Parts) (g : GeneratorId) : Option PointId :=
  match s.generatorBus g, s.generatorIsland g with
  | some b, some i => (b :: i.members).findSome? s.freshBusPoint
  | _, _ => none

/-- The closing time of a device, read with the check on use; a free value where its record is DAMAGED (R145;
notes/assumptions/4.md). -/
def readClosingTime (d : DeviceId) (s : Parts) : Parts × Nat :=
  match useDevice d s with
  | (s, some y) => (s, y.closingTime)
  | (s, none) => ({ s with freeReads := s.freeReads + 1 }, Config.unreadClosingTime s.freeReads)

/-- An entry into SYNCING; `fresh` starts the sync-limit timer (R145, R146). -/
def enterSyncing (g : GeneratorId) (fresh : Bool) (s : Parts) : Parts :=
  match useGenerator g s with
  | (s, some y) =>
    let (s, tc) := readClosingTime y.device s
    let x := (s.gen g).level
    leaveQueues g (setGenerator g
      { x with state := .syncing, run := .run, startTimer := .stopped, reference := chooseReference s g, closingTime := tc,
               syncTimer := if fresh then .running (y.syncLimit * 1000) else x.syncTimer } s)
  | (s, none) => s

/-- A generator joins the tail of its bus's queue, if it is not in it already (R141, R143). On a bus without an arbiter it
joins nothing and stays READY (notes/assumptions/53.md). -/
def joinArbiter (b : BusId) (g : GeneratorId) (s : Parts) : Parts :=
  match s.paralleling.arbiters[b] with
  | some a =>
    if a.queue.contains g then s
    else { s with paralleling.arbiters :=
        s.paralleling.arbiters.set b (some { a with queue := a.queue ++ [g] }) }.send (.grantPass b)
  | none => s

/-- A READY generator placed by its bus island (R141). -/
def placeGenerator (g : GeneratorId) (s : Parts) : Parts :=
  match s.generatorBus g, s.generatorIsland g with
  | some b, some i =>
    if !i.utilities.isEmpty then leaveQueues g s
    else match i.energisation with
      | .dead => joinArbiter b g s
      | .live => enterSyncing g true s
      | .residual => leaveQueues g s
  | _, _ => leaveQueues g s

/-- An entry into READY (R141). -/
def readyGenerator (g : GeneratorId) (s : Parts) : Parts :=
  placeGenerator g (setGenerator g
    { (s.gen g).still.level with state := .ready, run := .run, reference := none } s)

/-! ## The grant pass (R143) -/

/-- Whether an arbiter may give a grant. -/
def mayGrant (s : Parts) (b : BusId) : Bool :=
  !s.inHold &&
    match s.islandOf b with
    | some i => i.energisation == .dead && i.utilities.isEmpty &&
        !i.members.any fun m => match s.paralleling.arbiters[m] with
          | some a => a.grant.isSome
          | none => false
    | none => false

/-- A bus's arbiter written. -/
def setArbiter (b : BusId) (a : Arbiter) (s : Parts) : Parts :=
  { s with paralleling.arbiters := s.paralleling.arbiters.set b (some a) }

/-- The head of a queue granted, and its close answered. Answers whether the pass goes on. -/
def grantHead (b : BusId) (a : Arbiter) (g : GeneratorId) (d : DeviceId) (s : Parts) : Parts × Bool :=
  let s := setGenerator g { s.gen g with state := .deadClosing, run := .run }
    (setArbiter b { queue := a.queue.drop 1, grant := some g } s)
  match closeRequest d .paralleling ⟨false, false⟩ s with
  | (s, .accepted) => (s, false)
  | (s, .already) => (goOnline g s, false)
  | (s, .refused _) =>
    let s := setGenerator g { s.gen g with state := .ready } s
    match s.paralleling.arbiters[b] with
    | some a => (setArbiter b { queue := a.queue ++ [g], grant := none } s, true)
    | none => (s, false)

/-- A pass over at most `n` heads. -/
def grantLoop (b : BusId) : Nat → Parts → Parts
  | 0, s => s
  | n + 1, s =>
    if !mayGrant s b then s
    else match s.paralleling.arbiters[b] with
      | some a =>
        match a.queue with
        | g :: _ =>
          match s.generatorDevice g with
          | some d =>
            let (s, goesOn) := grantHead b a g d s
            if goesOn then grantLoop b n s else s
          | none => s
        | [] => s
      | none => s

/-- A grant pass of a bus's arbiter. -/
def grantPass (b : BusId) (s : Parts) : Parts :=
  match s.paralleling.arbiters[b] with
  | some a => grantLoop b a.queue.length s
  | none => s

/-! ## The synchroniser (R145, R146) -/

/-- The phase predicted at the instant of contact. -/
def predictedPhase (slip : Int) (tc : Nat) (phi : Int) : Int := wrapPhase (phi + (slip * tc * 36).tdiv 10000)

/-- The frequency nudge. -/
def frequencyNudgeOf (x : GeneratorSettings) (slip : Int) : Int :=
  clampTo (-x.frequencyNudgeMaximum) x.frequencyNudgeMaximum (((x.slipTarget : Int) - slip).tdiv 2)

/-- The voltage nudge. -/
def voltageNudgeOf (x : GeneratorSettings) (dv : Int) : Int :=
  clampTo (-x.voltageNudgeMaximum) x.voltageNudgeMaximum ((-dv).tdiv 2)

/-- The close condition (R146). -/
def closeHolds (x : GeneratorSettings) (slip dv phase : Int) : Bool :=
  dv.natAbs ≤ x.voltageWindow &&
    ((if x.positiveSlipOnly then 0 else -(x.slipMaximum : Int)) ≤ slip && slip ≤ x.slipMaximum) &&
    phase.natAbs ≤ x.phaseWindow

/-- Slip and voltage difference of two points. -/
def slipOf (a b : PointValues) : Int := a.f - b.f
def voltageDifference (a b : PointValues) : Int := (a.v : Int) - b.v

/-- The nudges of a generator, as computed. -/
def nudgeGenerator (x : GeneratorSettings) (slip dv : Int) (g : GeneratorId) (s : Parts) : Parts :=
  setGenerator g
    { s.gen g with frequencyNudge := frequencyNudgeOf x slip, voltageNudge := voltageNudgeOf x dv } s

/-- The answer to a synchronised close of a generator (R146). -/
def sendSyncClose (g : GeneratorId) (d : DeviceId) (s : Parts) : Parts :=
  match closeRequest d .paralleling ⟨true, false⟩ s with
  | (s, .accepted) => setGenerator g { s.gen g with state := .syncClosing } s
  | (s, .already) => goOnline g s
  | (s, .refused _) => s

/-- The computation of a SYNCING generator at its generator-state notice (R145, R146). -/
def syncGenerator (g : GeneratorId) (s : Parts) : Parts :=
  let v := s.gen g
  match v.settings, v.reference with
  | some x, some r =>
    let own := s.lanes.points[x.point]
    if s.laneUp g && own.status == .fresh then
      let ref := s.lanes.points[r]
      let slip := slipOf own.values ref.values
      let dv := voltageDifference own.values ref.values
      let phase := predictedPhase slip v.closingTime own.values.phi
      let s := nudgeGenerator x slip dv g s
      if closeHolds x slip dv phase && !s.inHold then sendSyncClose g x.device s else s
    else s
  | _, _ => s

/-! ## Island sync and host tie sync (R147, R148) -/

/-- The ONLINE generators of an island. -/
def onlineOf (s : Parts) (i : Island) : List GeneratorId := i.generators.filter s.isOnline

/-- The nudges of the ONLINE generators of a bus's island become 0. -/
def levelIsland (b : BusId) (s : Parts) : Parts :=
  match s.islandOf b with
  | some i => (onlineOf s i).foldl (fun s g => setGenerator g (s.gen g).level s) s
  | none => s

/-- An island sync starts: the incomer's closing time is read (R147). -/
def startIslandSync (i : SideId) (d : DeviceId) (s : Parts) : Parts :=
  let (s, tc) := readClosingTime d s
  { s with paralleling.islandSync := some { side := i, incomer := d, closingTime := tc, incoming := s.terminalA d } }

/-- The incoming bus of the running island sync brought up to date with the index. Where it has moved, the nudges of the
island it leaves become 0; an incomer without an entry leaves it as it was (notes/assumptions/61.md). -/
def followIncomer (y : IslandSync) (s : Parts) : Parts :=
  match s.terminalA y.incomer with
  | none => s
  | some b =>
    if y.incoming = some b then s
    else { y.incoming.elim s (fun a => levelIsland a s) with paralleling.islandSync := some { y with incoming := some b } }

/-- The running island sync ends: the nudges of the incoming island become 0, also where the incomer has no entry in the
index any more, and a waiting sync starts (R147). -/
def endIslandSync (s : Parts) : Parts :=
  match s.paralleling.islandSync with
  | none => s
  | some y =>
    let s := { s with paralleling.islandSync := none }
    let s := y.incoming.elim s fun b => levelIsland b s
    match s.paralleling.waitingSync with
    | some (i, d) => startIslandSync i d { s with paralleling.waitingSync := none }
    | none => s

/-- A request of a side for an island sync across its incomer. -/
def requestIslandSync (i : SideId) (d : DeviceId) (s : Parts) : Parts :=
  match s.paralleling.islandSync with
  | some y => if y.side = i then startIslandSync i d s else { s with paralleling.waitingSync := some (i, d) }
  | none => startIslandSync i d s

/-- A side's withdrawal. -/
def withdrawIslandSync (i : SideId) (s : Parts) : Parts :=
  let s := match s.paralleling.waitingSync with
    | some (j, _) => if j = i then { s with paralleling.waitingSync := none } else s
    | none => s
  match s.paralleling.islandSync with
  | some y => if y.side = i then endIslandSync s else s
  | none => s

/-- What a synchronisation of a whole island works on: the incoming bus, and the points of its two sides. -/
structure IslandSyncView where
  island : Island
  incoming : PointId
  running : PointId
  lead : GeneratorId
  leadSettings : GeneratorSettings
  deriving DecidableEq, Repr

/-- The view of a synchronisation, where its computation runs: both points FRESH, the island of kind GENERATOR, and an
ONLINE generator in it. -/
def syncView (s : Parts) (b : BusId) (running : Option PointId) : Option IslandSyncView := do
  let i ← s.islandOf b
  let p ← s.topology.points[b]
  let r ← running
  let g ← (onlineOf s i).head?
  let x ← (s.gen g).settings
  if i.kind = .generator ∧ s.lanes.points[p].status = .fresh ∧ s.lanes.points[r].status = .fresh then
    some { island := i, incoming := p, running := r, lead := g, leadSettings := x }
  else none

/-- One computation over a view: the nudges go to every ONLINE generator; answers whether the close condition holds. -/
def computeView (y : IslandSyncView) (tc : Nat) (s : Parts) : Parts × Bool :=
  let a := s.lanes.points[y.incoming].values
  let b := s.lanes.points[y.running].values
  let slip := slipOf a b
  let dv := voltageDifference a b
  let t := (onlineOf s y.island).foldl (fun s g => nudgeGenerator y.leadSettings slip dv g s) s
  (t, closeHolds y.leadSettings slip dv (predictedPhase slip tc (-b.phi)) && !t.inHold)

/-- The point of the utility behind an incomer, as the Changeover Unit has it in service. -/
def utilityPoint (s : Parts) (d : DeviceId) : Option PointId :=
  match s.topology.index[d] with
  | some { terminalA := _, terminalB := .utility u } => s.changeover.utilities[u].settings.map UtilitySettings.point
  | _ => none

/-- The island sync at an update of its incoming point. Answers the side and the Switching Unit's answer where a close was
sent, to be passed to the Changeover Unit. An answer ALREADY leaves the sync running as a REFUSED one does
(notes/assumptions/57.md). -/
def runIslandSync (p : PointId) (s : Parts) : Parts × Option (SideId × Answer) :=
  match s.paralleling.islandSync with
  | none => (s, none)
  | some y =>
    let s := followIncomer y s
    match (s.terminalA y.incomer).bind fun b => syncView s b (utilityPoint s y.incomer) with
    | none => (s, none)
    | some view =>
      if view.incoming ≠ p then (s, none)
      else match computeView view y.closingTime s with
        | (s, true) =>
          match closeRequest y.incomer .changeover ⟨true, true⟩ s with
          | (s, .accepted) => (endIslandSync s, some (y.side, .accepted))
          | (s, a) => (s, some (y.side, a))
        | (s, false) => (s, none)

/-- The host tie sync ends. -/
def endHostSync (s : Parts) : Parts :=
  match s.paralleling.hostSync with
  | some y => levelIsland y.incoming { s with paralleling.hostSync := none }
  | none => s

/-- The host tie sync at an update of its incoming point (R148). An answer ALREADY leaves it running to its limit, as a
REFUSED one does (notes/assumptions/57.md). -/
def runHostSync (p : PointId) (s : Parts) : Parts :=
  match s.paralleling.hostSync with
  | none => s
  | some y =>
    match syncView s y.incoming (s.topology.points[y.running]) with
    | none => s
    | some view =>
      if view.incoming ≠ p then s
      else match computeView view y.closingTime s with
        | (s, true) =>
          match closeRequest y.tie .paralleling ⟨true, false⟩ s with
          | (s, .accepted) => endHostSync s
          | (s, _) => s
        | (s, false) => s

/-- The limit of the host tie sync expires (R148). -/
def hostSyncExpires (s : Parts) : Parts :=
  match s.paralleling.hostSync with
  | some y => if y.limit.isRunning then (endHostSync s).raise .generator else s
  | none => s

/-- The host tie sync of a tie starts: the incoming side is the terminal in a GENERATOR island, terminal B where both
are (R148). The two terminals stay what they are chosen to be here (notes/assumptions/38.md). -/
def startHostSync (d : DeviceId) (a b : BusId) (s : Parts) : Parts × Status :=
  let fed (x : BusId) := (s.islandOf x).any fun i => i.kind == .generator
  if s.paralleling.hostSync.isSome ∨ !(fed a || fed b) then (s, .state)
  else
    let inc := if fed b then b else a
    let other := if fed b then a else b
    let limit := ((s.islandOf inc).bind fun i => (onlineOf s i).head?).bind fun g => (s.gen g).settings
    let (s, tc) := readClosingTime d s
    let y : HostTieSync :=
      { tie := d, incoming := inc, running := other, closingTime := tc,
        limit := .running ((limit.elim 0 GeneratorSettings.syncLimit) * 1000) }
    ({ s with paralleling.hostSync := some y }, .ok)

/-- SYNC CLOSE of a GENERATOR device (R148; notes/assumptions/16.md). -/
def syncCloseGenerator (g : GeneratorId) (d : DeviceId) (s : Parts) : Parts × Status :=
  if isDamaged s.store.generators[g] ∨ isDamaged s.store.devices[d] then (s, .damaged)
  else match (s.gen g).state with
    | .starting | .ready | .syncing =>
      let s := setGenerator g { s.gen g with mark := .run } s
      (if (s.gen g).state = .ready then placeGenerator g s else s, .ok)
    | _ => (s, .state)

/-- SYNC CLOSE (R148). -/
def syncCloseRequest (device : Nat) (s : Parts) : Parts × Reply :=
  match index? 48 device with
  | none => (s, .status .badIndex)
  | some d =>
    if !s.service.inService ∨ s.switching.devices[d].state = .retired then (s, .status .state)
    else if s.switching.authority = .localControl then (s, .status .authority)
    else match s.topology.index[d] with
      | some { terminalA := _, terminalB := .generator g } =>
        let (s, x) := syncCloseGenerator g d s
        (s, .status x)
      | some { terminalA := a, terminalB := .bus b } =>
        let (s, x) := startHostSync d a b s
        (s, .status x)
      | _ => (s, .status .state)

/-! ## Share targets (R149) -/

/-- The share basis of an island: the sum of the P of its ONLINE generators, clamped to 0..R. -/
def shareBasis (s : Parts) (i : Island) : Nat :=
  let p := ((onlineOf s i).map fun g =>
    match (s.gen g).settings with
    | some x => s.lanes.points[x.point].values.p
    | none => 0).sum
  (clampTo 0 (s.onlineRating i) p).toNat

/-- The share of a rating in a basis (step 3). -/
def shareOf (basis rating total : Nat) : Nat := basis * rating / total

/-- The targets of ratings: the floors, then one kW each from the first while a remainder is left (steps 3 and 4). -/
def shareTargets (basis : Nat) (ratings : List Nat) : List Nat :=
  let total := ratings.sum
  let floors := ratings.map fun r => shareOf basis r total
  let left := basis - floors.sum
  floors.zipIdx.map fun (x, k) => if k < left then x + 1 else x

/-- The targets of an island given to its generators (R149). -/
def shareIsland (s : Parts) (i : Island) : Parts :=
  let gs := onlineOf s i
  if gs.isEmpty then s
  else
    let ts := shareTargets (shareBasis s i) (gs.map s.rating)
    let s := (gs.zip ts).foldl (fun s (g, t) => setGenerator g { s.gen g with target := t } s) s
    i.generators.foldl (fun s g =>
      if (s.gen g).state = .unloading then setGenerator g { s.gen g with target := 0 } s else s) s

/-- Whether a generator takes a share of the load: it is ONLINE and an island lists it. -/
def takesShare (s : Parts) (g : GeneratorId) : Bool := s.isOnline g && s.topology.islands.any (·.generators.contains g)

/-- The target of every generator that takes no share becomes 0 (R149). -/
def clearTargets (s : Parts) : Parts :=
  allGenerators.foldl (fun s g =>
    if (s.gen g).target ≠ 0 ∧ !takesShare s g then setGenerator g { s.gen g with target := 0 } s else s) s

/-- The share targets due for a generator: of each island that lists it or holds its bus (notes/assumptions/25.md). -/
def shareFor (g : GeneratorId) (s : Parts) : Parts :=
  clearTargets ((s.topology.islands.filter fun i =>
    i.generators.contains g || (s.generatorBus g).any i.members.contains).foldl shareIsland s)

/-! ## Adding and removing (R150, R151) -/

def Parts.reserve (s : Parts) : Nat := s.service.station.elim 0 StationSettings.reserve

/-- Whether the add condition holds, over the demand the Load Unit holds (R150). -/
def wantsAdd (s : Parts) (i : Island) : Bool :=
  let capacity := s.onlineRating i * s.loadingLimit / 100
  s.heldDemand i > capacity * (100 - s.reserve) / 100

/-- The remove candidate of an island (R151). -/
def removeCandidate (s : Parts) (i : Island) : Option GeneratorId :=
  (sortBy (fun a b => ((s.gen b).sequence.getD 0) < ((s.gen a).sequence.getD 0))
    ((onlineOf s i).filter fun g => (s.gen g).mark != .run)).head?

/-- Whether the remove condition holds, over the demand the Load Unit holds (R151). -/
def wantsRemove (s : Parts) (i : Island) : Bool :=
  match removeCandidate s i with
  | some g =>
    (onlineOf s i).length ≥ 2 &&
      (s.onlineRating i - s.rating g) * s.loadingLimit / 100 ≥ s.heldDemand i * (100 + s.reserve) / 100
  | none => false

/-- A timer that runs while a condition holds. -/
def Timer.governed (t : Timer) (holds : Bool) (time : Nat) : Timer :=
  if !holds then .stopped else if t.isRunning then t else .running time

/-- The timers of an island. -/
def Parts.timersOf (s : Parts) (b : BusId) : IslandTimers :=
  (s.paralleling.islandTimers.find? (·.island == b)).getD { island := b, add := .stopped, remove := .stopped }

/-- The timers of an island written. -/
def setTimers (t : IslandTimers) (s : Parts) : Parts :=
  { s with paralleling.islandTimers :=
      insertBy (fun a b => a.island.val < b.island.val) t (s.paralleling.islandTimers.filter (·.island != t.island)) }

/-- Whether an id names an island of kind GENERATOR. -/
def isGeneratorIsland (s : Parts) (b : BusId) : Bool :=
  match s.island? b with
  | some i => i.kind == .generator
  | none => false

/-- The timers of islands that are of kind GENERATOR. -/
def keptTimers (s : Parts) : List IslandTimers :=
  s.paralleling.islandTimers.filter fun t => isGeneratorIsland s t.island

/-- Both conditions of an island judged (R150, R151). Timers of an island that is not of kind GENERATOR stop. -/
def judgeTimers (b : BusId) (restart : Bool) (s : Parts) : Parts :=
  let s := { s with paralleling.islandTimers := keptTimers s }
  match s.island? b with
  | some i =>
    if i.kind = .generator then
      let o := s.timersOf b
      let o := if restart then { o with add := .stopped, remove := .stopped } else o
      let delay (f : StationSettings → Nat) := (s.service.station.elim 0 f) * 1000
      setTimers { o with add := o.add.governed (wantsAdd s i) (delay StationSettings.addDelay),
                         remove := o.remove.governed (wantsRemove s i) (delay StationSettings.removeDelay) } s
    else s
  | none => s

/-- The generator an add would start: STOPPED, not HELD, its bus in the island (R150). -/
def addCandidate (s : Parts) (i : Island) : Option GeneratorId :=
  allGenerators.find? fun g =>
    (s.gen g).state == .stopped && (s.gen g).mark != .held && (s.generatorBus g).any i.members.contains

/-- The add timer of an island expires (R150). -/
def addExpires (b : BusId) (s : Parts) : Parts :=
  let t := s.timersOf b
  match s.island? b with
  | some i =>
    if t.add.isRunning then
      let delay := (s.service.station.elim 0 StationSettings.addDelay) * 1000
      let s := setTimers { t with add := .running delay } s
      match addCandidate s i with
      | some g => startGenerator g s
      | none => s.raise .generator
    else s
  | none => s

/-- The remove timer of an island expires (R151). With no candidate left it stops and nothing follows
(notes/assumptions/39.md). -/
def removeExpires (b : BusId) (s : Parts) : Parts :=
  let t := s.timersOf b
  match s.island? b with
  | some i =>
    if t.remove.isRunning then
      let s := setTimers { t with remove := .stopped } s
      match removeCandidate s i with
      | some g => unloadGenerator g s
      | none => s
    else s
  | none => s

/-! ## Generator-state notices (R141, R142, R145, R149, R151) -/

/-- Whether the point of a generator has its V within 900..1100. -/
def voltageFit (s : Parts) (x : GeneratorSettings) : Bool :=
  900 ≤ s.lanes.points[x.point].values.v && s.lanes.points[x.point].values.v ≤ 1100

/-- A generator-state notice taken by one generator. A fault of one whose record is DAMAGED gives the reason FAULT too
(notes/assumptions/25.md). -/
def generatorReports (ready fault : Bool) (x : GeneratorSettings) (g : GeneratorId) (s : Parts) : Parts :=
  let p := s.lanes.points[x.point]
  let st := (s.gen g).state
  if fault && (st == .starting || st.isRunning) then
    let t := failGenerator g .fault .stopNow s
    if t.isConducting x.device && t.switching.devices[x.device].state != .opening then sendOpen x.device .paralleling t else t
  else match st with
    | .starting =>
      if ready && !fault && p.status == .fresh && voltageFit s x then readyGenerator g s else s
    | .ready => if !ready || !voltageFit s x then startGenerator g s else s
    | .syncing => if !ready || !voltageFit s x then startGenerator g s else syncGenerator g s
    | .unloading =>
      if p.status = .fresh ∧ p.values.p ≤ (x.rating * x.unloadThreshold / 100 : Nat) then disconnectGenerator g s else s
    | _ => s

/-- A generator-state notice taken by one generator, with the grant pass it brings where the generator was in its bus's
queue as it arrived (R143). -/
def reportGenerator (ready fault : Bool) (x : GeneratorSettings) (g : GeneratorId) (s : Parts) : Parts :=
  let t := generatorReports ready fault x g s
  match s.generatorBus g with
  | some b => if isQueued s b g then grantPass b t else t
  | none => t

/-- A generator-state notice (R80), at every generator in service that names the lane (notes/assumptions/22.md). -/
def parallelingReport (f : LaneId) (ready fault : Bool) (s : Parts) : Parts :=
  allGenerators.foldl (fun s g =>
    match (s.gen g).settings with
    | some x => if x.lane = f then shareFor g (reportGenerator ready fault x g s) else s
    | none => s) s

/-! ## Lane notices (R139) -/

/-- A lane notice taken by one generator: its lane enters UP, or leaves it. -/
def generatorLane (up : Bool) (x : GeneratorSettings) (g : GeneratorId) (s : Parts) : Parts :=
  match (s.gen g).state, up with
  | .unavailable, true =>
    if !isActive s.store.generators[g] then s
    else match s.position x.device with
      | .closed => goOnline g s
      | .open => stopGenerator g s
      | _ => s
  | .stopped, false => setGenerator g { s.gen g with state := .unavailable } s
  | .ready, false => startGenerator g s
  | _, _ => s

/-- A lane notice, at every generator in service that names the lane (notes/assumptions/22.md). A change between DOWN and
SILENT neither enters UP nor leaves it. -/
def parallelingLane (f : LaneId) (was st : LaneState) (s : Parts) : Parts :=
  if was ≠ .up ∧ st ≠ .up then s
  else allGenerators.foldl (fun s g =>
    match (s.gen g).settings with
    | some x => if x.lane = f then generatorLane (st == .up) x g s else s
    | none => s) s

/-! ## Completions and position notices (R142, R144, R146, R151) -/

/-- The completion of an operation the unit owns, taken by one generator. -/
def generatorCompletion (r : Result) (a : Action) (g : GeneratorId) (s : Parts) : Parts :=
  match (s.gen g).state, a, r with
  | .deadClosing, .close, .done => goOnline g s
  | .deadClosing, .close, .aborted => readyGenerator g (releaseGrants g s)
  | .deadClosing, .close, .failed => failGenerator g .close .stop s
  | .syncClosing, .close, .done => goOnline g s
  | .syncClosing, .close, .failed => failGenerator g .close .stop s
  | .syncClosing, .close, .aborted =>
    if (s.gen g).syncTimer = .ended then failGenerator g .syncTimeout .stop s else enterSyncing g false s
  | .disconnecting, .open, .done => afterDisconnect g s
  | .disconnecting, .open, .failed => failGenerator g .open (s.gen g).run s
  | _, _, _ => s

def parallelingCompletion (d : DeviceId) (r : Result) (a : Action) (s : Parts) : Parts :=
  allGenerators.foldl (fun s g => if s.generatorDevice g = some d then generatorCompletion r a g s else s) s

/-- A position notice for its device, taken by one generator (R139, R142, R151). One that is judged again by R139 is so
whatever the cause. An UNLOADING generator whose record is DAMAGED is TRIPPED as another is (notes/assumptions/25.md). -/
def generatorPosition (p : Position) (c : Cause) (g : GeneratorId) (s : Parts) : Parts :=
  let own := c == .origin .paralleling
  let judged := (s.gen g).state == .unavailable && s.laneUp g && isActive s.store.generators[g]
  match p with
  | .open =>
    if judged then stopGenerator g s
    else match (s.gen g).state with
      | .online | .unloading => if own then s else failGenerator g .tripped .stop s
      | .disconnecting => afterDisconnect g s
      | _ => s
  | .closed =>
    if judged then goOnline g s
    else if own then s
    else match (s.gen g).state with
      | .ready | .syncing => goOnline g s
      | _ => s.raise .generator
  | _ => s

/-- A position notice at the unit, with the judgement of R153 at a generator-tie device. -/
def parallelingPosition (d : DeviceId) (p : Position) (c : Cause) (s : Parts) : Parts :=
  let t := allGenerators.foldl (fun s g => if s.generatorDevice g = some d then generatorPosition p c g s else s) s
  match t.changeover.scheme with
  | some y => if allSides.any fun i => y.sides[i].generatorTie == some d then judgeShutdown t else t
  | none => t

/-! ## Island-change notices (R141, R143 to R145, R149, R150) -/

/-- A grantee judged by its device's observed position once its grant is gone (R144). -/
def judgeGrantee (g : GeneratorId) (s : Parts) : Parts :=
  match s.generatorDevice g with
  | none => s
  | some d =>
    if s.position d = .open then
      let s := sendOpen d .paralleling s
      match s.generatorIsland g with
      | some i => if i.energisation = .live ∧ i.utilities.isEmpty then enterSyncing g true s else readyGenerator g s
      | none => readyGenerator g s
    else s

/-- The grants of an island's member buses, by bus. -/
def grantsOf (s : Parts) (i : Island) : List (BusId × GeneratorId) :=
  i.members.filterMap fun b => (s.paralleling.arbiters[b]).bind fun a => a.grant.map fun g => (b, g)

/-- The grants an island-change notice releases: all of them where the island has left DEAD or lists a utility, else all
but that of the lowest-indexed bus (R144). -/
def reviewGrants (i : Island) (s : Parts) : Parts :=
  let gs := grantsOf s i
  let lost := if i.energisation = .dead ∧ i.utilities.isEmpty then gs.drop 1 else gs
  lost.foldl (fun s (b, g) => judgeGrantee g (releaseGrant b s)) s

/-- A generator at an island-change notice for its bus island (R141, R145). -/
def generatorAtIsland (i : Island) (s : Parts) (g : GeneratorId) : Parts :=
  if !(s.generatorBus g).any i.members.contains then s
  else match (s.gen g).state with
    | .ready => placeGenerator g s
    | .syncing =>
      match s.generatorIsland g with
      | some j =>
        if j.energisation = .dead ∨ !j.utilities.isEmpty then readyGenerator g s
        else setGenerator g { (s.gen g).level with reference := chooseReference s g } s
      | none => s
    | _ => s

/-- One island-change notice at the unit. -/
def parallelingIsland (s : Parts) (n : IslandNotice) : Parts :=
  let s := reviewGrants n.island s
  let s := allGenerators.foldl (generatorAtIsland n.island) s
  let s := judgeTimers n.island.id (n.changed.members || n.changed.sources || n.changed.kind) s
  let s := clearTargets (match s.island? n.island.id with
    | some i => shareIsland s i
    | none => s)
  n.island.members.foldl (fun s b => grantPass b s) s

def parallelingIslands (ns : List IslandNotice) (s : Parts) : Parts := ns.foldl parallelingIsland s

/-- The headroom notices of an event (R150). -/
def parallelingHeadroom (bs : List Balance) (s : Parts) : Parts := bs.foldl (fun s b => judgeTimers b.island false s) s

/-- Service Control's notice that the hold-reason set has become empty (R143). -/
def parallelingHoldEnded (s : Parts) : Parts := allBuses.foldl (fun s b => grantPass b s) s

/-- Supply has been taken or withdrawn (R140, R153). -/
def parallelingSupply (s : Parts) : Parts :=
  let wanted := s.supplyWanted
  if wanted = s.paralleling.supplySeen then s
  else
    let s := { s with paralleling.supplySeen := wanted }
    if wanted then startWanted s
    else judgeShutdown (allGenerators.foldl (fun s g =>
      match (s.gen g).state with
      | .starting | .ready | .syncing => if (s.gen g).mark = .run then s else coolGenerator g s
      | _ => s) s)

/-! ## Timers (R141, R146, R151) -/

def startLimitExpires (g : GeneratorId) (s : Parts) : Parts :=
  if (s.gen g).state = .starting ∧ (s.gen g).startTimer.isRunning then failGenerator g .startTimeout .stop s else s

def syncLimitExpires (g : GeneratorId) (s : Parts) : Parts :=
  if (s.gen g).syncTimer.isRunning then
    match (s.gen g).state with
    | .syncing => failGenerator g .syncTimeout .stop s
    | .syncClosing => setGenerator g { s.gen g with syncTimer := .ended } s
    | _ => s
  else s

def unloadLimitExpires (g : GeneratorId) (s : Parts) : Parts :=
  if (s.gen g).state = .unloading ∧ (s.gen g).unloadTimer.isRunning then disconnectGenerator g s else s

def cooldownExpires (g : GeneratorId) (s : Parts) : Parts :=
  if (s.gen g).state = .cooldown ∧ (s.gen g).cooldownTimer.isRunning then restGenerator g s else s

/-- A stop-now request from the Protection Unit, at which the command notice is sent in every case (R112, R142). -/
def stopNow (g : GeneratorId) (s : Parts) : Parts :=
  if (s.gen g).state = .unset then s else enterFailed true g .breakerFailure .stopNow s

/-! ## Host requests (R152) -/

/-- A host's generator request: BAD_INDEX, STATE while CONFIGURING or without an ACTIVE record, or judged. -/
def generatorRequest (judge : GeneratorId → Parts → Parts × Status) (generator : Nat) (s : Parts) : Parts × Status :=
  match index? 12 generator with
  | none => (s, .badIndex)
  | some g =>
    if !s.service.inService ∨ !isActive s.store.generators[g] then (s, .state) else judge g s

/-- GENERATOR START. -/
def startJudge (g : GeneratorId) (s : Parts) : Parts × Status :=
  if isDamaged s.store.generators[g] then (s, .damaged)
  else match (s.gen g).state with
    | .unavailable | .failed | .unloading | .disconnecting | .cooldown => (s, .state)
    | st =>
      if (s.gen g).mark = .run then (s, .already)
      else
        let s := setGenerator g { s.gen g with mark := .run } s
        (if st = .stopped then startGenerator g s else s, .ok)

/-- What STOP does by state. -/
def stopByState (g : GeneratorId) (s : Parts) : Parts :=
  match (s.gen g).state with
  | .starting | .ready | .syncing => coolGenerator g s
  | .deadClosing | .syncClosing => disconnectGenerator g s
  | .online => unloadGenerator g s
  | _ => s

/-- GENERATOR STOP. -/
def stopJudge (g : GeneratorId) (s : Parts) : Parts × Status :=
  let atRest : Bool := match (s.gen g).state with
    | .stopped | .unavailable | .cooldown | .failed => true
    | _ => false
  if (s.gen g).mark = .held ∧ atRest then (s, .already)
  else (stopByState g (setGenerator g { s.gen g with mark := .held } s), .ok)

/-- RESET GENERATOR. -/
def resetJudge (g : GeneratorId) (s : Parts) : Parts × Status :=
  let x := s.gen g
  if (x.state = .failed ∧ x.failure = some .damaged) ∨ isDamaged s.store.generators[g] then (s, .damaged)
  else if x.state = .failed then
    if (s.generatorDevice g).any s.isConducting then (s, .state)
    else (restFrom { x with failure := none, mark := .none } g s, .ok)
  else if x.mark = .none then (s, .state)
  else (setGenerator g { x with mark := .none } s, .ok)

/-! ## Taking generators into service (R139, R143, R154) -/

/-- A generator with an ACTIVE record put afresh and placed by its device and its lane (R139, R154). -/
def generatorFromDevice (g : GeneratorId) (y : GeneratorSettings) (s : Parts) : Parts :=
  let x := { GeneratorLive.initial with settings := some y }
  let s := takeCopy g y s
  if !s.isConducting y.device then restFrom x g s
  else if s.laneUp g then onlineFrom x g s
  else setGenerator g { x with state := .unavailable, run := .run } s

/-- A generator position at ENTER SERVICE (R139). -/
def enterGenerator (s : Parts) (g : GeneratorId) : Parts :=
  match activeSettings s.store.generators[g] with
  | some y => generatorFromDevice g y s
  | none => setGenerator g { GeneratorLive.initial with state := .unavailable } s

/-- Whether a bus is a generator bus: in use, and the bus of a generator in service (R143). -/
def isGeneratorBus (s : Parts) (b : BusId) : Bool :=
  s.topology.inUse[b] && allGenerators.any fun g => s.generatorBus g == some b

/-- The arbiters brought up to date with the generator buses, at ENTER SERVICE and at a LOAD of a generator alone (R143,
R154; notes/assumptions/53.md). -/
def reviewArbiters (s : Parts) : Parts :=
  { s with paralleling.arbiters := Vector.ofFn fun b =>
      if isGeneratorBus s b then some ((s.paralleling.arbiters[b]).getD { queue := [], grant := none }) else none }

/-- The generators taken into service, the arbiters formed and the command notices sent (R139, R143, R169). A generator
held connected had its notice at its change to RUN, before those with STOP (notes/assumptions/72.md). -/
def enterParalleling (s : Parts) : Parts :=
  let s := { s with paralleling := ParallelingUnit.initial }
  let s := allGenerators.foldl enterGenerator s
  let s := reviewArbiters { s with paralleling.supplySeen := s.supplyWanted }
  startWanted (allGenerators.foldl (fun s g => if (s.gen g).run = .stop then sendCommand g s else s) s)

/-- The LOAD notice of a generator record (R154). -/
def generatorLoaded (g : GeneratorId) (s : Parts) : Parts :=
  if !s.service.inService then s
  else match settingsOf s.store.generators[g] with
    | some y => reviewArbiters (generatorFromDevice g y s)
    | none => s

/-- The amend notice of a generator record: the copy is read again (R154). -/
def generatorAmended (g : GeneratorId) (s : Parts) : Parts :=
  if s.service.inService ∧ (s.gen g).settings.isSome then (useGenerator g s).1 else s

end Sys2Proof.Machine
end

