-- ==== Sys2Proof/Machine/Changeover.lean ====
section
/-!
DEFINITION. The Changeover Unit (chapter 8): qualification (R118 to R122), the Intake Scheme and its mode (R123, R124), the
sides (R125 to R135) and the overlap timers (R136).
-/

namespace Sys2Proof.Machine

/-! ## Sides -/

def Parts.side (s : Parts) (i : SideId) : SideLive := s.changeover.sides[i]

/-- The other side. -/
def otherSide (i : SideId) : SideId := if i = 0 then 1 else 0

/-- The settings of a side in the in-service copy. -/
def Parts.sideSettings (s : Parts) (i : SideId) : Option SideSettings := s.changeover.scheme.map fun y => y.sides[i]

def Parts.sideIncomer (s : Parts) (i : SideId) : Option DeviceId := (s.sideSettings i).map SideSettings.incomer
def Parts.sideTie (s : Parts) : Option DeviceId := s.changeover.scheme.bind SchemeSettings.tie
def Parts.sideGeneratorTie (s : Parts) (i : SideId) : Option DeviceId := (s.sideSettings i).bind SideSettings.generatorTie

/-- The scheme devices of a side (R125). -/
def Parts.sideDevices (s : Parts) (i : SideId) : List DeviceId :=
  (s.sideIncomer i).toList ++ (s.sideGeneratorTie i).toList ++ s.sideTie.toList

/-- The qualification of a side's own utility, and of the other side's. -/
def Parts.ownUtility (s : Parts) (i : SideId) : Qualification :=
  (s.sideSettings i).elim .unknown fun y => s.changeover.utilities[y.utility].qualification
def Parts.otherUtility (s : Parts) (i : SideId) : Qualification := s.ownUtility (otherSide i)

/-- The island of a side's bus. -/
def Parts.sideIsland (s : Parts) (i : SideId) : Option Island := (s.sideSettings i).bind fun y => s.islandOf y.bus

/-- Whether a side's bus island is DEAD. -/
def Parts.sideDead (s : Parts) (i : SideId) : Bool :=
  match s.sideIsland i with
  | some isl => isl.energisation == .dead
  | none => false

/-- Whether the retransfer setting is AUTO, and the transfer style CLOSED. -/
def Parts.retransfersAuto (s : Parts) : Bool :=
  match s.changeover.scheme with
  | some y => y.retransfer == .auto
  | none => false
def Parts.styleClosed (s : Parts) : Bool :=
  match s.changeover.scheme with
  | some y => y.style == .closed
  | none => false

/-- Mid-transfer (R125). -/
def SideState.midTransfer : SideState → Bool
  | .isolating | .deadWait | .altTie | .genWait | .altGen | .awaitSource | .rtSync | .rtOverlap | .rtOpening
  | .rtClosing => true
  | _ => false

/-- Whether a state holds the claim (R125). -/
def SideState.claims : SideState → Bool
  | .altTie | .onTie => true
  | _ => false

/-- A side written with nothing else. -/
def putSide (i : SideId) (x : SideLive) (s : Parts) : Parts :=
  { s with changeover.sides := s.changeover.sides.set i x }

/-- The supply request of a side after an entry (R125). An entry into ALT_TIE from AWAIT_SOURCE withdraws it as any other
does, though R128 has a side that leaves AWAIT_SOURCE keep it (notes/assumptions/43.md). -/
def supplyAfter (st : SideState) (held : Bool) : Bool :=
  match st with
  | .genWait => true
  | .normal | .altTie | .onTie | .locked | .manual => false
  | _ => held

/-- The feeding device of a side after an entry (R125). -/
def feedingAfter (s : Parts) (i : SideId) (st : SideState) : Option DeviceId :=
  match st with
  | .normal => s.sideIncomer i
  | .onTie => s.sideTie
  | .onGen => s.sideGeneratorTie i
  | _ => (s.side i).feeding

/-- The dead timer of a side after an entry (R125). -/
def deadAfter (st : SideState) (t : LatchedTimer) : LatchedTimer :=
  match st with
  | .normal | .manual | .locked => .stopped
  | _ => t

/-- A side's supply request written; a change is told to the Paralleling Unit (R140). -/
def putSupply (i : SideId) (b : Bool) (s : Parts) : Parts :=
  let x := s.side i
  if x.supply = b then s else (putSide i { x with supply := b } s).send .supply

/-- What a side withdraws as it leaves a state: its pre-shed, or its island sync. -/
def withdrawOf (i : SideId) (st : SideState) (s : Parts) : Parts :=
  match st with
  | .altTie | .genWait => withdrawPreShed i s
  | .rtSync => withdrawIslandSync i s
  | _ => s

/-- The claim as an entry leaves it: taken in ALT_TIE and ON_TIE, released by its holder in any other state (R125). -/
def claimAfter (i : SideId) (st : SideState) (s : Parts) : Parts :=
  if st.claims then
    if s.changeover.claim = none then { s with changeover.claim := some i } else s
  else if s.changeover.claim = some i then
    { s with changeover.claim := none }.send (.claimReleased (otherSide i))
  else s

/-- An entry of a side into a state (R125): what it leaves is withdrawn, and the claim, the supply request, the feeding
device, the timers, the changed mark and the CHANGEOVER flag follow. -/
def enterSide (i : SideId) (st : SideState) (s : Parts) : Parts :=
  let o := s.side i
  let s := withdrawOf i o.state s
  let x := { s.side i with
    state := st, step := if st = .genWait then some .wait else if st = .altTie then some .preShed else none,
    feeding := feedingAfter s i st, dead := deadAfter st o.dead, sync := .stopped, closeSent := false, openWait := .none }
  let s := claimAfter i st (putSide i x s)
  let s := putSupply i (supplyAfter st o.supply) s
  let s := s.markIf (o.state != st) schemeIndex
  if st = .locked ∨ (st = .awaitSource ∧ o.state ≠ .awaitSource) then s.raise .changeover else s

/-- A side's rules taken; a change of its state over them is told to the other side. -/
def onSide (i : SideId) (f : Parts → Parts) (s : Parts) : Parts :=
  let t := f s
  if (t.side i).state = (s.side i).state then t else t.send (.sideChanged (otherSide i) (s.side i).state)

/-! ## Opens and closes of a side (R125, R135) -/

/-- An open request for a side, and how the side waits for it. -/
def openFor (d : Option DeviceId) (s : Parts) : Parts × OpenWait :=
  match d with
  | none => (s, .met)
  | some d =>
    match openRequest d .changeover s with
    | (s, .accepted) => (s, .completion d)
    | (s, .already) =>
      if s.switching.devices[d].state = .opening then
        (s, if s.switching.devices[d].owner = some .changeover then .completion d else .position d)
      else (s, .met)
    | (s, .refused _) => (s, .met)

/-- How a side's open request stands, written. -/
def putOpenWait (i : SideId) (w : OpenWait) (s : Parts) : Parts := putSide i { s.side i with openWait := w } s

/-- How a side's close request stands, written. -/
def putCloseSent (i : SideId) (s : Parts) : Parts := putSide i { s.side i with closeSent := true } s

/-- A close request of a side. In hold nothing is sent and the side waits (R135). A device that is absent is refused. -/
def closeFor (d : Option DeviceId) (s : Parts) : Parts × Option Answer :=
  if s.inHold then (s, none)
  else match d with
    | none => (s, some (.refused ⟨.retired, none⟩))
    | some d =>
      let (s, a) := closeRequest d .changeover ⟨false, false⟩ s
      (s, some a)

/-- The close of RT_CLOSING, with its answer (R133). -/
def closeIncomer (i : SideId) (s : Parts) : Parts :=
  match closeFor (s.sideIncomer i) s with
  | (s, none) => s
  | (s, some .accepted) => putCloseSent i s
  | (s, some .already) => enterSide i .normal s
  | (s, some (.refused _)) => enterSide i .awaitSource s

/-- An entry into RT_CLOSING (R133). -/
def enterRtClosing (i : SideId) (s : Parts) : Parts := closeIncomer i (enterSide i .rtClosing s)

/-! ## Choosing a source (R128) -/

/-- The condition of option 2. -/
def tieOption (s : Parts) (i : SideId) : Bool :=
  s.sideTie.isSome && s.changeover.claim == none && (s.side (otherSide i)).state == .normal &&
    s.otherUtility i == .qualified

/-- The options of R128 in order; option 1 only where `own` allows it. -/
def chooseSource (s : Parts) (i : SideId) (own : Bool) : SideState :=
  match s.changeover.scheme with
  | none => .awaitSource
  | some y =>
    if own && s.ownUtility i == .qualified then .rtClosing
    else if y.preferred == .tieFirst && tieOption s i then .altTie
    else if y.generatorBus.isSome && y.sides[i].generatorTie.isSome then .genWait
    else if y.preferred == .generatorFirst && tieOption s i then .altTie
    else .awaitSource

/-- The demand of an island as the Load Unit holds it, 0 where there is none. -/
def demandIn (s : Parts) (isl : Option Island) : Nat := isl.elim 0 s.heldDemand

/-- The target of ALT_TIE's pre-shed: the other utility's capacity less the other side's demand (R129). -/
def tieTarget (s : Parts) (i : SideId) : Nat :=
  match s.sideSettings (otherSide i) with
  | some y =>
    s.changeover.utilities[y.utility].settings.elim 0 UtilitySettings.capacity - demandIn s (s.sideIsland (otherSide i))
  | none => 0

/-- A pre-shed request of a side for its side bus island. -/
def preShedFor (i : SideId) (target : Nat) (s : Parts) : Parts :=
  match s.sideIsland i with
  | some isl => requestPreShed i isl target s
  | none => s.send (.preShedComplete i)

/-- An option of R128 taken. -/
def takeOption (i : SideId) (st : SideState) (s : Parts) : Parts :=
  match st with
  | .rtClosing => enterRtClosing i s
  | .altTie => preShedFor i (tieTarget s i) (enterSide i .altTie s)
  | st => enterSide i st s

/-- A side in DEAD_WAIT judged (R128). -/
def judgeDeadWait (i : SideId) (s : Parts) : Parts :=
  if (s.side i).state = .deadWait ∧ s.sideDead i ∧ (s.side i).dead = .ended then
    takeOption i (chooseSource s i true) s
  else s

/-- A side in AWAIT_SOURCE applies options 1 to 4 while its side bus island is DEAD (R128). -/
def judgeAwait (i : SideId) (s : Parts) : Parts :=
  if (s.side i).state = .awaitSource ∧ s.sideDead i then
    match chooseSource s i true with
    | .awaitSource => s
    | st => takeOption i st s
  else s

/-- A side in RT_OPENING judged, after its open is DONE (R133). -/
def judgeRtOpening (i : SideId) (s : Parts) : Parts :=
  if (s.side i).state = .rtOpening ∧ (s.side i).openWait = .met ∧ s.sideDead i ∧ (s.side i).dead = .ended then
    if s.ownUtility i = .qualified then enterRtClosing i s else takeOption i (chooseSource s i false) s
  else s

/-! ## Retransfer (R131, R132, R133) -/

/-- RT_OPENING entered with an open request. -/
def enterRtOpening (i : SideId) (d : Option DeviceId) (s : Parts) : Parts :=
  let (s, w) := openFor d (enterSide i .rtOpening s)
  judgeRtOpening i (putOpenWait i w s)

/-- RT_SYNC entered: the island-sync request and the retransfer sync timer (R132). -/
def enterRtSync (i : SideId) (s : Parts) : Parts :=
  let s := enterSide i .rtSync s
  let limit := s.changeover.scheme.elim 0 SchemeSettings.syncLimit
  let s := putSide i { s.side i with sync := .running (limit * 1000) } s
  match s.sideIncomer i with
  | some d => requestIslandSync i d s
  | none => s

/-- The rows of R131 for the own utility entering QUALIFIED. -/
def retransfer (i : SideId) (s : Parts) : Parts :=
  if s.ownUtility i = .qualified ∧ s.retransfersAuto then
    match (s.side i).state with
    | .onTie => enterRtOpening i s.sideTie s
    | .onGen => if s.styleClosed then enterRtSync i s else enterRtOpening i (s.sideGeneratorTie i) s
    | _ => s
  else s

/-- An entry into ON_TIE or ON_GEN, with the row its qualified utility takes in the same event (R131). -/
def enterAlternate (i : SideId) (st : SideState) (s : Parts) : Parts := retransfer i (enterSide i st s)

/-- The open request with which a side leaves for DEAD_WAIT (R129, R131). -/
def openIntoDeadWait (i : SideId) (d : Option DeviceId) (s : Parts) : Parts := enterSide i .deadWait (openFor d s).1

/-! ## Derivation (R126) -/

/-- A scheme device as the derivation sees it: absent or RETIRED counts as OPEN. -/
def derivedState (s : Parts) (d : Option DeviceId) : DeviceState :=
  match d with
  | none => .open
  | some d => if s.switching.devices[d].state = .retired then .open else s.switching.devices[d].state

/-- The derived state of a side (R126). The locked standing of its devices has no part in it, at ENTER SERVICE neither
(notes/assumptions/62.md). -/
def deriveSide (s : Parts) (i : SideId) : SideState :=
  match derivedState s (s.sideIncomer i), derivedState s s.sideTie, derivedState s (s.sideGeneratorTie i) with
  | .closed, .open, .open => if (s.ownUtility i).isLive then .normal else .manual
  | .open, .closed, .open =>
    if derivedState s (s.sideIncomer (otherSide i)) = .closed ∧
        (s.changeover.claim = none ∨ s.changeover.claim = some i) then .onTie else .manual
  | .open, .open, .closed => .onGen
  | .open, .open, .open => .awaitSource
  | _, _, _ => .manual

/-- A side takes a derived state; ON_GEN takes the supply request. -/
def takeDerivedState (i : SideId) (st : SideState) (s : Parts) : Parts :=
  match st with
  | .onGen => retransfer i (putSupply i true (enterSide i .onGen s))
  | .onTie => enterAlternate i .onTie s
  | st => enterSide i st s

/-- A side takes its derived state (R126). -/
def takeDerived (i : SideId) (s : Parts) : Parts := takeDerivedState i (deriveSide s i) s

/-- A held manual side derived again: it leaves MANUAL at the first derivation that gives another state. -/
def deriveHeld (i : SideId) (s : Parts) : Parts :=
  if (s.side i).state = .manual ∧ s.changeover.mode = .auto then
    match deriveSide s i with
    | .manual => s
    | st => takeDerivedState i st s
  else s

/-! ## ALT_TIE and GEN_WAIT (R129, R130) -/

/-- A side in GEN_WAIT, in step WAIT or PRE_SHED, whose own utility is QUALIFIED goes back to it (R130). -/
def genWaitReturns (i : SideId) (s : Parts) : Parts :=
  if (s.side i).state = .genWait ∧ (s.side i).step ≠ some .close ∧ s.ownUtility i = .qualified then enterRtClosing i s
  else s

/-- Where ALT_TIE goes when its close fails. -/
def altTieFails (i : SideId) (s : Parts) : Parts :=
  match s.changeover.scheme with
  | some y =>
    if y.generatorBus.isSome ∧ y.sides[i].generatorTie.isSome then genWaitReturns i (enterSide i .genWait s)
    else enterSide i .awaitSource s
  | none => enterSide i .awaitSource s

/-- A side's step written. -/
def putStep (i : SideId) (st : Step) (s : Parts) : Parts := putSide i { s.side i with step := some st } s

/-- The close of ALT_TIE, with its answer. -/
def closeTie (i : SideId) (s : Parts) : Parts :=
  match closeFor s.sideTie s with
  | (s, none) => s
  | (s, some .accepted) => putCloseSent i s
  | (s, some .already) => enterAlternate i .onTie s
  | (s, some (.refused _)) => altTieFails i s

/-- The close of GEN_WAIT, with its answer. -/
def closeGeneratorTie (i : SideId) (s : Parts) : Parts :=
  match closeFor (s.sideGeneratorTie i) s with
  | (s, none) => s
  | (s, some .accepted) => putCloseSent i (enterSide i .altGen s)
  | (s, some .already) => enterAlternate i .onGen s
  | (s, some (.refused _)) => enterSide i .awaitSource s

/-- Capacity less demand, where a capacity is kept (R130). -/
def Balance.room (b : Balance) : Option Int := b.capacity.map fun c => (c : Int) - b.demand

/-- The room on the generator bus island, where it is LIVE and of kind GENERATOR: its capacity less its demand, as the Load
Unit holds them (R130). -/
def generatorRoom (s : Parts) : Option Int :=
  match (s.changeover.scheme.bind SchemeSettings.generatorBus).bind s.islandOf with
  | some isl =>
    if isl.energisation = .live ∧ isl.kind = .generator then (s.heldBalance isl).bind Balance.room else none
  | none => none

/-- The demand of the critical blocks in a side's bus island, as the Load Unit holds it (R130, R158). -/
def criticalDemand (s : Parts) (i : SideId) : Nat := ((s.sideIsland i).bind s.heldBalance).elim 0 Balance.critical

/-- The room a side in GEN_WAIT may proceed on (R130). -/
def generatorFits (s : Parts) (i : SideId) : Option Nat :=
  match generatorRoom s with
  | some r => if (criticalDemand s i : Int) ≤ r then some r.toNat else none
  | none => none

/-- A side in GEN_WAIT at step WAIT judged (R130). -/
def judgeGenWait (i : SideId) (s : Parts) : Parts :=
  if (s.side i).state = .genWait ∧ (s.side i).step = some .wait then
    match generatorFits s i with
    | some r => preShedFor i r (putStep i .preShed s)
    | none => s
  else s

/-- GEN_WAIT judges its condition again before it closes (R130, R135). -/
def genWaitCloses (i : SideId) (s : Parts) : Parts :=
  if (generatorFits s i).isSome then closeGeneratorTie i (putStep i .close s) else genWaitReturns i (putStep i .wait s)

/-- The Load Unit's answer "complete" (R129, R130). -/
def preShedCompleted (i : SideId) (s : Parts) : Parts :=
  match (s.side i).state, (s.side i).step with
  | .altTie, some .preShed => onSide i (fun s => closeTie i (putStep i .close s)) s
  | .genWait, some .preShed => onSide i (genWaitCloses i) s
  | _, _ => s

/-! ## Completions (R127, R129 to R133) -/

/-- Whether a side waits for the completion of its open of a device. -/
def waitsFor (x : SideLive) (d : DeviceId) : Bool := x.openWait == .completion d

/-- An open of a side is DONE. RT_OPENING is judged here on the dead timer as it stands, before the position notice of the
same event starts it again (notes/assumptions/40.md). -/
def openDone (i : SideId) (s : Parts) : Parts :=
  match (s.side i).state with
  | .isolating => enterSide i .deadWait s
  | .rtOverlap => enterSide i .normal s
  | .rtOpening => judgeRtOpening i (putOpenWait i .met s)
  | _ => s

/-- A close of a side is DONE. -/
def closeDone (i : SideId) (s : Parts) : Parts :=
  match (s.side i).state with
  | .altTie => enterAlternate i .onTie s
  | .altGen => enterAlternate i .onGen s
  | .rtClosing => enterSide i .normal s
  | .rtSync =>
    let (s, w) := openFor (s.sideGeneratorTie i) (enterSide i .rtOverlap s)
    let s := putOpenWait i w s
    if w = .met then enterSide i .normal s else s
  | _ => s

/-- A close of a side has ended FAILED or ABORTED. -/
def closeFails (i : SideId) (s : Parts) : Parts :=
  match (s.side i).state with
  | .altTie => altTieFails i s
  | .altGen | .rtClosing => enterSide i .awaitSource s
  | .rtSync => enterSide i .locked s
  | _ => s

/-- The device a side's close in flight is on. -/
def closingDevice (s : Parts) (i : SideId) : Option DeviceId :=
  match (s.side i).state with
  | .altTie => s.sideTie
  | .altGen => s.sideGeneratorTie i
  | .rtClosing | .rtSync => s.sideIncomer i
  | _ => none

/-- A completion notice judged by one side in the state it is in. -/
def sideCompletion (d : DeviceId) (r : Result) (a : Action) (i : SideId) (s : Parts) : Parts :=
  match a, r with
  | .open, .done => if waitsFor (s.side i) d then openDone i s else s
  | .open, .failed => if waitsFor (s.side i) d then enterSide i .locked s else s
  | .open, .aborted => s
  | .close, .done => if (s.side i).closeSent ∧ closingDevice s i = some d then closeDone i s else s
  | .close, _ => if (s.side i).closeSent ∧ closingDevice s i = some d then closeFails i s else s

/-- Each side's rules taken, S0 first, also where R126 does not say so (notes/assumptions/65.md). -/
def onSides (f : SideId → Parts → Parts) (s : Parts) : Parts := allSides.foldl (fun s i => onSide i (f i) s) s

def changeoverCompletion (d : DeviceId) (r : Result) (a : Action) (s : Parts) : Parts :=
  onSides (sideCompletion d r a) s

/-! ## Position notices (R125, R127, R128, R131, R134) -/

/-- The trip causes of R134. -/
def Cause.isTrip : Cause → Bool
  | .origin .protection | .origin .breakerFailure | .origin .lockout => true
  | _ => false

/-- Whether an OPEN of a scheme device with a trip cause locks a side in its state (R134). -/
def tripLocks (s : Parts) (i : SideId) (d : DeviceId) : Bool :=
  match (s.side i).state with
  | .unset | .manual | .locked => false
  | .normal => s.sideIncomer i == some d
  | _ => true

/-- The dead timer of a side whose feeding device enters OPEN (R125). -/
def startDead (i : SideId) (d : DeviceId) (s : Parts) : Parts :=
  if (s.side i).feeding = some d then
    let time := s.changeover.scheme.elim 0 SchemeSettings.minimumDead
    putSide i { s.side i with dead := .running time } s
  else s

/-- A scheme device of a side enters OPEN. A trip cause is judged first, also where the notice stands in place of the DONE
the side waits for (notes/assumptions/52.md). -/
def sideOpens (d : DeviceId) (c : Cause) (i : SideId) (s : Parts) : Parts :=
  let s := startDead i d s
  if c.isTrip && tripLocks s i d then enterSide i .locked s
  else if (s.side i).openWait = .position d then openDone i s
  else match (s.side i).state with
    | .normal => if s.sideIncomer i = some d then enterSide i .deadWait s else s
    | .onTie => if s.sideTie = some d then enterSide i .deadWait s else s
    | .onGen => if s.sideGeneratorTie i = some d then enterSide i .deadWait s else s
    | .manual => deriveHeld i s
    | _ => s

/-- A scheme device of a side enters CLOSED. -/
def sideCloses (i : SideId) (s : Parts) : Parts :=
  match (s.side i).state with
  | .awaitSource => takeDerived i s
  | .manual => deriveHeld i s
  | _ => s

/-- A position notice judged by one side. -/
def sidePosition (d : DeviceId) (p : Position) (c : Cause) (i : SideId) (s : Parts) : Parts :=
  if !(s.sideDevices i).contains d then s
  else match p with
    | .open => sideOpens d c i s
    | .closed => sideCloses i s
    | .travel | .disagree => s

def changeoverPosition (d : DeviceId) (p : Position) (c : Cause) (s : Parts) : Parts := onSides (sidePosition d p c) s

/-! ## Island-change and headroom notices, the dead timer (R128, R130, R131, R133, R136) -/

/-- Whether a batch of notices reports the island of a side's bus becoming DEAD (R131): its notice has a changed
energisation, which is judged against the former island of its id, also at a merge or split (notes/assumptions/63.md). -/
def becomesDead (ns : List IslandNotice) (b : BusId) : Bool :=
  ns.any fun n => n.island.members.contains b && n.changed.energisation && n.island.energisation == .dead

/-- The island-change notices of a recomputation at one side. -/
def sideIslands (ns : List IslandNotice) (i : SideId) (s : Parts) : Parts :=
  match (s.side i).state with
  | .deadWait => judgeDeadWait i s
  | .awaitSource => judgeAwait i s
  | .genWait => judgeGenWait i s
  | .rtOpening => judgeRtOpening i s
  | .onGen =>
    match s.sideSettings i with
    | some y =>
      if becomesDead ns y.bus && s.sideDead i && derivedState s y.generatorTie == .closed then
        openIntoDeadWait i y.generatorTie s
      else s
    | none => s
  | _ => s

/-- The greatest elapsed time of the timers of some old ids, 0 where none ran. -/
def greatestElapsed (ts : List OverlapTimer) (ids : List BusId) : Nat :=
  ((ts.filter fun t => ids.contains t.island).map OverlapTimer.elapsed).foldl max 0

/-- The overlap timers after the notices of a recomputation (R136). -/
def overlapsAfter (ts : List OverlapTimer) (ns : List IslandNotice) : List OverlapTimer :=
  let kept := ts.filter fun t => !ns.any fun n => n.oldIds.contains t.island || n.island.id == t.island
  let parallel := (ns.filter fun n => n.island.kind == .parallel).map fun n =>
    { island := n.island.id, elapsed := greatestElapsed ts n.oldIds : OverlapTimer }
  sortBy (fun a b => a.island.val < b.island.val) (kept ++ parallel)

def changeoverIslands (ns : List IslandNotice) (s : Parts) : Parts :=
  onSides (sideIslands ns) { s with changeover.overlaps := overlapsAfter s.changeover.overlaps ns }

def changeoverHeadroom (s : Parts) : Parts := onSides judgeGenWait s

/-- The dead timer of a side expires (R128, R133). -/
def deadExpires (i : SideId) (s : Parts) : Parts :=
  if (s.side i).dead.isRunning then
    onSide i (fun s => judgeRtOpening i (judgeDeadWait i s)) (putSide i { s.side i with dead := .ended } s)
  else s

/-! ## Changes of qualification at the sides (R121, R127 to R133) -/

/-- A change of a side's own utility. -/
def sideOwnUtility (new : Qualification) (i : SideId) (s : Parts) : Parts :=
  let x := s.side i
  match x.state with
  | .normal =>
    if new = .lost then
      let (s, w) := openFor (s.sideIncomer i) s
      match w with
      | .completion _ => putOpenWait i w (enterSide i .isolating s)
      | _ => enterSide i .deadWait s
    else s
  | .genWait => genWaitReturns i s
  | .onTie | .onGen => if new = .qualified then retransfer i s else s
  | .rtSync => if (new = .failing ∨ new = .lost) ∧ !x.closeSent then enterSide i .onGen s else s
  | .rtClosing =>
    if new = .lost then
      if x.closeSent then (openFor (s.sideIncomer i) s).1 else enterSide i .awaitSource s
    else s
  | .awaitSource => judgeAwait i s
  | .manual => deriveHeld i s
  | _ => s

/-- A change of the other side's utility. -/
def sideOtherUtility (new : Qualification) (i : SideId) (s : Parts) : Parts :=
  let fails := new = .failing ∨ new = .lost
  match (s.side i).state with
  | .altTie =>
    if (s.side i).step = some .close then (if fails then openIntoDeadWait i s.sideTie s else s)
    else if new ≠ .qualified then enterSide i .deadWait s else s
  | .onTie => if fails then openIntoDeadWait i s.sideTie s else s
  | .awaitSource => judgeAwait i s
  | _ => s

/-- A change of a utility's qualification at one side. -/
def sideQualification (u : UtilityId) (new : Qualification) (i : SideId) (s : Parts) : Parts :=
  match s.sideSettings i with
  | some y => if y.utility = u then sideOwnUtility new i s else sideOtherUtility new i s
  | none => s

/-! ## Qualification (R118 to R122) -/

/-- A utility written; a change of its qualification has the effects of R121. -/
def setUtility (u : UtilityId) (x : UtilityLive) (s : Parts) : Parts :=
  let o := s.changeover.utilities[u]
  let t := { s with changeover.utilities := s.changeover.utilities.set u x }
  if o.qualification = x.qualification then t
  else
    let t := if o.qualification.isLive != x.qualification.isLive then recompute t else t
    let t := t.mark (utilityIndex u)
    let t := onSides (sideQualification u x.qualification) t
    if x.qualification = .lost then t.raise .changeover else t

/-- The classes of a utility's measurement (R119). -/
inductive MeasurementClass where
  | dead | inWindow | out
  deriving DecidableEq, Repr

/-- The nominal frequency in mHz. -/
def nominalFrequency (t : StationSettings) : Int :=
  match t.nominal with
  | .hz50 => 50000
  | .hz60 => 60000

/-- The class of a measurement (R119). -/
def measurementClass (t : StationSettings) (y : UtilitySettings) (v : PointValues) : MeasurementClass :=
  if v.v ≤ t.deadThreshold then .dead
  else if y.windowLow ≤ v.v ∧ v.v ≤ y.windowHigh ∧ (v.f - nominalFrequency t).natAbs ≤ y.deviation then .inWindow
  else .out

/-- The underlying state and the timer after a measurement (R119). `closed` says that the utility's INCOMER is observed
CLOSED. -/
def nextUnderlying (y : UtilitySettings) (closed : Bool) (o : Option Qualification) (t : QualificationTimer)
    (k : MeasurementClass) : Qualification × QualificationTimer :=
  let returns : Qualification × QualificationTimer := (.qualifying, .back false (y.returnDelay * 1000))
  let fails : Qualification × QualificationTimer := (.failing, .loss false y.lossDelay)
  match o, k with
  | some .absent, .dead => (.absent, t)
  | some .absent, .out => (.outOfWindow, t)
  | some .absent, .inWindow => returns
  | some .outOfWindow, .dead => (.absent, t)
  | some .outOfWindow, .out => (.outOfWindow, t)
  | some .outOfWindow, .inWindow => returns
  | some .qualifying, .dead => (.absent, .stopped)
  | some .qualifying, .out => (.outOfWindow, .stopped)
  | some .qualifying, .inWindow => (.qualifying, t)
  | some .qualified, .inWindow => (.qualified, t)
  | some .qualified, _ => fails
  | some .failing, .inWindow => (.qualified, .stopped)
  | some .failing, _ => (.failing, t)
  | some .lost, .inWindow => returns
  | some .lost, _ => (.lost, t)
  | _, .dead => if closed then fails else (.absent, t)
  | _, .out => if closed then fails else (.outOfWindow, t)
  | _, .inWindow => if closed then (.qualified, t) else returns

/-- A timer with its freezing taken away, or put on it (R120). -/
def QualificationTimer.freeze (b : Bool) : QualificationTimer → QualificationTimer
  | .stopped => .stopped
  | .loss _ left => .loss b left
  | .back _ left => .back b left

/-- Whether the INCOMER of a utility is observed CLOSED: the device the index holds as such (R119), the lowest-indexed one
where two entries name the utility (notes/assumptions/41.md). -/
def incomerClosed (s : Parts) (u : UtilityId) : Bool :=
  match allDevices.find? fun d => match s.topology.index[d] with
    | some e => e.terminalB == .utility u
    | none => false with
  | some d => s.position d == .closed
  | none => false

/-- A point-update notice taken for one utility (R119, R120). -/
def utilityPointNotice (n : PointNotice) (s : Parts) (u : UtilityId) : Parts :=
  let x := s.changeover.utilities[u]
  match x.settings, s.service.station with
  | some y, some t =>
    if y.point ≠ n.point ∨ !x.measured then s
    else if n.status = .fresh then
      if n.update.isNone then s
      else
        let (q, tm) := nextUnderlying y (incomerClosed s u) x.underlying (x.timer.freeze false)
          (measurementClass t y n.values)
        setUtility u { x with qualification := q, underlying := some q, timer := tm } s
    else setUtility u { x with qualification := .unknown, timer := x.timer.freeze true } s
  | _, _ => s

def changeoverPoint (n : PointNotice) (s : Parts) : Parts := allUtilities.foldl (utilityPointNotice n) s

/-- The loss timer of a utility expires (R120). -/
def lossExpires (u : UtilityId) (s : Parts) : Parts :=
  let x := s.changeover.utilities[u]
  match x.timer with
  | .loss false _ => setUtility u { x with qualification := .lost, underlying := some .lost, timer := .stopped } s
  | _ => s

/-- The return timer of a utility expires (R120). -/
def returnExpires (u : UtilityId) (s : Parts) : Parts :=
  let x := s.changeover.utilities[u]
  match x.timer with
  | .back false _ =>
    setUtility u { x with qualification := .qualified, underlying := some .qualified, timer := .stopped } s
  | _ => s

/-- The damage notice of a utility record (R122). -/
def utilityDamaged (u : UtilityId) (s : Parts) : Parts :=
  let x := s.changeover.utilities[u]
  if x.settings.isNone then s
  else
    (setUtility u { x with qualification := .unknown, underlying := none, timer := .stopped, measured := false } s).raise
      .changeover

/-- The amend notice of a utility record: the new settings are read (R121). -/
def utilityAmended (u : UtilityId) (s : Parts) : Parts :=
  let x := s.changeover.utilities[u]
  if x.settings.isNone then s
  else match useHeld s.store.utilities[u] (fun h s => s.putUtility u (some h)) (utilityIndex u) (utilityDamaged u) s with
    | (s, some y) =>
      { s with changeover.utilities := s.changeover.utilities.set u { s.changeover.utilities[u] with settings := some y } }
    | (s, none) => s

/-! ## The other side, the claim, lockouts and hold (R126, R128, R129, R131, R134, R135) -/

/-- The other side has changed its state from `old`. -/
def sideToldChange (old : SideState) (i : SideId) (s : Parts) : Parts :=
  let left := old = .normal ∧ (s.side (otherSide i)).state ≠ .normal
  match (s.side i).state with
  | .altTie => if left ∧ (s.side i).step = some .preShed then enterSide i .deadWait s else s
  | .onTie => if left then openIntoDeadWait i s.sideTie s else s
  | .awaitSource => judgeAwait i s
  | _ => s

/-- The other side has released the claim. -/
def sideToldRelease (i : SideId) (s : Parts) : Parts :=
  match (s.side i).state with
  | .awaitSource => judgeAwait i s
  | .manual => deriveHeld i s
  | _ => s

/-- A lockout notice at one side (R134). -/
def sideLockout (d : DeviceId) (i : SideId) (s : Parts) : Parts :=
  if (s.side i).state.midTransfer ∧ (s.sideDevices i).contains d then enterSide i .locked s else s

/-- A waiting side sends its close at the hold's end (R135). -/
def sideHoldEnded (i : SideId) (s : Parts) : Parts :=
  let x := s.side i
  if x.closeSent then s
  else match x.state, x.step with
    | .altTie, some .close =>
      if (s.side (otherSide i)).state = .normal ∧ s.otherUtility i = .qualified then closeTie i s
      else enterSide i .deadWait s
    | .genWait, some .close => genWaitCloses i s
    | .rtClosing, _ => closeIncomer i s
    | _, _ => s

/-- The answer to an island-sync close (R132). REFUSED and ALREADY change nothing here (notes/assumptions/57.md). -/
def islandSyncAnswered (i : SideId) (a : Answer) (s : Parts) : Parts :=
  match (s.side i).state, a with
  | .rtSync, .accepted => putSide i { s.side i with sync := .stopped, closeSent := true } s
  | _, _ => s

/-- The retransfer sync timer of a side expires (R132). -/
def retransferSyncExpires (i : SideId) (s : Parts) : Parts :=
  if (s.side i).state = .rtSync ∧ (s.side i).sync.isRunning then
    onSide i (fun s => enterRtOpening i (s.sideGeneratorTie i) s) s
  else s

/-! ## Overlap timers (R136) -/

/-- The devices an overlap expiry opens: the generator ties of the copy that conduct in the island, or else the GENERATOR
devices that do. -/
def overlapOpens (s : Parts) (isl : Island) : List DeviceId :=
  let inside (d : DeviceId) : Bool := s.isConducting d &&
    match s.topology.index[d] with
    | some e => isl.members.contains e.terminalA ||
        (match e.terminalB with
         | .bus b => isl.members.contains b
         | _ => false)
    | none => false
  let ties := (match s.changeover.scheme with
    | some y => ascending (y.sides[0].generatorTie.toList ++ y.sides[1].generatorTie.toList)
    | none => []).filter inside
  if ties.isEmpty then
    allDevices.filter fun d => inside d && match s.topology.index[d] with
      | some e => e.terminalB.kind == .generator
      | none => false
  else ties

/-- The overlap timers with that of an island restarted. -/
def restartOverlap (b : BusId) (ts : List OverlapTimer) : List OverlapTimer :=
  ts.map fun t => if t.island = b then { t with elapsed := 0 } else t

/-- The overlap timer of an island expires (R136). -/
def overlapExpires (b : BusId) (s : Parts) : Parts :=
  if s.changeover.overlaps.any fun t => t.island == b then
    let s := { s with changeover.overlaps := restartOverlap b s.changeover.overlaps }
    let s := s.raise .changeover
    match s.island? b with
    | some isl => (overlapOpens s isl).foldl (fun s d => sendOpen d .overlap s) s
    | none => s
  else s

/-! ## The scheme in service (R123, R124) -/

/-- A side enters MANUAL, and every request it has made is withdrawn (R124). -/
def sideManual (i : SideId) (s : Parts) : Parts := enterSide i .manual (withdrawIslandSync i (withdrawPreShed i s))

/-- The effect of SCHEME MODE MANUAL (R124). -/
def schemeManual (s : Parts) : Parts := onSides sideManual { s with changeover.mode := .manual }

/-- The damage notice of the scheme record (R123); with no scheme in service it has no effect here and sets no flag
(notes/assumptions/69.md). -/
def schemeDamaged (s : Parts) : Parts :=
  if s.changeover.scheme.isNone then s else (schemeManual s).raise .changeover

/-- A read of the scheme, which refreshes the in-service copy (R123). -/
def useScheme (s : Parts) : Parts × Option SchemeSettings :=
  match useHeld s.store.scheme (fun h s => s.putScheme (some h)) schemeIndex schemeDamaged s with
  | (s, some y) => ({ s with changeover.scheme := some y }, some y)
  | (s, none) => (s, none)

/-- The Protection Unit's question of R111: the side whose incomer is a device. -/
def sideOfIncomer (d : DeviceId) (s : Parts) : Parts × Option SideId :=
  if s.changeover.scheme.isNone then (s, none)
  else
    let (s, _) := useScheme s
    (s, allSides.find? fun i => s.sideIncomer i == some d)

/-- SCHEME MODE (R124). -/
def schemeModeRequest (m : SchemeMode) (s : Parts) : Parts × Status :=
  if !s.service.inService ∨ s.changeover.scheme.isNone then (s, .state)
  else if s.changeover.mode = m then (s, .already)
  else match m with
    | .manual => (schemeManual s, .ok)
    | .auto =>
      match useScheme s with
      | (s, some _) => (onSides takeDerived { s with changeover.mode := .auto }, .ok)
      | (s, none) => (s, .damaged)

/-- RESET SIDE (R134). -/
def resetSideRequest (side : Nat) (s : Parts) : Parts × Status :=
  match index? 2 side with
  | none => (s, .badIndex)
  | some i =>
    if !s.service.inService ∨ s.changeover.scheme.isNone ∨ s.changeover.mode = .manual ∨ (s.side i).state ≠ .locked then
      (s, .state)
    else if (s.sideDevices i).any s.isLocked then (s, .state)
    else (onSide i (takeDerived i) s, .ok)

/-- The LOAD notice of the scheme record (R123). A MANUAL side keeps the feeding device it had (notes/assumptions/51.md). -/
def schemeLoaded (s : Parts) : Parts :=
  if !s.service.inService then s
  else
    let first := s.changeover.scheme.isNone
    let s := (useScheme s).1
    if first then onSides sideManual s else s

/-- A utility at ENTER SERVICE (R118). -/
def utilityAtEntry (r : Option (Held UtilitySettings)) : UtilityLive :=
  if isActive r then { UtilityLive.initial with settings := settingsOf r, measured := true } else UtilityLive.initial

/-- The utilities taken into service (R118, R169). -/
def enterUtilities (s : Parts) : Parts :=
  { s with changeover := { ChangeoverUnit.initial with utilities := s.store.utilities.map utilityAtEntry } }

/-- The scheme taken into service (R123). The locked standing that R64 has taken here gives the sides nothing of its own: a
side derived AWAIT_SOURCE stays so though a device of it is locked already (notes/assumptions/62.md). -/
def enterScheme (s : Parts) : Parts :=
  if isActive s.store.scheme then
    onSides takeDerived { s with changeover.scheme := settingsOf s.store.scheme, changeover.mode := .auto }
  else s

end Sys2Proof.Machine
end

