-- ==== Sys2Proof/Machine/Backup.lean ====
section
/-!
DEFINITION. Breaker failure at the Protection Unit (R106 to R113): the lockout, the backup set and its trips, the intertrip
or the STOP_NOW, and the last breaker-failure record.
-/

namespace Sys2Proof.Machine

/-- Whether the index holds a device against a bus (R48). -/
def heldAgainst (s : Parts) (b : BusId) (d : DeviceId) : Bool :=
  match s.topology.index[d] with
  | some e => e.terminalA == b || e.terminalB == .bus b
  | none => false

/-- A candidate for a backup trip (R108). -/
def isBackupCandidate (s : Parts) (d : DeviceId) : Bool :=
  let v := s.switching.devices[d]
  (match s.topology.index[d] with
   | some e => e.terminalB.kind != .feeder
   | none => false) &&
    v.state != .retired && s.isConducting d && !(v.state == .failed && v.failure == some .failedOpen)

/-- The buses whose candidates back up a failed device (R109). -/
def backupBuses (e : IndexEntry) : List BusId :=
  match e.terminalB with
  | .bus b => [e.terminalA, b]
  | .generator _ => []
  | _ => [e.terminalA]

/-- The backup set of a failed device, in ascending order (R109). -/
def backupSet (s : Parts) (d : DeviceId) : List DeviceId :=
  match s.topology.index[d] with
  | none => []
  | some e => allDevices.filter fun x => x != d && isBackupCandidate s x && (backupBuses e).any fun b => heldAgainst s b x

/-- The further request of a failed INCOMER or GENERATOR device, and what was asked (R111, R112). -/
def askFurther (d : DeviceId) (s : Parts) : Parts × Asked :=
  match s.topology.index[d] with
  | some { terminalA := _, terminalB := .utility _ } =>
    match sideOfIncomer d s with
    | (s, some i) => (assertIntertrip i d s, .intertrip)
    | (s, none) => (s, .nothing)
  | some { terminalA := _, terminalB := .generator g } => (stopNow g s, .stopNow)
  | _ => (s, .nothing)

/-- A breaker-failure notice (R106). -/
def takeBreakerFailure (d : DeviceId) (o : Requester) (s : Parts) : Parts :=
  let s := placeAutomatic .breakerFailure (.device d) [d] s
  let backup := backupSet s d
  let s := backup.foldl (fun s x => sendOpen x .breakerFailure s) s
  let (s, asked) := askFurther d s
  let s := s.raise .protection
  { s with protection.lastFailure := some { device := d, origin := o, backup := backup, asked := asked } }

end Sys2Proof.Machine
end

