-- ==== Sys2Proof/Machine/Notices.lean ====
section
/-!
DEFINITION. What each notice does at the block it is for, and the handing round of an event's notices until none is left
(notes/assumptions/2.md).
-/

namespace Sys2Proof.Machine

/-- A completion notice at the owner of the operation (R36). A completion to the Protection Unit changes nothing (R96,
R110), nor does one to OVERLAP (R136) or to LOCKOUT. An ABORTED one to SUPERVISOR sets the DEVICE flag (R36). -/
def takeCompletion (o : Requester) (d : DeviceId) (r : Result) (a : Action) (s : Parts) : Parts :=
  match o with
  | .supervisor => if r = .aborted then s.raise .device else s
  | .changeover => changeoverCompletion d r a s
  | .paralleling => parallelingCompletion d r a s
  | .loadUnit => loadCompletion d r a s
  | .protection | .breakerFailure | .overlap | .lockout => s

/-- A position notice at a consumer (R36). -/
def takePositionNotice (u : Consumer) (d : DeviceId) (p : Position) (c : Cause) (s : Parts) : Parts :=
  match u with
  | .changeover => changeoverPosition d p c s
  | .paralleling => parallelingPosition d p c s
  | .load => loadPosition d p c s

/-- The island-change notices of a recomputation at a consumer (R55). -/
def takeIslands (u : Consumer) (ns : List IslandNotice) (s : Parts) : Parts :=
  match u with
  | .changeover => changeoverIslands ns s
  | .paralleling => parallelingIslands ns s
  | .load => loadIslands ns s

/-- A bus point at the Paralleling Unit: the island sync, whose answer goes to the Changeover Unit, and the host tie sync
(R147, R148). -/
def parallelingPoint (n : PointNotice) (s : Parts) : Parts :=
  if n.update.isNone then s
  else
    let (s, a) := runIslandSync n.point s
    let s := match a with
      | some (i, a) => onSide i (islandSyncAnswered i a) s
      | none => s
    runHostSync n.point s

/-- A point-update notice at a user of the point (R81). -/
def takePoint (u : PointUser) (n : PointNotice) (s : Parts) : Parts :=
  match u with
  | .protection => protectionPoint n s
  | .topology => topologyPoint n.point s
  | .changeover => changeoverPoint n s
  | .paralleling => parallelingPoint n s
  | .load => loadPoint n s

/-- The hold-ended notice at a consumer (R171). -/
def takeHoldEnded (u : Consumer) (s : Parts) : Parts :=
  match u with
  | .changeover => onSides sideHoldEnded s
  | .paralleling => parallelingHoldEnded s
  | .load => s.send .restoreTrigger

/-- One notice taken. -/
def takeNotice (n : Notice) (s : Parts) : Parts :=
  match n with
  | .completion o d r a _ => takeCompletion o d r a s
  | .breakerFailure d o => takeBreakerFailure d o s
  | .position u d p c => takePositionNotice u d p c s
  | .conducting d => takeConducting s d
  | .source => recompute s
  | .islands u ns => takeIslands u ns s
  | .point u p => takePoint u p s
  | .generatorState f ready fault _ => parallelingReport f ready fault s
  | .lane f was st => parallelingLane f was st s
  | .formContent f => formContent f s
  | .lockout d _ _ became => if became then onSides (sideLockout d) s else s
  | .holdEnded u => takeHoldEnded u s
  | .preShedComplete i => preShedCompleted i s
  | .supply => parallelingSupply s
  | .rating => loadReview s
  | .headroom .changeover _ => changeoverHeadroom s
  | .headroom .paralleling bs => parallelingHeadroom bs s
  | .headroom .load _ => s
  | .grantPass b => grantPass b s
  | .shares g => shareFor g s
  | .sideChanged i old => onSide i (sideToldChange old i) s
  | .claimReleased i => onSide i (sideToldRelease i) s
  | .restoreTrigger => reviewMoved s (restoreAttempt s)

/-- Whether the capacity, demand or headroom of an island differs from its last headroom notice (R158). -/
def headroomMoved (s : Parts) (b : Balance) : Bool :=
  match s.load.notified.find? (·.island == b.island) with
  | some o => o.capacity != b.capacity || o.demand != b.demand || o.headroom != b.headroom
  | none => true

/-- The headroom notices of an event, sent at its end (R158). -/
def sendHeadrooms (s : Parts) : Parts :=
  let bs := s.topology.islands.map s.balanceOf
  let moved := bs.filter (headroomMoved s)
  let t := { s with load.notified := bs, load.due := false }
  if moved.isEmpty then t else t.sendAll [.headroom .changeover moved, .headroom .paralleling moved]

/-- The notices of an event taken in the order sent, and then its headroom notices, at most `n` in all. -/
def settleLoop : Nat → Parts → Parts
  | 0, s => s
  | n + 1, s =>
    match s.notices with
    | m :: rest => settleLoop n (takeNotice m { s with notices := rest })
    | [] => if s.load.due then settleLoop n (sendHeadrooms s) else s

/-- An event brought to its end. -/
def settle (s : Parts) : Parts := settleLoop Config.noticeLimit s

end Sys2Proof.Machine
end

