-- ==== Sys2Proof/Machine/RecordStore.lean ====
section
/-!
DEFINITION. The Record Store (chapter 1): records by name (R1), the check on use and the scrub (R10 to R12), the derived
indices (R16) and LOAD, AMEND and RETIRE (R13 to R15).
-/

namespace Sys2Proof.Machine

/-! ## Names (R1) -/

/-- A record of the Store. -/
inductive RecordName where
  | station
  | bus (b : BusId)
  | utility (u : UtilityId)
  | generator (g : GeneratorId)
  | device (d : DeviceId)
  | block (l : BlockId)
  | element (e : ElementId)
  | lockout (k : SlotId)
  | scheme
  | point (p : PointId)
  deriving DecidableEq, Repr

/-- The kind of a record. -/
def RecordName.kind : RecordName → RecordKind
  | .station => .station
  | .bus _ => .bus
  | .utility _ => .utility
  | .generator _ => .generator
  | .device _ => .device
  | .block _ => .block
  | .element _ => .element
  | .lockout _ => .lockout
  | .scheme => .scheme
  | .point _ => .point

/-- The store index of a record. -/
def RecordName.position : RecordName → StoreIndex
  | .station => stationIndex
  | .bus b => busIndex b
  | .utility u => utilityIndex u
  | .generator g => generatorIndex g
  | .device d => deviceIndex d
  | .block l => blockIndex l
  | .element e => elementIndex e
  | .lockout k => lockoutIndex k
  | .scheme => schemeIndex
  | .point p => pointIndex p

/-- The record of a kind and kind index, or nothing where the index is outside the kind's count. The Station and the
Intake Scheme have index 0 (R179). -/
def recordNamed (k : RecordKind) (n : Nat) : Option RecordName :=
  match k with
  | .station => if n = 0 then some .station else none
  | .bus => (index? 8 n).map .bus
  | .utility => (index? 2 n).map .utility
  | .generator => (index? 12 n).map .generator
  | .device => (index? 48 n).map .device
  | .block => (index? 24 n).map .block
  | .element => (index? 64 n).map .element
  | .lockout => (index? 32 n).map .lockout
  | .scheme => if n = 0 then some .scheme else none
  | .point => (index? 64 n).map .point

/-- The record at a store index. -/
def recordAt (i : StoreIndex) : RecordName :=
  if h : i.val < 1 then .station
  else if h : i.val < 9 then .bus ⟨i.val - 1, by omega⟩
  else if h : i.val < 11 then .utility ⟨i.val - 9, by omega⟩
  else if h : i.val < 23 then .generator ⟨i.val - 11, by omega⟩
  else if h : i.val < 71 then .device ⟨i.val - 23, by omega⟩
  else if h : i.val < 95 then .block ⟨i.val - 71, by omega⟩
  else if h : i.val < 159 then .element ⟨i.val - 95, by omega⟩
  else if h : i.val < 191 then .lockout ⟨i.val - 159, by omega⟩
  else if h : i.val < 192 then .scheme
  else .point ⟨i.val - 192, by omega⟩

/-- Every record, in store-index order. -/
def allRecords : List RecordName := (List.finRange 256).map recordAt

/-! ## Records whatever their kind -/

/-- A record with its settings put through a map. -/
def Held.map {α β : Type} (f : α → β) (h : Held α) : Held β :=
  { retired := h.retired, integrity := h.integrity, settings := f h.settings,
    code := { covers := f h.code.covers, restores := h.code.restores } }

/-- A record with its settings put through a partial map. -/
def Held.map? {α β : Type} (f : α → Option β) (h : Held α) : Option (Held β) :=
  match f h.settings, f h.code.covers with
  | some x, some y =>
    some { retired := h.retired, integrity := h.integrity, settings := x, code := { covers := y, restores := h.code.restores } }
  | _, _ => none

/-- The record of a name, with its settings as settings of any kind; none while it is EMPTY. -/
def Parts.record (s : Parts) : RecordName → Option (Held AnySettings)
  | .station => s.store.station.map (Held.map .station)
  | .bus b => s.store.buses[b].map (Held.map .bus)
  | .utility u => s.store.utilities[u].map (Held.map .utility)
  | .generator g => s.store.generators[g].map (Held.map .generator)
  | .device d => s.store.devices[d].map (Held.map .device)
  | .block l => s.store.blocks[l].map (Held.map .block)
  | .element e => s.store.elements[e].map (Held.map .element)
  | .lockout k => s.store.lockouts[k].map (Held.map .lockout)
  | .scheme => s.store.scheme.map (Held.map .scheme)
  | .point p => s.store.points[p].map (Held.map .point)

/-- A record written where it is of its position's kind. -/
def putIf {α : Type} (r : Option (Held α)) (put : Option (Held α) → Parts) (s : Parts) : Parts :=
  match r with
  | some h => put (some h)
  | none => s

/-- The record of a name written. -/
def Parts.putRecord (s : Parts) (n : RecordName) (h : Held AnySettings) : Parts :=
  match n with
  | .station => putIf (h.map? fun x => match x with | .station y => some y | _ => none) s.putStation s
  | .bus b => putIf (h.map? fun x => match x with | .bus y => some y | _ => none) (s.putBus b) s
  | .utility u => putIf (h.map? fun x => match x with | .utility y => some y | _ => none) (s.putUtility u) s
  | .generator g => putIf (h.map? fun x => match x with | .generator y => some y | _ => none) (s.putGenerator g) s
  | .device d => putIf (h.map? fun x => match x with | .device y => some y | _ => none) (s.putDevice d) s
  | .block l => putIf (h.map? fun x => match x with | .block y => some y | _ => none) (s.putBlock l) s
  | .element e => putIf (h.map? fun x => match x with | .element y => some y | _ => none) (s.putElement e) s
  | .lockout k => putIf (h.map? fun x => match x with | .lockout y => some y | _ => none) (s.putLockout k) s
  | .scheme => putIf (h.map? fun x => match x with | .scheme y => some y | _ => none) s.putScheme s
  | .point p => putIf (h.map? fun x => match x with | .point y => some y | _ => none) (s.putPoint p) s

/-! ## Checking (R10 to R12) -/

/-- The damage notice of a record at its owner (R10). The Station (R167), a device (R43) and a point (R78) have no
further fallback. -/
def damageNotice : RecordName → Parts → Parts
  | .station => id
  | .bus b => busDamaged b
  | .utility u => utilityDamaged u
  | .generator g => generatorDamaged g
  | .device _ => id
  | .block l => blockDamaged l
  | .element e => elementDamaged e
  | .lockout k => lockoutDamaged k
  | .scheme => schemeDamaged
  | .point _ => id

/-- A record read with the check on use (R11). The same check is the scrub's (R12): it passes over an EMPTY or DAMAGED
record. -/
def useRecord (n : RecordName) (s : Parts) : Parts × Option AnySettings :=
  useHeld (s.record n) (fun h s => s.putRecord n h) n.position (damageNotice n) s

/-- A corruption of a stored record (notes/assumptions/3.md). -/
def applyUpset (s : Parts) (u : Upset) : Parts :=
  match s.record (recordAt u.position) with
  | some h =>
    if kindOf u.found = (recordAt u.position).kind then
      s.putRecord (recordAt u.position) { h with settings := u.found, code := { h.code with restores := u.restorable } }
    else s
  | none => s

/-- The scrub step interval in 1/32 ms: the scrub period × 1000 ÷ 256 ms (R12). -/
def scrubInterval (t : StationSettings) : Nat := t.scrubPeriod * 125

/-- A scrub-step expiry (R12). -/
def scrubExpires (s : Parts) : Parts :=
  match s.service.station with
  | some t =>
    if s.service.inService && s.store.scrubTimer.isRunning then
      let i := s.store.scrubPosition
      let s := (useRecord (recordAt i) s).1
      { s with store.scrubPosition := i + 1, store.scrubTimer := .running (scrubInterval t) }
    else s
  | none => s

/-- A scrub step, with the corruption it may find (notes/assumptions/3.md). -/
def scrubStep (us : List Upset) (s : Parts) : Parts := scrubExpires (us.foldl applyUpset s)

/-! ## Derived indices (R16) -/

/-- An entry of the bus-to-device index, as a device's settings give it (R48). -/
def entryOf (x : DeviceSettings) : IndexEntry := { terminalA := x.terminalA, terminalB := x.terminalB }

def Parts.setIndexEntry (s : Parts) (d : DeviceId) (e : Option IndexEntry) : Parts :=
  { s with topology.index := s.topology.index.set d e }

def Parts.setGuard (s : Parts) (e : ElementId) (d : Option DeviceId) : Parts :=
  { s with protection.guards := s.protection.guards.set e d }

/-- The entry of one device at a rebuild. A DAMAGED record, or one found INVALID here, keeps the entry it had. -/
def rebuildEntry (s : Parts) (d : DeviceId) : Parts :=
  if isActive s.store.devices[d] then
    match useDevice d s with
    | (s, some x) => s.setIndexEntry d (some (entryOf x))
    | (s, none) => s
  else s.setIndexEntry d none

/-- The bus-to-device index rebuilt. -/
def rebuildIndex (s : Parts) : Parts := allDevices.foldl rebuildEntry s

/-- The conducting state of every device taken from the Switching Unit (R48). -/
def takeAllConducting (s : Parts) : Parts := { s with topology.conducting := Vector.ofFn s.isConducting }

/-- The entry of one element at a rebuild of the guard index. -/
def rebuildGuard (s : Parts) (e : ElementId) : Parts :=
  if isActive s.store.elements[e] then
    match useElement e s with
    | (s, some x) => s.setGuard e (some x.guarded)
    | (s, none) => s
  else s.setGuard e none

/-- The guard index rebuilt. -/
def rebuildGuards (s : Parts) : Parts := allElements.foldl rebuildGuard s

/-- The rebuild a LOAD or RETIRE of a record brings, with the Map's recomputation (R16, R54). -/
def rebuildFor (n : RecordName) (s : Parts) : Parts :=
  match n with
  | .device _ => recompute (takeAllConducting (rebuildIndex s))
  | .element _ => rebuildGuards s
  | _ => s

/-! ## Cycles of upstream elements (R8) -/

/-- The upstream setting of an ACTIVE element record as the Store holds it. -/
def upstreamStored (s : Parts) (e : ElementId) : Option ElementId :=
  match s.store.elements[e] with
  | some h => if h.retired then none else h.settings.upstream
  | none => none

/-- Whether a chain reaches an element, in at most n links. -/
def chainReaches (next : ElementId → Option ElementId) (goal : ElementId) : Nat → Option ElementId → Bool
  | 0, _ => false
  | _ + 1, none => false
  | n + 1, some x => x == goal || chainReaches next goal n (next x)

/-- Whether settings for an element would lead back to the element itself. -/
def closesCycle (n : RecordName) (x : AnySettings) (s : Parts) : Bool :=
  match n, x with
  | .element e, .element y => chainReaches (upstreamStored s) e 64 y.upstream
  | _, _ => false

/-! ## In-service conditions (R14, R15) -/

/-- Whether a LOAD of a record is admitted. A LOAD of an EMPTY lockout record never is (R13). -/
def loadAdmitted (n : RecordName) (s : Parts) : Bool :=
  match n with
  | .lockout k => isActive s.store.lockouts[k]
  | n =>
    !s.service.inService ||
    match n with
    | .scheme => s.changeover.mode == .manual
    | .device d => !isActive s.store.devices[d]
    | .element e => match s.protection.elements[e].state with
      | .pickedUp | .resetting | .tripped => false
      | _ => true
    | .generator g => match s.paralleling.generators[g].state with
      | .stopped | .unavailable | .failed => true
      | _ => false
    | .block l => s.load.blocks[l].state != .restoring
    | _ => false

/-- Whether a RETIRE of a record is admitted. -/
def retireAdmitted (n : RecordName) (s : Parts) : Bool :=
  !s.service.inService ||
  match n with
  | .device d => s.position d == .open && !s.switching.devices[d].state.inFlight
  | _ => false

/-- The fields of a kind that may be amended in service. -/
def amendableFields : RecordKind → List Nat
  | .element => [4, 6, 7, 8, 10]
  | .block => [3, 4, 5]
  | .generator => [7, 8, 9, 10, 11, 12, 13, 15]
  | .utility => [3, 4, 5, 6, 7]
  | .device => [4, 5, 6, 7]
  | _ => []

/-- Whether an AMEND of a record that is not EMPTY is admitted. -/
def amendAdmitted (n : RecordName) (ps : List FieldPair) (s : Parts) : Bool :=
  !s.service.inService ||
  (ps.all (fun p => (amendableFields n.kind).contains p.field) &&
    match n with
    | .device d => s.switching.devices[d].state == .open
    | _ => true)

/-! ## LOAD (R13) -/

/-- The load notice of a record at its owner. `before` is the state before the LOAD. -/
def loadNotice (n : RecordName) (before s : Parts) : Parts :=
  match n with
  | .device d => replaceDevice d s
  | .element e => elementLoaded e before.protection.guards[e] s
  | .generator g => generatorLoaded g s
  | .block l => blockLoaded l s
  | .lockout k => match before.store.lockouts[k] with
    | some former => lockoutLoaded k former s
    | none => s
  | .scheme => schemeLoaded s
  | .station | .bus _ | .utility _ | .point _ => s

/-- A LOAD carried out. -/
def loadRecord (n : RecordName) (x : AnySettings) (s : Parts) : Parts :=
  loadNotice n s (rebuildFor n (s.putRecord n (Held.fresh x)))

/-- LOAD of a record that exists, from step 3 on. -/
def loadNamed (n : RecordName) (ps : List FieldPair) (s : Parts) : Parts × Status :=
  if !fieldsFit n.kind ps || !fieldsComplete n.kind ps then (s, .badRequest)
  else match readSettings n.kind ps with
    | none => (s, .range)
    | some x =>
      if closesCycle n x s then (s, .range)
      else if !loadAdmitted n s then (s, .state)
      else (loadRecord n x s, .ok)

/-- LOAD (R13). -/
def loadRequest (kind index : Nat) (ps : List FieldPair) (s : Parts) : Parts × Status :=
  match RecordKind.all[kind]? with
  | none => (s, .badKind)
  | some k => match recordNamed k index with
    | none => (s, .badIndex)
    | some n => loadNamed n ps s

/-! ## AMEND (R14) -/

/-- The amend notice of a record at its owner, with the fields changed. -/
def amendNotice (n : RecordName) (fields : List Nat) (s : Parts) : Parts :=
  match n with
  | .utility u => utilityAmended u s
  | .generator g => generatorAmended g s
  | .block l => blockAmended l fields s
  | .element e => if s.damageActs e then (useElement e s).1 else s
  | _ => s

/-- An AMEND carried out. -/
def amendRecord (n : RecordName) (h : Held AnySettings) (x : AnySettings) (fields : List Nat) (s : Parts) : Parts :=
  amendNotice n fields (s.putRecord n (h.rewrite x))

/-- AMEND of a record that exists, from BAD_REQUEST on. The amended settings are read together, so that a kept terminal B is
taken under an amended device kind (notes/assumptions/50.md). -/
def amendNamed (n : RecordName) (ps : List FieldPair) (s : Parts) : Parts × Status :=
  if ps.isEmpty || !fieldsFit n.kind ps then (s, .badRequest)
  else match s.record n with
    | none => (s, .state)
    | some h =>
      if !amendAdmitted n ps s then (s, .state)
      else if h.integrity = .damaged then (s, .damaged)
      else match useRecord n s with
        | (s, none) => (s, .damaged)
        | (s, some old) =>
          match readSettings n.kind (amendedPairs (settingsPairs old) ps), s.record n with
          | some x, some h =>
            if closesCycle n x s then (s, .range)
            else (amendRecord n h x (ps.map FieldPair.field) s, .ok)
          | _, _ => (s, .range)

/-- AMEND (R14). -/
def amendRequest (kind index : Nat) (ps : List FieldPair) (s : Parts) : Parts × Status :=
  match RecordKind.all[kind]? with
  | none => (s, .badKind)
  | some .lockout => (s, .badKind)
  | some k => match recordNamed k index with
    | none => (s, .badIndex)
    | some n => amendNamed n ps s

/-! ## RETIRE (R15) -/

/-- The retire notice of a record at its owner (R21). Only a device's arrives in service. -/
def retireNotice (n : RecordName) (s : Parts) : Parts :=
  match n with
  | .device d => replaceDevice d s
  | _ => s

/-- RETIRE of a record that exists, from step 3 on. -/
def retireNamed (n : RecordName) (s : Parts) : Parts × Status :=
  match s.record n with
  | none => (s, .state)
  | some h =>
    if !retireAdmitted n s then (s, .state)
    else if h.retired then (s, .already)
    else (retireNotice n (rebuildFor n (s.putRecord n { h with retired := true })), .ok)

/-- RETIRE (R15). -/
def retireRequest (kind index : Nat) (s : Parts) : Parts × Status :=
  match RecordKind.all[kind]? with
  | none => (s, .badKind)
  | some .lockout => (s, .badKind)
  | some k => match recordNamed k index with
    | none => (s, .badIndex)
    | some n => retireNamed n s

end Sys2Proof.Machine
end

