-- ==== Sys2Proof/Machine/Service.lean ====
section
/-!
DEFINITION. Service Control (chapter 11): the six checks of ENTER SERVICE (R168), the entry (R169), LEAVE SERVICE (R170)
and HOLD and RESUME (R172).
-/

namespace Sys2Proof.Machine

/-! ## The checks (R168) -/

/-- Check 3: every ACTIVE record read in order; answers the record at which it fails. -/
def readActive : List RecordName → Parts → Parts × Option RecordName
  | [], s => (s, none)
  | n :: rest, s =>
    match s.record n with
    | none => readActive rest s
    | some h =>
      if h.retired then readActive rest s
      else match useRecord n s with
        | (s, some _) => readActive rest s
        | (s, none) => (s, some n)

/-- The references of a device. -/
def deviceConsistent (s : Parts) (d : DeviceId) (x : DeviceSettings) : Bool :=
  isActive s.store.buses[x.terminalA] &&
    match x.terminalB with
    | .bus b => isActive s.store.buses[b]
    | .utility u => isActive s.store.utilities[u]
    | .generator g => (activeSettings s.store.generators[g]).any (·.device == d)
    | .block l => (activeSettings s.store.blocks[l]).any (·.feeder == d)

/-- The references of a generator: its device, and its lane in the Station lane list. -/
def generatorConsistent (s : Parts) (g : GeneratorId) (x : GeneratorSettings) : Bool :=
  (activeSettings s.store.devices[x.device]).any (·.terminalB == .generator g) &&
    match settingsOf s.store.station with
    | some t => t.lanes[x.lane].unitKind == .generator
    | none => false

/-- The reference of a block. -/
def blockConsistent (s : Parts) (l : BlockId) (x : BlockSettings) : Bool :=
  (activeSettings s.store.devices[x.feeder]).any (·.terminalB == .block l)

/-- Whether a device is an ACTIVE TIE joining two buses. -/
def joinsBuses (s : Parts) (d : DeviceId) (a b : BusId) : Bool :=
  match activeSettings s.store.devices[d] with
  | some x => (x.terminalA == a && x.terminalB == .bus b) || (x.terminalA == b && x.terminalB == .bus a)
  | none => false

/-- The references of one side of the scheme. -/
def sideConsistent (s : Parts) (y : SchemeSettings) (x : SideSettings) : Bool :=
  isActive s.store.buses[x.bus] &&
    (match activeSettings s.store.devices[x.incomer] with
     | some d => d.terminalA == x.bus && d.terminalB == .utility x.utility
     | none => false) &&
    match x.generatorTie, y.generatorBus with
    | none, _ => true
    | some d, some b => joinsBuses s d x.bus b
    | some _, none => false

/-- The references of the scheme. -/
def schemeConsistent (s : Parts) (y : SchemeSettings) : Bool :=
  sideConsistent s y y.sides[0] && sideConsistent s y y.sides[1] &&
    (y.generatorBus.all fun b => isActive s.store.buses[b]) &&
    y.tie.all fun d => joinsBuses s d y.sides[0].bus y.sides[1].bus

/-- Check 4 over one record (notes/assumptions/11.md), against the references that R168 lists and no others
(notes/assumptions/48.md). -/
def consistent (s : Parts) (n : RecordName) : Bool :=
  match n with
  | .device d => (activeSettings s.store.devices[d]).all (deviceConsistent s d)
  | .generator g => (activeSettings s.store.generators[g]).all (generatorConsistent s g)
  | .block l => (activeSettings s.store.blocks[l]).all (blockConsistent s l)
  | .bus b => (activeSettings s.store.buses[b]).all fun x => x.point.all fun p => isActive s.store.points[p]
  | .scheme => (activeSettings s.store.scheme).all (schemeConsistent s)
  | _ => true

/-- The ACTIVE devices that name a terminal B. -/
def namersOf (s : Parts) (t : TerminalB) : List DeviceId :=
  allDevices.filter fun d => (activeSettings s.store.devices[d]).any (·.terminalB == t)

/-- What a record would be named as, as a terminal B. -/
def RecordName.terminal : RecordName → Option TerminalB
  | .utility u => some (.utility u)
  | .generator g => some (.generator g)
  | .block l => some (.block l)
  | _ => none

/-- Whether a record is concerned by check 5: it is named as terminal B by more than one ACTIVE device, or is one of the
devices that so name it (notes/assumptions/11.md). -/
def sharesTerminal (s : Parts) (n : RecordName) : Bool :=
  match n with
  | .device d =>
    match activeSettings s.store.devices[d] with
    | some x => x.terminalB.kind != .tie && (namersOf s x.terminalB).length > 1
    | none => false
  | n => n.terminal.any fun t => (namersOf s t).length > 1

/-- Whether a record is concerned by check 6: an ACTIVE element whose chain leads back to it. -/
def liesOnCycle (s : Parts) (n : RecordName) : Bool :=
  match n with
  | .element e => chainReaches (upstreamStored s) e 64 (upstreamStored s e)
  | _ => false

/-- A failed check: the answer, its number and the store index concerned. -/
structure FailedCheck where
  status : Status
  number : Nat
  concerned : StoreIndex
  deriving DecidableEq, Repr

/-- Checks 4 to 6, which read no record. -/
def judgeReferences (s : Parts) : Option FailedCheck :=
  match allRecords.find? fun n => !consistent s n with
  | some n => some ⟨.range, 4, n.position⟩
  | none => match allRecords.find? (sharesTerminal s) with
    | some n => some ⟨.range, 5, n.position⟩
    | none => (allRecords.find? (liesOnCycle s)).map fun n => ⟨.range, 6, n.position⟩

/-- The six checks; none is a pass. -/
def judgeEntry (s : Parts) : Parts × Option FailedCheck :=
  if s.service.inService then (s, some ⟨.state, 1, 0⟩)
  else if !isActive s.store.station then (s, some ⟨.state, 2, 0⟩)
  else if isDamaged s.store.station then (s, some ⟨.damaged, 2, 0⟩)
  else match readActive allRecords s with
    | (s, some n) => (s, some ⟨.damaged, 3, n.position⟩)
    | (s, none) => (s, judgeReferences s)

/-! ## Entering service (R169) -/

/-- Step 1. -/
def enterStation (t : StationSettings) (s : Parts) : Parts :=
  { s with service := { inService := true, hold := HoldSet.empty, station := some t } }

/-- Step 4. -/
def enterDevices (s : Parts) : Parts := allDevices.foldl (fun s d => placeDevice d s) s

/-- Step 5: the buses in use and their points, the conducting states, the classes and the islands (R46, R48 to R50). -/
def enterTopology (s : Parts) : Parts :=
  let s := { s with
    topology.inUse := s.store.buses.map isActive
    topology.points := s.store.buses.map fun r => (activeSettings r).bind BusSettings.point
    topology.damaged := Vector.replicate 8 false }
  let s := takeAllConducting s
  let s := { s with topology.classes := Vector.ofFn s.classOf }
  { s with topology.islands := computeIslands s }

/-- Step 10. -/
def enterLockouts (s : Parts) : Parts := if s.lockouts.pending.isEmpty then s else s.addHold .lockoutPending

/-- Step 11. -/
def startScrub (t : StationSettings) (s : Parts) : Parts :=
  { s with store.scrubPosition := 0, store.scrubTimer := .running (scrubInterval t) }

/-- The eleven steps. -/
def enterParts (t : StationSettings) (s : Parts) : Parts :=
  let s := rebuildGuards (rebuildIndex (enterStation t s))
  let s := enterTopology (enterDevices (enterUtilities (enterLanes t s)))
  let s := enterProtection (enterLoads (enterParalleling (enterScheme s)))
  startScrub t (enterLockouts s)

/-- ENTER SERVICE (R168, R169): the state, the status and the body. -/
def enterRequest (s : Parts) : Parts × Status × List Byte :=
  match judgeEntry s with
  | (s, some f) => (s, f.status, [byte f.number, byte f.concerned.val])
  | (s, none) => match settingsOf s.store.station with
    | some t => (enterParts t s, .ok, [])
    | none => (s, .ok, [])

/-! ## Leaving service (R170) -/

/-- Whether the live fields of a record differ between two states in a way that its owner's chapter marks: R20 for a device,
where its record is not EMPTY, R78 for a point in use, R105 for an element, R121 for a utility, R125 for the sides, R138 for a
generator, R155 for a block (notes/assumptions/49.md). -/
def liveMoved (a b : Parts) : RecordName → Bool
  | .station | .bus _ | .lockout _ => false
  | .utility u => a.changeover.utilities[u].qualification != b.changeover.utilities[u].qualification
  | .generator g => (a.gen g).shown != (b.gen g).shown
  | .device d => a.store.devices[d].isSome && a.switching.devices[d].shown != b.switching.devices[d].shown
  | .block l => a.load.blocks[l].shown != b.load.blocks[l].shown
  | .element e => a.protection.elements[e].moved b.protection.elements[e]
  | .scheme => allSides.any fun i => (a.side i).state != (b.side i).state
  | .point p => a.lanes.points[p].kind.isSome && a.lanes.points[p].shown != b.lanes.points[p].shown

/-- The changed marks of the records whose live fields have moved since `before`. -/
def markMoved (before s : Parts) : Parts :=
  allRecords.foldl (fun s n => s.markIf (liveMoved before s n) n.position) s

/-- Every block at its values for LEAVE SERVICE, in CONFIGURING. The Store's records, the derived indices, the lockouts,
the patterns, the authority, the intertrips, the port and the Station values are kept. -/
def outOfService (s : Parts) : Parts :=
  { leaveLanes s with
    store := { s.store with scrubTimer := .stopped }
    switching := { s.switching with devices := s.switching.devices.map fun d => DeviceLive.initial d.pattern }
    topology := { TopologyMap.initial with index := s.topology.index }
    protection := ProtectionUnit.initial s.protection.guards
    changeover := ChangeoverUnit.initial
    paralleling := ParallelingUnit.initial
    load := LoadUnit.initial
    service := { s.service with inService := false, hold := HoldSet.empty } }

/-- LEAVE SERVICE carried out, with the changed marks of what it moves. -/
def leaveParts (s : Parts) : Parts := markMoved s (outOfService s)

/-- LEAVE SERVICE (R170). -/
def leaveRequest (s : Parts) : Parts × Status :=
  if !s.service.inService then (s, .state)
  else if allDevices.any fun d => s.switching.devices[d].state.inFlight then (s, .state)
  else if s.lanes.testCount > 0 then (s, .state)
  else (leaveParts s, .ok)

/-! ## HOLD and RESUME (R172) -/

def holdRequest (s : Parts) : Parts × Status :=
  if !s.service.inService then (s, .state)
  else if s.service.hold.supervisor then (s, .already)
  else (s.addHold .supervisor, .ok)

def resumeRequest (s : Parts) : Parts × Status :=
  if !s.service.inService then (s, .state)
  else if !s.service.hold.supervisor then (s, .already)
  else (s.removeHold .supervisor, .ok)

end Sys2Proof.Machine
end

