-- ==== Sys2Proof/Machine/Port.lean ====
section
/-!
DEFINITION. The Supervisory Port (chapter 12): transactions (R173), the check and form of a request (R174), attention
(R175, R176), changed marks (R177) and the bodies of READ, READ CHANGED, READ ISLANDS and READ SUMMARY (R3, R178, R179).
-/

namespace Sys2Proof.Machine

/-! ## Live fields as pairs (R178) -/

/-- A number. -/
def item (n : Nat) : List Int := [n]

/-- A number that may be absent. -/
def optItem (n : Option Nat) : List Int := n.toList.map Int.ofNat

/-- A flag: 1 or 0. -/
def flagItem (b : Bool) : List Int := [if b then 1 else 0]

/-- An enumerated value. -/
def codeItem {α : Type} [DecidableEq α] (xs : List α) (x : α) : List Int := item (codeIn xs x)

/-- An enumerated value that may be absent. -/
def optCode {α : Type} [DecidableEq α] (xs : List α) (x : Option α) : List Int := optItem (x.map (codeIn xs))

/-- A timer: the time remaining, or −1. -/
def Timer.item : Timer → List Int
  | .stopped => [-1]
  | .running left => [left]

/-- A timer that keeps its expiry: the time remaining, −1 or −2. -/
def LatchedTimer.item : LatchedTimer → List Int
  | .stopped => [-1]
  | .running left => [left]
  | .ended => [-2]

/-- The qualification timer item. -/
def QualificationTimer.number : QualificationTimer → Nat
  | .stopped => 0
  | .loss false _ => 1
  | .loss true _ => 2
  | .back false _ => 3
  | .back true _ => 4

/-- The qualification time remaining. -/
def QualificationTimer.left : QualificationTimer → List Int
  | .stopped => [-1]
  | .loss _ n => [n]
  | .back _ n => [n]

/-- An observed pattern as bits. -/
def patternMask (p : Pattern) : Nat := maskOf [p.openContact, p.closedContact, p.ready, p.tripHealthy]

/-- The live items of a device (R7, R20). -/
def deviceItems (x : DeviceLive) : List (List Int) :=
  [codeItem DeviceState.all x.state, item (patternMask x.pattern), optCode Requester.all x.owner, optCode Requester.all x.origin,
   optItem (x.lastRefusal.map fun r => r.reason.number),
   optItem ((x.lastRefusal.bind Refused.sub).map TopologySub.number),
   optCode FailureKind.all x.failure, flagItem x.discrepancy]

/-- The live items of a utility (R5, R118). -/
def utilityItems (x : UtilityLive) : List (List Int) :=
  [codeItem Qualification.all x.qualification, optCode Qualification.underlyingAll x.underlying, item x.timer.number,
   x.timer.left]

/-- Whether a generator stands in some arbiter's queue. -/
def Parts.isQueuedAnywhere (s : Parts) (g : GeneratorId) : Bool := allBuses.any fun b => isQueued s b g

/-- Whether a generator holds some grant. -/
def Parts.holdsAnyGrant (s : Parts) (g : GeneratorId) : Bool := allBuses.any fun b => holdsGrantOf s b g

/-- The live items of a generator (R6, R137, R154). -/
def generatorItems (s : Parts) (g : GeneratorId) : List (List Int) :=
  let x := s.gen g
  [codeItem GeneratorState.all x.state, optItem x.sequence, item x.target, [x.frequencyNudge], [x.voltageNudge],
   optCode GeneratorFailure.all x.failure, codeItem RunCommand.all x.run, codeItem HostMark.all x.mark,
   x.startTimer.item, x.syncTimer.item, x.unloadTimer.item, x.cooldownTimer.item, flagItem (s.isQueuedAnywhere g),
   flagItem (s.holdsAnyGrant g)]

/-- The live items of a point (R5, R78). -/
def pointItems (x : PointLive) : List (List Int) :=
  [codeItem PointStatus.all x.status, item x.values.ia, item x.values.ib, item x.values.ic, item x.values.ir,
   item x.values.v, [x.values.f], [x.values.phi], [x.values.p], item x.delta, item x.missed]

/-- The place of a block in the Restore Queue, from the head. -/
def queuePlace (queue : List BlockId) (l : BlockId) : Option Nat :=
  if queue.contains l then some (queue.idxOf l) else none

/-- The requester a restorer is (notes/assumptions/12.md). -/
def Restorer.requester : Restorer → Requester
  | .loadUnit => .loadUnit
  | .supervisor => .supervisor

/-- The live items of a load block (R8, R155). -/
def blockItems (queue : List BlockId) (l : BlockId) (x : BlockLive) : List (List Int) :=
  [codeItem BlockState.all x.state, optItem x.demand, optItem x.servedSequence, optItem x.shedSequence,
   optItem (x.island.map Fin.val), optCode Requester.all (x.restorer.map Restorer.requester), optItem (queuePlace queue l)]

/-- The live items of an element (R8, R85). -/
def elementItems (x : ElementLive) : List (List Int) :=
  [codeItem ElementState.all x.state, item x.accumulator, x.zone.item, x.blind.item, flagItem x.target]

/-- The six items of a side (R9, R125). -/
def sideItems (x : SideLive) : List (List Int) :=
  [codeItem SideState.all x.state, optCode Step.all x.step, optItem (x.feeding.map Fin.val), x.dead.item, x.sync.item,
   flagItem x.supply]

/-- An overlap timer (R178). -/
def OverlapTimer.number (t : OverlapTimer) : Int := (t.island.val * 65536 + t.elapsed : Nat)

/-- The live items of the Intake Scheme (R9; the claim holder as notes/assumptions/12.md). -/
def schemeItems (c : ChangeoverUnit) : List (List Int) :=
  [codeItem SchemeMode.all c.mode] ++ sideItems c.sides[0] ++ sideItems c.sides[1] ++
  [optItem (c.claim.map Fin.val),
   (sortBy (fun (a b : OverlapTimer) => a.island < b.island) c.overlaps).map OverlapTimer.number]

/-- The live items of a record, in the order of its list. -/
def liveItems (s : Parts) : RecordName → List (List Int)
  | .station | .bus _ | .lockout _ => []
  | .utility u => utilityItems s.changeover.utilities[u]
  | .generator g => generatorItems s g
  | .device d => deviceItems s.switching.devices[d]
  | .block l => blockItems s.load.queue l s.load.blocks[l]
  | .element e => elementItems s.protection.elements[e]
  | .scheme => schemeItems s.changeover
  | .point p => pointItems s.lanes.points[p]

/-- Items as pairs, numbered from 128. -/
def livePairs (items : List (List Int)) : List FieldPair :=
  (items.zipIdx).flatMap fun (vs, n) => vs.map fun v => ⟨128 + n, v⟩

/-! ## READ (R3, R10, R177, R179) -/

/-- The kind index of a record, 0 for the Station and the Intake Scheme. -/
def RecordName.index : RecordName → Nat
  | .station => 0
  | .bus b => b.val
  | .utility u => u.val
  | .generator g => g.val
  | .device d => d.val
  | .block l => l.val
  | .element e => e.val
  | .lockout k => k.val
  | .scheme => 0
  | .point p => p.val

/-- The body of an answer to READ. -/
def readBody (s : Parts) (n : RecordName) : List Byte :=
  let head := [byte (codeIn RecordKind.all n.kind), byte n.index]
  match s.record n with
  | none => head ++ [0, 255]
  | some h =>
    head ++ [if h.retired then 2 else 1, byte (codeIn Integrity.all h.integrity)] ++
      (settingsPairs h.settings ++ livePairs (liveItems s n)).flatMap pairBytes

/-- A CORRECTED record becomes SOUND at a READ (R10). -/
def soundAgain (n : RecordName) (s : Parts) : Parts :=
  match s.record n with
  | some h => if h.integrity = .corrected then s.putRecord n { h with integrity := .sound } else s
  | none => s

/-- The changed mark of a record cleared (R177). -/
def Parts.unmark (s : Parts) (i : StoreIndex) : Parts := { s with attention.changed := s.attention.changed.set i false }

/-- READ. -/
def readRequest (kind index : Nat) (s : Parts) : Parts × Status × List Byte :=
  match RecordKind.all[kind]? with
  | none => (s, .badKind, [])
  | some k => match recordNamed k index with
    | none => (s, .badIndex, [])
    | some n => ((soundAgain n s).unmark n.position, .ok, readBody s n)

/-! ## READ CHANGED, READ ISLANDS, READ SUMMARY (R60, R176, R177, R179) -/

/-- READ CHANGED. -/
def readChangedRequest (kind : Nat) (s : Parts) : Status × List Byte :=
  match RecordKind.all[kind]? with
  | none => (.badKind, [])
  | some k =>
    (.ok, byte kind ::
      (allRecords.filter fun n => n.kind == k && s.attention.changed[n.position]).map fun n => byte n.index)

/-- One island of READ ISLANDS. -/
def islandBody (s : Parts) (i : Island) : List Byte :=
  [byte i.id.val, byte i.members.length] ++
  i.members.flatMap (fun b => [byte b.val, byte (codeIn ThresholdClass.all s.topology.classes[b])]) ++
  [byte i.utilities.length] ++
  i.utilities.flatMap (fun u => [byte u.val, byte (codeIn Qualification.all s.changeover.utilities[u].qualification)]) ++
  [byte i.generators.length] ++
  i.generators.flatMap (fun g => [byte g.val, byte (codeIn GeneratorState.all (s.gen g).state)]) ++
  [byte i.blocks.length] ++ i.blocks.map (fun l => byte l.val) ++
  [byte (codeIn Energisation.all i.energisation), byte (codeIn IslandKind.all i.kind)]

/-- The body of READ ISLANDS. -/
def islandsBody (s : Parts) : List Byte :=
  [byte (if s.service.hold.busDamaged then 1 else 0), byte s.topology.islands.length] ++
  s.topology.islands.flatMap (islandBody s)

/-- One intertrip line of READ SUMMARY. -/
def intertripBody : Option DeviceId → List Byte
  | none => [0, 255]
  | some d => [1, byte d.val]

/-- One pending entry of READ SUMMARY. -/
def pendingBody (e : PendingEntry) : List Byte :=
  [byte e.device.val, byte (codeIn LockoutKind.all e.kind), byte e.origin.number, byte e.reason]

/-- The UNPROTECTED set as a 48-bit number, bit n for Dn. -/
def unprotectedBody (v : Vector Bool 48) : List Byte :=
  let n := maskOf v.toList
  [byte (n / 1099511627776), byte (n / 4294967296), byte (n / 16777216), byte (n / 65536), byte (n / 256), byte n]

/-- One lane of READ SUMMARY. -/
def laneBody (x : LaneLive) : List Byte :=
  [byte (codeIn LaneState.all x.state)] ++ bytes16 (x.lastSequence.elim 0xFFFF BitVec.toNat) ++
  bytes16 x.counts.character ++ bytes16 x.counts.kind ++ bytes16 x.counts.check ++ bytes16 x.counts.truncated ++
  bytes16 x.counts.duplicate ++ bytes16 x.counts.old ++ bytes16 x.counts.breaks ++ bytes16 x.counts.accepted

/-- The last breaker-failure record of READ SUMMARY. -/
def lastFailureBody : Option BreakerFailureRecord → List Byte
  | none => [0]
  | some r =>
    [1, byte r.device.val, byte (codeIn Requester.all r.origin), byte r.backup.length] ++
    r.backup.map (fun d => byte d.val) ++ [byte (codeIn Asked.all r.asked)]

/-- The body of READ SUMMARY. -/
def summaryBody (s : Parts) : List Byte :=
  [byte (if s.service.inService then 1 else 0), byte s.service.hold.mask] ++ bytes16 s.attention.flags.mask ++
  [byte (match s.switching.authority with | .localControl => 0 | .remoteControl => 1)] ++
  intertripBody s.switching.intertrips[0] ++ intertripBody s.switching.intertrips[1] ++
  [byte s.lockouts.pending.length] ++ s.lockouts.pending.flatMap pendingBody ++
  unprotectedBody s.protection.unprotected ++ s.lanes.lanes.toList.flatMap laneBody ++
  lastFailureBody s.protection.lastFailure ++
  [byte s.load.queue.length] ++ s.load.queue.map fun l => byte l.val

/-! ## ACKNOWLEDGE (R175) and requests that spell none (R174, R178) -/

/-- ACKNOWLEDGE: bits 0 to 8 name flags. -/
def acknowledgeRequest (flags : Nat) (s : Parts) : Parts × Status :=
  if flags = 0 ∨ flags ≥ 512 then (s, .badRequest)
  else ({ s with attention.flags := s.attention.flags.lower flags }, .ok)

/-- The status of a request that fails the check or the form (R174 steps 1 and 2). -/
def unknownStatus (frame : List Byte) : Status := if crcHolds frame then .badRequest else .badCheck

/-! ## Transactions (R173) -/

/-- What a transaction begun now shifts out. -/
def State.presented (s : State) : Presented :=
  if s.prdy then .response s.port.collision s.port.incomplete s.attn else .busy

/-- An assertion of SSEL; within a transaction it is none. -/
def PortBuffers.select (x : PortBuffers) (shown : Presented) : PortBuffers :=
  if x.transaction.isSome then x else { x with transaction := some shown }

/-- The release of SSEL, judged by the request bytes shifted in. -/
def PortBuffers.release (x : PortBuffers) (shown : Presented) (bytes : List Byte) : PortBuffers :=
  let x := { x with transaction := none }
  match shown, declaredLength bytes with
  | .busy, _ => { x with collision := true }
  | .response c i _, some n =>
    if n ≤ bytes.length then
      { x with response := none, collision := x.collision && !c, incomplete := x.incomplete && !i,
               request := some (bytes.take n) }
    else { x with incomplete := true }
  | .response _ _ _, none => { x with incomplete := true }

/-! ## Events, and the taking of a request (R174) -/

/-- An answer prepared as the response; PRDY rises. Every taking empties the request buffer, that of a command from the queue
too, whatever request waits there (notes/assumptions/7.md). -/
def PortBuffers.respond (x : PortBuffers) (code : Nat) (t : Byte) (a : Status) (body : List Byte) : PortBuffers :=
  { x with response := some { code := byte code, tag := t, status := a, body := body }, request := none }

/-- An event at the blocks, brought to its end. In reset the part takes nothing (R167). -/
def event (f : Parts → Parts) (s : State) : Effect :=
  if s.inReset then .next s else .next { s with parts := settle (f s.parts) }

/-- The taking of a request of a code and tag: its owner acts and answers with a status and a body. -/
def taking (code : Nat) (t : Byte) (owner : Parts → Parts × Status × List Byte) (s : State) : Effect :=
  if s.inReset then .next s
  else .next { s with parts := settle (owner s.parts).1,
                      port := s.port.respond code t (owner s.parts).2.1 (owner s.parts).2.2 }

/-- An owner that answers with a status alone. -/
def bare (owner : Parts → Parts × Status) (s : Parts) : Parts × Status × List Byte := ((owner s).1, (owner s).2, [])

/-- An owner that may answer as the Switching Unit did. -/
def replying (owner : Parts → Parts × Reply) (s : Parts) : Parts × Status × List Byte :=
  ((owner s).1, (owner s).2.code, (owner s).2.body)

/-- The taking of a request that sends no notice. -/
def inquiry (code : Nat) (t : Byte) (owner : Parts → Parts × Status × List Byte) (s : State) : Effect :=
  if s.inReset then .next s
  else .next { s with parts := (owner s.parts).1,
                      port := s.port.respond code t (owner s.parts).2.1 (owner s.parts).2.2 }

end Sys2Proof.Machine
end

