-- ==== Sys2Proof/Machine/SupplyCommands.lean ====
section
/-!
DEFINITION. The supply, the reset line and the input lines: POWER_ON, RESET_ASSERT, RESET_RELEASE, DEVICE_INPUT_CHANGE and
AUTHORITY_CHANGE.
-/

namespace Sys2Proof.Machine

/-- POWER_ON (R167): every block at its power-on values; the Station values in service are absent and the frequency
value of R78 is 50000. The reset line is taken as high, so that power-on ends a reset too (notes/assumptions/47.md). -/
def execPowerOn (levels : InputLevels) (s : State) : Effect :=
  .next (State.started levels none 50000 s.parts.freeReads s.pending)

/-- RESET_ASSERT (R167). Every output line is released and nothing more is taken. -/
def execResetAssert (s : State) : Effect := .next { s with inReset := true }

/-- RESET_RELEASE (R167): every block at its values for the reset line. The frequency value of R78 stays as the last
entry took it (notes/assumptions/8.md). A release of a line that is not low is none. -/
def execResetRelease (levels : InputLevels) (s : State) : Effect :=
  if s.inReset then
    .next (State.started levels s.parts.service.station (entryFrequency s.parts.service.station) s.parts.freeReads
      s.pending)
  else .next s

/-- DEVICE_INPUT_CHANGE (R17). -/
def execDeviceInputChange (d : DeviceId) (input : DeviceInput) (level : Bool) (s : State) : Effect :=
  event (takeInput d input level) s

/-- AUTHORITY_CHANGE (R17). -/
def execAuthorityChange (a : Authority) (s : State) : Effect :=
  if s.inReset then .next s else .next { s with parts.switching.authority := a }

end Sys2Proof.Machine
end

