-- ==== Sys2Proof/Machine/PortCommands.lean ====
section
/-!
DEFINITION. The commands of the Supervisory Port itself: SSEL_ASSERTION, SPI_TRANSACTION, READ, READ_CHANGED, READ_ISLANDS,
READ_SUMMARY, ACKNOWLEDGE and UNKNOWN_REQUEST.
-/

namespace Sys2Proof.Machine

/-- SSEL_ASSERTION (R173). -/
def execSselAssertion (s : State) : Effect :=
  if s.inReset then .next s else .next { s with port := s.port.select s.presented }

/-- SPI_TRANSACTION (R173). -/
def execSpiTransaction (bytes : List Byte) (s : State) : Effect :=
  if s.inReset then .next s
  else .next { s with port := s.port.release (s.port.transaction.getD s.presented) bytes }

/-- READ (R3, R177). -/
def execRead (t : Byte) (kind index : Nat) (s : State) : Effect := inquiry 0x01 t (readRequest kind index) s

/-- READ_CHANGED (R177). -/
def execReadChanged (t : Byte) (kind : Nat) (s : State) : Effect :=
  inquiry 0x02 t (fun s => (s, readChangedRequest kind s)) s

/-- READ_ISLANDS (R60). -/
def execReadIslands (t : Byte) (s : State) : Effect := inquiry 0x03 t (fun s => (s, .ok, islandsBody s)) s

/-- READ_SUMMARY (R176). -/
def execReadSummary (t : Byte) (s : State) : Effect := inquiry 0x04 t (fun s => (s, .ok, summaryBody s)) s

/-- ACKNOWLEDGE (R175). -/
def execAcknowledge (t : Byte) (flags : Nat) (s : State) : Effect := inquiry 0x05 t (bare (acknowledgeRequest flags)) s

/-- UNKNOWN_REQUEST (R174): answered BAD_CHECK or BAD_REQUEST with the code and tag of the frame. -/
def execUnknownRequest (frame : List Byte) (s : State) : Effect :=
  inquiry (frame.getD 0 0).toNat (frame.getD 1 0) (fun s => (s, unknownStatus frame, [])) s

end Sys2Proof.Machine
end

