-- ==== Sys2Proof/Machine/StoreCommands.lean ====
section
/-!
DEFINITION. The commands of the Record Store: LOAD, AMEND, RETIRE and SCRUB_STEP.
-/

namespace Sys2Proof.Machine

/-- LOAD (R13). -/
def execLoad (t : Byte) (kind index : Nat) (ps : List FieldPair) (s : State) : Effect :=
  taking 0x10 t (bare (loadRequest kind index ps)) s

/-- AMEND (R14). -/
def execAmend (t : Byte) (kind index : Nat) (ps : List FieldPair) (s : State) : Effect :=
  taking 0x11 t (bare (amendRequest kind index ps)) s

/-- RETIRE (R15). -/
def execRetire (t : Byte) (kind index : Nat) (s : State) : Effect := taking 0x12 t (bare (retireRequest kind index)) s

/-- SCRUB_STEP (R12). -/
def execScrubStep (us : List Upset) (s : State) : Effect := event (scrubStep us) s

end Sys2Proof.Machine
end

