-- ==== Sys2Proof/Machine/SwitchingCommands.lean ====
section
/-!
DEFINITION. The commands of the Switching Unit: OPERATE, ACKNOWLEDGE_FAILURE, RELEASE_INTERTRIP and the expiries of its timers.
-/

namespace Sys2Proof.Machine

/-- The host's OPERATE (R23). -/
def operateRequest (device : Nat) (a : Action) (s : Parts) : Parts × Reply :=
  match index? 48 device with
  | none => (s, .status .badIndex)
  | some d =>
    if !s.service.inService then (s, .status .state)
    else
      let (s, x) := match a with
        | .close => closeRequest d .supervisor ⟨false, false⟩ s
        | .open => openRequest d .supervisor s
      (s, .answer x)

/-- OPERATE (R23). -/
def execOperate (t : Byte) (device : Nat) (a : Action) (s : State) : Effect :=
  taking 0x20 t (replying (operateRequest device a)) s

/-- ACKNOWLEDGE FAILURE of the device an index names (R42). -/
def acknowledgeFailureRequest (device : Nat) (s : Parts) : Parts × Status :=
  match index? 48 device with
  | none => (s, .badIndex)
  | some d => acknowledgeDevice d s

/-- ACKNOWLEDGE_FAILURE (R42). -/
def execAcknowledgeFailure (t : Byte) (device : Nat) (s : State) : Effect :=
  taking 0x22 t (bare (acknowledgeFailureRequest device)) s

/-- RELEASE INTERTRIP of the side an index names (R45). -/
def releaseIntertripRequest (side : Nat) (s : Parts) : Parts × Status :=
  match index? 2 side with
  | none => (s, .badIndex)
  | some i => releaseIntertripOf i s

/-- RELEASE_INTERTRIP (R45). -/
def execReleaseIntertrip (t : Byte) (side : Nat) (s : State) : Effect :=
  taking 0x23 t (bare (releaseIntertripRequest side)) s

/-- CLOSE_LIMIT_EXPIRY (R34). -/
def execCloseLimitExpiry (d : DeviceId) (s : State) : Effect := event (closeLimitExpires d) s

/-- OPEN_TIMER_EXPIRY (R35). -/
def execOpenTimerExpiry (d : DeviceId) (s : State) : Effect := event (openTimerExpires d) s

/-- PERSISTENCE_TIMER_EXPIRY (R37). -/
def execPersistenceTimerExpiry (d : DeviceId) (s : State) : Effect := event (persistenceExpires d) s

end Sys2Proof.Machine
end

