-- ==== Sys2Proof/Machine/LockoutCommands.lean ====
section
/-!
DEFINITION. The commands of the Lockout Table: PLACE_LOCKOUT, ADD_DEVICES, DROP_DEVICES and RELEASE_LOCKOUT.
-/

namespace Sys2Proof.Machine

/-- PLACE_LOCKOUT (R62). -/
def execPlaceLockout (t : Byte) (reason : Nat) (ds : List Nat) (s : State) : Effect :=
  taking 0x30 t (placeRequest reason ds) s

/-- ADD_DEVICES (R68). -/
def execAddDevices (t : Byte) (slot : Nat) (ds : List Nat) (s : State) : Effect :=
  taking 0x31 t (bare (addRequest slot ds)) s

/-- DROP_DEVICES (R68). -/
def execDropDevices (t : Byte) (slot : Nat) (ds : List Nat) (s : State) : Effect :=
  taking 0x32 t (bare (dropRequest slot ds)) s

/-- RELEASE_LOCKOUT (R69). -/
def execReleaseLockout (t : Byte) (slot : Nat) (s : State) : Effect := taking 0x33 t (bare (releaseRequest slot)) s

end Sys2Proof.Machine
end

