-- ==== Sys2Proof/Machine/LaneCommands.lean ====
section
/-!
DEFINITION. The commands of the Lane Interface: LANE_CHARACTER, LANE_BREAK, LINE_RETURNS_TO_MARKING, SILENCE_TIMER_EXPIRY,
SETPOINT_TRANSMIT_DONE, TEST_INJECT, END_TEST and the expiries of a test.
-/

namespace Sys2Proof.Machine

/-- LANE_CHARACTER (R72, R73). -/
def execLaneCharacter (f : LaneId) (c : LaneCharacter) (s : State) : Effect := event (takeCharacter f c) s

/-- LANE_BREAK (R74). -/
def execLaneBreak (f : LaneId) (s : State) : Effect := event (takeBreak f) s

/-- LINE_RETURNS_TO_MARKING (R74). -/
def execLineReturnsToMarking (f : LaneId) (s : State) : Effect := event (lineMarks f) s

/-- SILENCE_TIMER_EXPIRY (R77). -/
def execSilenceTimerExpiry (f : LaneId) (s : State) : Effect := event (silenceExpires f) s

/-- SETPOINT_TRANSMIT_DONE (R82). -/
def execSetpointTransmitDone (f : LaneId) (s : State) : Effect := event (transmissionEnds f) s

/-- TEST_INJECT (R83). -/
def execTestInject (t : Byte) (point : Nat) (v : PointValues) (mode : TestMode) (duration : Nat) (s : State) : Effect :=
  taking 0x41 t (bare (injectRequest point v mode duration)) s

/-- END_TEST (R84). -/
def execEndTest (t : Byte) (point : Nat) (s : State) : Effect := taking 0x42 t (bare (endTestRequest point)) s

/-- TEST_INTERVAL_EXPIRY (R84). -/
def execTestIntervalExpiry (p : PointId) (s : State) : Effect := event (testIntervalExpires p) s

/-- TEST_DURATION_EXPIRY (R84). -/
def execTestDurationExpiry (p : PointId) (s : State) : Effect := event (testDurationExpires p) s

end Sys2Proof.Machine
end

