-- ==== Sys2Proof/Machine/ProtectionCommands.lean ====
section
/-!
DEFINITION. The commands of the Protection Unit: RESET_ELEMENT, BLIND_TIMER_EXPIRY and ZONE_TIMER_EXPIRY.
-/

namespace Sys2Proof.Machine

/-- RESET_ELEMENT (R104). -/
def execResetElement (t : Byte) (element : Nat) (s : State) : Effect :=
  taking 0x40 t (bare (resetElementRequest element)) s

/-- BLIND_TIMER_EXPIRY (R99). -/
def execBlindTimerExpiry (e : ElementId) (s : State) : Effect := event (blindExpires e) s

/-- ZONE_TIMER_EXPIRY (R116). -/
def execZoneTimerExpiry (e : ElementId) (s : State) : Effect := event (zoneExpires e) s

end Sys2Proof.Machine
end

