-- ==== Sys2Proof/Machine/ChangeoverCommands.lean ====
section
/-!
DEFINITION. The commands of the Changeover Unit: SCHEME_MODE, RESET_SIDE and the expiries of its timers.
-/

namespace Sys2Proof.Machine

/-- SCHEME_MODE (R124). -/
def execSchemeMode (t : Byte) (m : SchemeMode) (s : State) : Effect := taking 0x50 t (bare (schemeModeRequest m)) s

/-- RESET_SIDE (R134). -/
def execResetSide (t : Byte) (side : Nat) (s : State) : Effect := taking 0x51 t (bare (resetSideRequest side)) s

/-- LOSS_TIMER_EXPIRY (R120). -/
def execLossTimerExpiry (u : UtilityId) (s : State) : Effect := event (lossExpires u) s

/-- RETURN_TIMER_EXPIRY (R120). -/
def execReturnTimerExpiry (u : UtilityId) (s : State) : Effect := event (returnExpires u) s

/-- DEAD_TIMER_EXPIRY (R127). -/
def execDeadTimerExpiry (i : SideId) (s : State) : Effect := event (deadExpires i) s

/-- RETRANSFER_SYNC_TIMER_EXPIRY (R132). -/
def execRetransferSyncTimerExpiry (i : SideId) (s : State) : Effect := event (retransferSyncExpires i) s

/-- OVERLAP_TIMER_EXPIRY (R136). -/
def execOverlapTimerExpiry (b : BusId) (s : State) : Effect := event (overlapExpires b) s

end Sys2Proof.Machine
end

