-- ==== Sys2Proof/Machine/ParallelingCommands.lean ====
section
/-!
DEFINITION. The commands of the Paralleling Unit: SYNC_CLOSE, GENERATOR_START, GENERATOR_STOP, RESET_GENERATOR and the expiries of its
timers.
-/

namespace Sys2Proof.Machine

/-- SYNC_CLOSE (R148). -/
def execSyncClose (t : Byte) (device : Nat) (s : State) : Effect := taking 0x21 t (replying (syncCloseRequest device)) s

/-- GENERATOR_START (R152). -/
def execGeneratorStart (t : Byte) (generator : Nat) (s : State) : Effect :=
  taking 0x60 t (bare (generatorRequest startJudge generator)) s

/-- GENERATOR_STOP (R152). -/
def execGeneratorStop (t : Byte) (generator : Nat) (s : State) : Effect :=
  taking 0x61 t (bare (generatorRequest stopJudge generator)) s

/-- RESET_GENERATOR (R152). -/
def execResetGenerator (t : Byte) (generator : Nat) (s : State) : Effect :=
  taking 0x62 t (bare (generatorRequest resetJudge generator)) s

/-- START_LIMIT_EXPIRY (R141). -/
def execStartLimitExpiry (g : GeneratorId) (s : State) : Effect := event (startLimitExpires g) s

/-- SYNC_LIMIT_EXPIRY (R146). -/
def execSyncLimitExpiry (g : GeneratorId) (s : State) : Effect := event (syncLimitExpires g) s

/-- HOST_TIE_SYNC_LIMIT_EXPIRY (R148). -/
def execHostTieSyncLimitExpiry (s : State) : Effect := event hostSyncExpires s

/-- UNLOAD_LIMIT_EXPIRY (R151). -/
def execUnloadLimitExpiry (g : GeneratorId) (s : State) : Effect := event (unloadLimitExpires g) s

/-- COOLDOWN_EXPIRY (R151). -/
def execCooldownExpiry (g : GeneratorId) (s : State) : Effect := event (cooldownExpires g) s

/-- ADD_TIMER_EXPIRY (R150). -/
def execAddTimerExpiry (b : BusId) (s : State) : Effect := event (addExpires b) s

/-- REMOVE_TIMER_EXPIRY (R150). -/
def execRemoveTimerExpiry (b : BusId) (s : State) : Effect := event (removeExpires b) s

end Sys2Proof.Machine
end

