-- ==== Sys2Proof/Machine/LoadCommands.lean ====
section
/-!
DEFINITION. The commands of the Load Unit: HOLD_BLOCK, RELEASE_BLOCK, SHED_BLOCK, RESTORE_BLOCK and RESTORE_TIMER_EXPIRY.
-/

namespace Sys2Proof.Machine

/-- HOLD_BLOCK (R165). -/
def execHoldBlock (t : Byte) (block : Nat) (s : State) : Effect :=
  taking 0x70 t (replying (blockRequest holdBlockJudge block)) s

/-- RELEASE_BLOCK (R165). -/
def execReleaseBlock (t : Byte) (block : Nat) (s : State) : Effect :=
  taking 0x71 t (replying (blockRequest releaseBlockJudge block)) s

/-- SHED_BLOCK (R165). -/
def execShedBlock (t : Byte) (block : Nat) (s : State) : Effect :=
  taking 0x72 t (replying (blockRequest shedBlockJudge block)) s

/-- RESTORE_BLOCK (R165). -/
def execRestoreBlock (t : Byte) (block : Nat) (s : State) : Effect :=
  taking 0x73 t (replying (blockRequest restoreBlockJudge block)) s

/-- RESTORE_TIMER_EXPIRY (R164). -/
def execRestoreTimerExpiry (s : State) : Effect := event restoreExpires s

end Sys2Proof.Machine
end

