-- ==== Sys2Proof/Machine/ServiceCommands.lean ====
section
/-!
DEFINITION. The commands of Service Control: HOLD, RESUME, ENTER_SERVICE and LEAVE_SERVICE.
-/

namespace Sys2Proof.Machine

/-- HOLD (R172). -/
def execHold (t : Byte) (s : State) : Effect := taking 0x80 t (bare holdRequest) s

/-- RESUME (R172). -/
def execResume (t : Byte) (s : State) : Effect := taking 0x81 t (bare resumeRequest) s

/-- ENTER_SERVICE (R168, R169). -/
def execEnterService (t : Byte) (s : State) : Effect := taking 0x82 t enterRequest s

/-- LEAVE_SERVICE (R170). -/
def execLeaveService (t : Byte) (s : State) : Effect := taking 0x83 t (bare leaveRequest) s

end Sys2Proof.Machine
end

