-- ==== Sys2Proof/Machine/Dispatch.lean ====
section
/-!
DEFINITION. One arm per command: the meaning that the command has on everything but the queue.
-/

namespace Sys2Proof.Machine

def exec (i : Instr) (s : State) : Host.Outcome State Fault Refusal :=
  match i with
  | .powerOn levels => Sys2Proof.Machine.execPowerOn levels s
  | .resetAssert => Sys2Proof.Machine.execResetAssert s
  | .resetRelease levels => Sys2Proof.Machine.execResetRelease levels s
  | .deviceInputChange device input level => Sys2Proof.Machine.execDeviceInputChange device input level s
  | .authorityChange authority => Sys2Proof.Machine.execAuthorityChange authority s
  | .spiTransaction bytes => Sys2Proof.Machine.execSpiTransaction bytes s
  | .read tag kind index => Sys2Proof.Machine.execRead tag kind index s
  | .readChanged tag kind => Sys2Proof.Machine.execReadChanged tag kind s
  | .readIslands tag => Sys2Proof.Machine.execReadIslands tag s
  | .readSummary tag => Sys2Proof.Machine.execReadSummary tag s
  | .acknowledge tag flags => Sys2Proof.Machine.execAcknowledge tag flags s
  | .load tag kind index pairs => Sys2Proof.Machine.execLoad tag kind index pairs s
  | .amend tag kind index pairs => Sys2Proof.Machine.execAmend tag kind index pairs s
  | .retire tag kind index => Sys2Proof.Machine.execRetire tag kind index s
  | .operate tag device action => Sys2Proof.Machine.execOperate tag device action s
  | .syncClose tag device => Sys2Proof.Machine.execSyncClose tag device s
  | .acknowledgeFailure tag device => Sys2Proof.Machine.execAcknowledgeFailure tag device s
  | .releaseIntertrip tag side => Sys2Proof.Machine.execReleaseIntertrip tag side s
  | .placeLockout tag reason devices => Sys2Proof.Machine.execPlaceLockout tag reason devices s
  | .addDevices tag slot devices => Sys2Proof.Machine.execAddDevices tag slot devices s
  | .dropDevices tag slot devices => Sys2Proof.Machine.execDropDevices tag slot devices s
  | .releaseLockout tag slot => Sys2Proof.Machine.execReleaseLockout tag slot s
  | .resetElement tag element => Sys2Proof.Machine.execResetElement tag element s
  | .testInject tag point values mode duration => Sys2Proof.Machine.execTestInject tag point values mode duration s
  | .endTest tag point => Sys2Proof.Machine.execEndTest tag point s
  | .schemeMode tag mode => Sys2Proof.Machine.execSchemeMode tag mode s
  | .resetSide tag side => Sys2Proof.Machine.execResetSide tag side s
  | .generatorStart tag generator => Sys2Proof.Machine.execGeneratorStart tag generator s
  | .generatorStop tag generator => Sys2Proof.Machine.execGeneratorStop tag generator s
  | .resetGenerator tag generator => Sys2Proof.Machine.execResetGenerator tag generator s
  | .holdBlock tag block => Sys2Proof.Machine.execHoldBlock tag block s
  | .releaseBlock tag block => Sys2Proof.Machine.execReleaseBlock tag block s
  | .shedBlock tag block => Sys2Proof.Machine.execShedBlock tag block s
  | .restoreBlock tag block => Sys2Proof.Machine.execRestoreBlock tag block s
  | .hold tag => Sys2Proof.Machine.execHold tag s
  | .resume tag => Sys2Proof.Machine.execResume tag s
  | .enterService tag => Sys2Proof.Machine.execEnterService tag s
  | .leaveService tag => Sys2Proof.Machine.execLeaveService tag s
  | .unknownRequest frame => Sys2Proof.Machine.execUnknownRequest frame s
  | .laneCharacter lane character => Sys2Proof.Machine.execLaneCharacter lane character s
  | .laneBreak lane => Sys2Proof.Machine.execLaneBreak lane s
  | .silenceTimerExpiry lane => Sys2Proof.Machine.execSilenceTimerExpiry lane s
  | .setpointTransmitDone lane => Sys2Proof.Machine.execSetpointTransmitDone lane s
  | .testIntervalExpiry point => Sys2Proof.Machine.execTestIntervalExpiry point s
  | .testDurationExpiry point => Sys2Proof.Machine.execTestDurationExpiry point s
  | .scrubStep upsets => Sys2Proof.Machine.execScrubStep upsets s
  | .closeLimitExpiry device => Sys2Proof.Machine.execCloseLimitExpiry device s
  | .openTimerExpiry device => Sys2Proof.Machine.execOpenTimerExpiry device s
  | .persistenceTimerExpiry device => Sys2Proof.Machine.execPersistenceTimerExpiry device s
  | .blindTimerExpiry element => Sys2Proof.Machine.execBlindTimerExpiry element s
  | .zoneTimerExpiry element => Sys2Proof.Machine.execZoneTimerExpiry element s
  | .lossTimerExpiry utility => Sys2Proof.Machine.execLossTimerExpiry utility s
  | .returnTimerExpiry utility => Sys2Proof.Machine.execReturnTimerExpiry utility s
  | .deadTimerExpiry side => Sys2Proof.Machine.execDeadTimerExpiry side s
  | .retransferSyncTimerExpiry side => Sys2Proof.Machine.execRetransferSyncTimerExpiry side s
  | .overlapTimerExpiry island => Sys2Proof.Machine.execOverlapTimerExpiry island s
  | .startLimitExpiry generator => Sys2Proof.Machine.execStartLimitExpiry generator s
  | .syncLimitExpiry generator => Sys2Proof.Machine.execSyncLimitExpiry generator s
  | .hostTieSyncLimitExpiry => Sys2Proof.Machine.execHostTieSyncLimitExpiry s
  | .unloadLimitExpiry generator => Sys2Proof.Machine.execUnloadLimitExpiry generator s
  | .cooldownExpiry generator => Sys2Proof.Machine.execCooldownExpiry generator s
  | .addTimerExpiry island => Sys2Proof.Machine.execAddTimerExpiry island s
  | .removeTimerExpiry island => Sys2Proof.Machine.execRemoveTimerExpiry island s
  | .restoreTimerExpiry => Sys2Proof.Machine.execRestoreTimerExpiry s
  | .sselAssertion => Sys2Proof.Machine.execSselAssertion s
  | .lineReturnsToMarking lane => Sys2Proof.Machine.execLineReturnsToMarking lane s

end Sys2Proof.Machine
end

