-- ==== Sys2Proof/Machine/Idle.lean ====
section
/-!
DEFINITION. What happens with no command waiting: the taking of a request that stands in the port's request buffer
(notes/assumptions/7.md), and otherwise the passing of one ms (notes/assumptions/5.md).
-/

namespace Sys2Proof.Machine

/-- What a step does on an empty queue. In reset nothing happens. -/
def idle (s : State) : Effect :=
  if s.inReset then .next s
  else match s.port.request with
    | some frame => exec (requestOf frame) s
    | none => .next { s with parts := s.parts.elapse }

end Sys2Proof.Machine
end

