-- ==== Sys2Proof/Machine/Step.lean ====
section
/-!
DEFINITION. One step: the command at the front of the queue, and with none what the part does by itself.
-/

namespace Sys2Proof.Machine

/-- One step of the part. -/
def step (s : State) : Host.Outcome State Fault Refusal :=
  match s.pending with
  | i :: rest => exec i { s with pending := rest }
  | [] => idle s

/-- The state with the command that a word spells put at the front of the queue; the state itself where it spells none. -/
def State.withFetchWord (s : State) (nbits w : Nat) : State :=
  match decodeTableWord nbits w with
  | some i => { s with pending := i :: s.pending }
  | none => s

end Sys2Proof.Machine
end

