-- ==== Sys2Proof/WellFormed.lean ====
section
/-!
DEFINITION. Which commands can be sent: every operand of a host request fits the bytes that carry it (R178, R179), an
UNKNOWN_REQUEST carries a frame that spells no request (R174), a character starts with a spacing bit (R72), and an upset
keeps its position's kind (R10).
-/

namespace Sys2Proof

open Sys2Proof.Machine

/-- A number that one byte carries. -/
def fitsByte (n : Nat) : Bool := n < 256

/-- A number that two bytes carry. -/
def fitsWord (n : Nat) : Bool := n < 65536

/-- A signed number that two bytes carry. -/
def fitsSigned16 (v : Int) : Bool := -32768 ≤ v && v ≤ 32767

/-- A signed number that four bytes carry. -/
def fitsSigned32 (v : Int) : Bool := -2147483648 ≤ v && v ≤ 2147483647

/-- A pair that its five bytes carry (R178). -/
def FieldPair.fits (p : FieldPair) : Bool := fitsByte p.field && fitsSigned32 p.value

/-- A list of pairs that a body carries after its kind and index. -/
def pairsFit (ps : List FieldPair) : Bool := ps.all FieldPair.fits && 2 + 5 * ps.length ≤ Config.maximumBody

/-- A list of device bytes that a body carries after n bytes. -/
def devicesFit (n : Nat) (ds : List Nat) : Bool := ds.all fitsByte && n + ds.length ≤ Config.maximumBody

/-- Test values that their fields carry (R179). -/
def testValuesFit (v : PointValues) : Bool :=
  fitsWord v.ia && fitsWord v.ib && fitsWord v.ic && fitsWord v.ir && fitsWord v.v && fitsSigned32 v.f &&
    fitsSigned16 v.phi && fitsSigned32 v.p

/-- A start bit is spacing in at least two of its samples (R72). -/
def startsSpacing (c : LaneCharacter) : Bool :=
  !((c.start.first && c.start.second) || (c.start.first && c.start.third) || (c.start.second && c.start.third))

/-- An upset leaves settings of the kind of its position. -/
def Upset.fits (u : Upset) : Bool := kindOf u.found == (recordAt u.position).kind

/-- A command that can be sent. -/
def Instr.wellFormed : Instr → Bool
  | .read _ kind index => fitsByte kind && fitsByte index
  | .readChanged _ kind => fitsByte kind
  | .acknowledge _ flags => fitsWord flags
  | .load _ kind index pairs => fitsByte kind && fitsByte index && pairsFit pairs
  | .amend _ kind index pairs => fitsByte kind && fitsByte index && pairsFit pairs
  | .retire _ kind index => fitsByte kind && fitsByte index
  | .operate _ device _ => fitsByte device
  | .syncClose _ device => fitsByte device
  | .acknowledgeFailure _ device => fitsByte device
  | .releaseIntertrip _ side => fitsByte side
  | .placeLockout _ reason devices => fitsWord reason && devicesFit 2 devices
  | .addDevices _ slot devices => fitsByte slot && devicesFit 1 devices
  | .dropDevices _ slot devices => fitsByte slot && devicesFit 1 devices
  | .releaseLockout _ slot => fitsByte slot
  | .resetElement _ element => fitsByte element
  | .testInject _ point values _ duration => fitsByte point && testValuesFit values && fitsWord duration
  | .endTest _ point => fitsByte point
  | .resetSide _ side => fitsByte side
  | .generatorStart _ generator => fitsByte generator
  | .generatorStop _ generator => fitsByte generator
  | .resetGenerator _ generator => fitsByte generator
  | .holdBlock _ block => fitsByte block
  | .releaseBlock _ block => fitsByte block
  | .shedBlock _ block => fitsByte block
  | .restoreBlock _ block => fitsByte block
  | .unknownRequest frame => requestOf frame == .unknownRequest frame && declaredLength frame == some frame.length
  | .laneCharacter _ character => startsSpacing character
  | .scrubStep upsets => upsets.all Upset.fits
  | _ => true

end Sys2Proof
end

