-- ==== Sys2Proof/Safety.lean ====
section
/-!
DEFINITION. The conditions that statements about the part are made under, the states they speak of, and the invariants of
the port and of the blocks.
-/

namespace Sys2Proof.Machine

/-- No notice waits to be taken and no headroom notice is due: how an event leaves the blocks, unless it has sent more
notices than it may hand round (notes/assumptions/2.md). -/
def Parts.calm (s : Parts) : Prop := s.notices = [] ∧ s.load.due = false

/-- RSTN is high and the blocks are between events. -/
def State.live (s : State) : Prop := s.inReset = false ∧ s.parts.calm

/-- A record that a check finds VALID (R10). -/
def Held.valid {α : Type} (h : Held α) : Prop := h.integrity ≠ .damaged ∧ h.settings = h.code.covers

/-- The state with the blocks at u, once the notices sent there have been taken. -/
def State.settled (s : State) (u : Parts) : State := { s with parts := settle u }

/-- The state with the blocks at u and an answer prepared (R174). -/
def State.answers (s : State) (code : Nat) (t : Byte) (a : Status) (body : List Byte) (u : Parts) : State :=
  { s with parts := u, port := s.port.respond code t a body }

/-- A device whose open or trip by a requester has started an operation of its own, to run for a time (R31, R32). -/
def DeviceLive.openedBy (v : DeviceLive) (r : Requester) (time : Nat) : DeviceLive :=
  { v with state := .opening, owner := some r, origin := some r, failure := none, authorisations := ⟨false, false⟩,
           operateTimer := .running time, persistence := .stopped, abortedClose := v.state == .closing }

/-- The source notice that an observation of a device sends: its own of a running generator comes to CLOSED or leaves it
(R51). -/
def Parts.sourceMoved (s : Parts) (d : DeviceId) (was now : Position) : List Notice :=
  if (was == .closed) != (now == .closed) ∧ (∃ g, s.generatorDevice g = some d ∧
      s.paralleling.generators[g].state.isRunning = true) then [.source] else []

/-- The notices that an observed position sends to the units, with a cause (R36). -/
def tellsPosition (d : DeviceId) (p : Position) (c : Cause) : List Notice :=
  [.position .changeover d p c, .position .paralleling d p c, .position .load d p c]

/-- Whether a conducting TIE of the index joins two buses in use (R50). -/
def Parts.tied (s : Parts) (a b : BusId) : Prop :=
  s.topology.inUse[a] = true ∧ s.topology.inUse[b] = true ∧ ∃ d : DeviceId, s.topology.conducting[d] = true ∧
    (s.topology.index[d] = some ⟨a, .bus b⟩ ∨ s.topology.index[d] = some ⟨b, .bus a⟩)

/-- The values of a part that has just been powered on or released from reset (R167). -/
structure State.Restarted (s : State) (levels : InputLevels) (f : Int) (station : Option StationSettings) : Prop where
  released : s.inReset = false
  records : ∀ n, s.parts.record n = none
  scrub : s.parts.store.scrubPosition = 0 ∧ s.parts.store.scrubTimer = .stopped
  devices : ∀ d : DeviceId, s.parts.switching.devices[d] = DeviceLive.initial levels.patterns[d]
  lines : ∀ (d : DeviceId) (i : SideId), s.closeLine d = false ∧ s.tripLine d = false ∧ s.intertripLine i = false
  authority : s.parts.switching.authority = levels.authority
  topology : s.parts.topology = TopologyMap.initial
  lockouts : s.parts.lockouts = LockoutTable.initial
  lanes : ∀ l : LaneId, s.parts.lanes.lanes[l] = LaneLive.initial
  points : ∀ p : PointId, s.parts.lanes.points[p] = PointLive.initial f
  tests : s.parts.lanes.testCount = 0 ∧ ∀ p : PointId, s.parts.protection.testStanding[p] = none
  elements : ∀ e : ElementId, s.parts.protection.elements[e] = ElementLive.initial ∧
    s.parts.protection.guards[e] = none ∧ s.parts.protection.watch[e] = none ∧ s.parts.protection.upstream[e] = none
  failures : s.parts.protection.lastFailure = none ∧ ∀ d : DeviceId, s.parts.protection.unprotected[d] = false
  units : s.parts.changeover = ChangeoverUnit.initial ∧ s.parts.paralleling = ParallelingUnit.initial ∧
    s.parts.load = LoadUnit.initial
  service : s.parts.service = { inService := false, hold := HoldSet.empty, station := station }
  attention : s.attn = false ∧ ∀ i : StoreIndex, s.parts.attention.changed[i] = false
  port : s.port = PortBuffers.initial

/-! ## The port -/

/-- A taking waits on a whole request: its bytes are exactly those its header declares (R173, R174). -/
def PortBuffers.requestWhole (x : PortBuffers) : Prop :=
  ∀ frame, x.request = some frame → declaredLength frame = some frame.length

/-- Either a response is prepared or a request waits to be taken, never both and never neither (R173, R174). -/
def PortBuffers.oneWaits (x : PortBuffers) : Prop := x.response.isSome = x.request.isNone

/-- A transaction that shifts out the response has one to shift out (R173). -/
def PortBuffers.showsResponse (x : PortBuffers) : Prop :=
  ∀ c i a, x.transaction = some (.response c i a) → x.response.isSome = true

/-- The invariant of the port. -/
def PortBuffers.wf (x : PortBuffers) : Prop := x.requestWhole ∧ x.oneWaits ∧ x.showsResponse

/-! ## The blocks -/

/-- The law of the accumulators (R91): each is at most 1,048,576, and is that exactly while its element is TRIPPED. -/
def ProtectionUnit.accumulatorLaw (u : ProtectionUnit) : Prop := ∀ e : ElementId,
  u.elements[e].accumulator ≤ 1048576 ∧ (u.elements[e].accumulator = 1048576 ↔ u.elements[e].state = .tripped)

/-- Whether a slot holds an ACTIVE record, SOUND or CORRECTED, whose set as last written has a device (R61, R64). -/
def Parts.slotCovers (s : Parts) (d : DeviceId) (k : SlotId) : Bool :=
  match s.store.lockouts[k] with
  | some h => !h.retired && h.integrity != .damaged && (writtenSet h).contains d
  | none => false

/-- The cover count of each device is the number of slots that cover it (R61, R64). A lockout record is never RETIRED, and
its set names no device twice (R5, R15). -/
def Parts.coversCounted (s : Parts) : Prop :=
  (∀ (k : SlotId) h, s.store.lockouts[k] = some h → h.retired = false ∧ (writtenSet h).Nodup) ∧
    ∀ d : DeviceId, s.lockouts.cover[d] = allSlots.countP (s.slotCovers d)

/-- No device is CLOSING while it is locked (R65). -/
def Parts.noLockedClose (s : Parts) : Prop :=
  ∀ d : DeviceId, s.switching.devices[d].state = .closing → s.isLocked d = false

/-- The claim is held by each side in ALT_TIE or ON_TIE, and by no side in another state, so by at most one (R125). -/
def ChangeoverUnit.claimHeld (c : ChangeoverUnit) : Prop := ∀ i : SideId, c.claim = some i ↔ c.sides[i].state.claims = true

/-- The Restore Queue holds exactly the SHED blocks, each once, in the order of priority and then of shed sequence (R162). -/
def Parts.queueHoldsTheShed (s : Parts) : Prop :=
  s.load.queue.Nodup ∧ (∀ l : BlockId, l ∈ s.load.queue ↔ s.load.blocks[l].state = .shed) ∧
    s.load.queue.Pairwise fun a b => queueBefore s b a = false

end Sys2Proof.Machine
end

