-- ==== Sys2Proof/Certificates/Slice0/Obligations.lean ====
section
/-!
DEFINITION. The statements about the LZ4816 that are handed to the provers. What they rest on beside the spec is the model's
own and stands in notes/assumptions: State.live, that the blocks are between events, in 2.md; what a check code covers and
whether it restores, in 3.md; that an expiry acts on a RUNNING timer whatever time it has left, in 5.md; the latch of an
aborted close, in 6.md; that the taking of a request needs none in the port's buffer, in 7.md.
-/

open Sys2Proof Sys2Proof.Machine

/-! ## The queue, reset and the inputs -/

/-- A step with a command in the queue is exec of the one at the front on the state with the queue's rest. -/
def Obligations.StepTakesTheFrontCommand : Prop :=
  ∀ (i : Instr) (rest : List Instr) (s : State), step { s with pending := i :: rest } = exec i { s with pending := rest }

/-- With no command waiting a step does nothing in reset, takes the request that waits at the port if there is one, and
otherwise lets one ms pass: every RUNNING timer goes down by one ms, to 0 at the least, the scrub step timer by 32 of its
32nds; an overlap timer below the maximum in force goes up by one; a timer that is STOPPED, FROZEN, EXPIRED or ELAPSED, and
everything else, stays. The order and the ms are the model's choices (notes/assumptions/5.md, 7.md, 24.md). -/
def Obligations.StepOnAnEmptyQueue : Prop :=
  ∀ s : State, s.pending = [] →
    let down (k : Nat) (t : Timer) : Timer := match t with
      | .running n => .running (n - k)
      | .stopped => .stopped
    let latched (t : LatchedTimer) : LatchedTimer := match t with
      | .running n => .running (n - 1)
      | t => t
    (s.inReset = true → step s = .next s) ∧
    (∀ frame, s.inReset = false → s.port.request = some frame → step s = exec (requestOf frame) s) ∧
    (s.inReset = false → s.port.request = none → ∃ p : Parts, step s = .next { s with parts := p } ∧
      p.store = { s.parts.store with scrubTimer := down 32 s.parts.store.scrubTimer } ∧
      p.switching = { s.parts.switching with devices := p.switching.devices } ∧
      (∀ d : DeviceId, p.switching.devices[d] = { s.parts.switching.devices[d] with
        operateTimer := down 1 s.parts.switching.devices[d].operateTimer
        persistence := down 1 s.parts.switching.devices[d].persistence }) ∧
      p.lanes = { s.parts.lanes with lanes := p.lanes.lanes, points := p.lanes.points } ∧
      (∀ f : LaneId, p.lanes.lanes[f] = { s.parts.lanes.lanes[f] with silence := down 1 s.parts.lanes.lanes[f].silence }) ∧
      (∀ q : PointId, p.lanes.points[q] = { s.parts.lanes.points[q] with
        test := s.parts.lanes.points[q].test.map fun t =>
          { t with interval := down 1 t.interval, duration := down 1 t.duration } }) ∧
      p.protection = { s.parts.protection with elements := p.protection.elements } ∧
      (∀ e : ElementId, p.protection.elements[e] = { s.parts.protection.elements[e] with
        zone := down 1 s.parts.protection.elements[e].zone
        blind := latched s.parts.protection.elements[e].blind }) ∧
      p.changeover = { s.parts.changeover with
        utilities := p.changeover.utilities, sides := p.changeover.sides
        overlaps := s.parts.changeover.overlaps.map fun o =>
          if o.elapsed < s.parts.maximumOverlap then { o with elapsed := o.elapsed + 1 } else o } ∧
      (∀ u : UtilityId, p.changeover.utilities[u] = { s.parts.changeover.utilities[u] with
        timer := match s.parts.changeover.utilities[u].timer with
          | .loss false n => .loss false (n - 1)
          | .back false n => .back false (n - 1)
          | t => t }) ∧
      (∀ i : SideId, p.changeover.sides[i] = { s.parts.changeover.sides[i] with
        dead := latched s.parts.changeover.sides[i].dead, sync := down 1 s.parts.changeover.sides[i].sync }) ∧
      p.paralleling = { s.parts.paralleling with
        generators := p.paralleling.generators
        hostSync := s.parts.paralleling.hostSync.map fun h => { h with limit := down 1 h.limit }
        islandTimers := s.parts.paralleling.islandTimers.map fun t =>
          { t with add := down 1 t.add, remove := down 1 t.remove } } ∧
      (∀ g : GeneratorId, p.paralleling.generators[g] = { s.parts.paralleling.generators[g] with
        startTimer := down 1 s.parts.paralleling.generators[g].startTimer
        syncTimer := latched s.parts.paralleling.generators[g].syncTimer
        unloadTimer := down 1 s.parts.paralleling.generators[g].unloadTimer
        cooldownTimer := down 1 s.parts.paralleling.generators[g].cooldownTimer }) ∧
      p.load = { s.parts.load with restoreTimer := down 1 s.parts.load.restoreTimer } ∧
      p.topology = s.parts.topology ∧ p.lockouts = s.parts.lockouts ∧ p.service = s.parts.service ∧
      p.attention = s.parts.attention ∧ p.notices = s.parts.notices ∧ p.freeReads = s.parts.freeReads)

/-- Every command ends in a next state, and none touches the queue. -/
def Obligations.EveryCommandEndsAndLeavesTheQueue : Prop :=
  ∀ (i : Instr) (s : State), ∃ t, exec i s = .next t ∧ t.pending = s.pending

/-- RESET_ASSERT holds the part in reset and releases every close, trip and intertrip line. That what the part holds stays
until the release, and that in reset every command but the supply's and the reset line's leaves it as it is, is the model's
(notes/assumptions/32.md). -/
def Obligations.ResetReleasesTheLinesAndTakesNothing : Prop :=
  (∀ s : State, exec .resetAssert s = .next { s with inReset := true } ∧
    ∀ (d : DeviceId) (i : SideId), State.closeLine { s with inReset := true } d = false ∧
      State.tripLine { s with inReset := true } d = false ∧ State.intertripLine { s with inReset := true } i = false) ∧
  ∀ (i : Instr) (s : State), s.inReset = true → (∀ lv, i ≠ .powerOn lv) → i ≠ .resetAssert →
    (∀ lv, i ≠ .resetRelease lv) → exec i s = .next s

/-- POWER_ON puts every block at its power-on values, and RESET_RELEASE in reset puts them at those of the reset line: the
Station values in service and the frequency of the points stay as the last entry took them (notes/assumptions/8.md). Where
the spec gives no such value, of a lane's spacing and outbound number, a closing time in use, the port's transaction and
request and two bits of bookkeeping, it is the model's (notes/assumptions/9.md). That POWER_ON ends a reset that stands, the
reset line being taken as high at power-on, is the model's choice too (notes/assumptions/47.md). -/
def Obligations.PowerOnAndResetReleaseStartAfresh : Prop :=
  ∀ (lv : InputLevels) (s : State),
    (∃ t, exec (.powerOn lv) s = .next t ∧ t.Restarted lv 50000 none ∧ t.pending = s.pending) ∧
    (s.inReset = true → ∃ t, exec (.resetRelease lv) s = .next t ∧
      t.Restarted lv (entryFrequency s.parts.service.station) s.parts.service.station ∧ t.pending = s.pending)

/-- The observed position is decoded from the two contacts alone. A taken input change at a device that is UNSET or RETIRED
changes its observed pattern, and the changed mark of a record that is not EMPTY where the pattern has changed, and
nothing else. A taken change of the authority input changes the authority alone. -/
def Obligations.InputsMoveThePatternAndTheAuthority : Prop :=
  (∀ ready trip : Bool,
    positionOf ⟨true, false, ready, trip⟩ = .open ∧ positionOf ⟨false, true, ready, trip⟩ = .closed ∧
    positionOf ⟨false, false, ready, trip⟩ = .travel ∧ positionOf ⟨true, true, ready, trip⟩ = .disagree) ∧
  (∀ (d : DeviceId) (x : DeviceInput) (level : Bool) (s : State), s.live →
    (s.parts.switching.devices[d].state = .unset ∨ s.parts.switching.devices[d].state = .retired) →
    exec (.deviceInputChange d x level) s = .next { s with
      parts.switching.devices := s.parts.switching.devices.set d
        { s.parts.switching.devices[d] with pattern := putInput s.parts.switching.devices[d].pattern x level }
      parts.attention.changed := s.parts.attention.changed.set (deviceIndex d)
        (s.parts.attention.changed[deviceIndex d] || (s.parts.store.devices[d].isSome &&
          s.parts.switching.devices[d].pattern != putInput s.parts.switching.devices[d].pattern x level)) }) ∧
  ∀ (a : Authority) (s : State), s.inReset = false →
    exec (.authorityChange a) s = .next { s with parts.switching.authority := a }

/-! ## The Supervisory Port -/

/-- A transaction begins at an assertion of SSEL, which does nothing within one, and shifts out the prepared response with the
marks as they stand, or the BUSY pattern while PRDY is low. At the release of SSEL one of at least the declared length, begun
while PRDY was high, consumes the response, clears the marks it carried and leaves the request, without the bytes beyond its
length, to be taken. A shorter one, or one of fewer than four bytes, is discarded with the INCOMPLETE mark and keeps the
response; one begun while PRDY was low is discarded with the COLLISION mark whatever its length. -/
def Obligations.TransactionsRunFromSelectToRelease : Prop :=
  ∀ s : State, s.inReset = false →
    (s.port.transaction = none → s.port.response.isSome = true →
      exec .sselAssertion s = .next { s with
        port.transaction := some (.response s.port.collision s.port.incomplete s.attn) }) ∧
    (s.port.transaction = none → s.port.response = none →
      exec .sselAssertion s = .next { s with port.transaction := some .busy }) ∧
    (s.port.transaction.isSome = true → exec .sselAssertion s = .next s) ∧
    ∀ bytes : List Byte,
      (∀ n c i a, s.port.transaction = some (.response c i a) → declaredLength bytes = some n → n ≤ bytes.length →
        exec (.spiTransaction bytes) s = .next { s with
          port := { response := none, collision := s.port.collision && !c, incomplete := s.port.incomplete && !i,
                    transaction := none, request := some (bytes.take n) } }) ∧
      (∀ c i a, s.port.transaction = some (.response c i a) → (∀ n, declaredLength bytes = some n → bytes.length < n) →
        exec (.spiTransaction bytes) s = .next { s with port.transaction := none, port.incomplete := true }) ∧
      (s.port.transaction = some .busy →
        exec (.spiTransaction bytes) s = .next { s with port.transaction := none, port.collision := true })

/-- A well-formed host request read back from the frame that carries it is that request, and the frame is of its declared
length. -/
def Obligations.HostRequestFramesRoundTrip : Prop :=
  ∀ (i : Instr) (frame : List Byte), i.wellFormed = true → frameOf i = some frame →
    requestOf frame = i ∧ declaredLength frame = some frame.length

/-- READ answers OK with the record's header, settings and live fields, returns a CORRECTED record to SOUND and clears the
record's changed mark; every other record and everything else stays. Of an unknown kind it is BAD_KIND and of an index
outside the kind's count BAD_INDEX, and changes nothing. -/
def Obligations.ReadReturnsTheRecord : Prop :=
  ∀ (t : Byte) (kind index : Nat) (s : State), s.inReset = false →
    (10 ≤ kind → exec (.read t kind index) s = .next (s.answers 0x01 t .badKind [] s.parts)) ∧
    ∀ k, RecordKind.all[kind]? = some k →
      (recordNamed k index = none → exec (.read t kind index) s = .next (s.answers 0x01 t .badIndex [] s.parts)) ∧
      ∀ n, recordNamed k index = some n →
        ∃ p, exec (.read t kind index) s = .next (s.answers 0x01 t .ok (readBody s.parts n) p) ∧
          p.record n = (s.parts.record n).map (fun h =>
            { h with integrity := if h.integrity = .corrected then .sound else h.integrity }) ∧
          (∀ m, m ≠ n → p.record m = s.parts.record m) ∧
          p.attention = { s.parts.attention with changed := s.parts.attention.changed.set n.position false } ∧
          { p with store := s.parts.store, attention := s.parts.attention } = s.parts

/-- READ CHANGED answers OK with the kind and the kind indices whose marks are set, in ascending order, or BAD_KIND; READ
ISLANDS and READ SUMMARY answer OK with their bodies; a request that spells none is answered BAD_CHECK where its CRC fails and
BAD_REQUEST otherwise, with its code and tag. None of them changes what any block holds. ACKNOWLEDGE of one to nine flags
clears exactly those and answers OK; a body that names no flag or an unknown one is BAD_REQUEST and changes nothing. -/
def Obligations.InquiriesAndAcknowledge : Prop :=
  ∀ (t : Byte) (s : State), s.inReset = false →
    (∀ kind k, RecordKind.all[kind]? = some k →
      exec (.readChanged t kind) s = .next (s.answers 0x02 t .ok (byte kind ::
        (allRecords.filter fun n => n.kind == k && s.parts.attention.changed[n.position]).map fun n => byte n.index)
        s.parts)) ∧
    (∀ kind, 10 ≤ kind → exec (.readChanged t kind) s = .next (s.answers 0x02 t .badKind [] s.parts)) ∧
    exec (.readIslands t) s = .next (s.answers 0x03 t .ok
      ([byte (if s.parts.service.hold.busDamaged then 1 else 0), byte s.parts.topology.islands.length] ++
        s.parts.topology.islands.flatMap (islandBody s.parts)) s.parts) ∧
    exec (.readSummary t) s = .next (s.answers 0x04 t .ok (summaryBody s.parts) s.parts) ∧
    (∀ (c : Byte) (rest : List Byte), exec (.unknownRequest (c :: t :: rest)) s = .next (s.answers c.toNat t
      (if crcHolds (c :: t :: rest) then .badRequest else .badCheck) [] s.parts)) ∧
    ∀ flags : Nat,
      ((flags = 0 ∨ 512 ≤ flags) → exec (.acknowledge t flags) s = .next (s.answers 0x05 t .badRequest [] s.parts)) ∧
      (0 < flags → flags < 512 → ∃ fs : AttentionFlags,
        exec (.acknowledge t flags) s = .next (s.answers 0x05 t .ok [] { s.parts with attention.flags := fs }) ∧
        ∀ n < 9, fs.mask.testBit n = (s.parts.attention.flags.mask.testBit n && !flags.testBit n))

/-! ## The Record Store -/

/-- The three outcomes of a check on use of a record that is SOUND or CORRECTED: VALID leaves it; NEAR-VALID restores it and
makes it CORRECTED; INVALID makes it DAMAGED and notifies its owner; both set the RECORD flag and the changed mark. What a
check code restores is the model's form of it (notes/assumptions/3.md). -/
def Obligations.CheckOutcomes : Prop :=
  ∀ (n : RecordName) (h : Held AnySettings) (s : Parts), s.record n = some h → h.integrity ≠ .damaged →
    (h.settings = h.code.covers → useRecord n s = (s, some h.settings)) ∧
    (h.settings ≠ h.code.covers → h.code.restores = true →
      useRecord n s = (((s.putRecord n h.restore).raise .record).mark n.position, some h.code.covers) ∧
      (s.putRecord n h.restore).record n = some
        { h with settings := h.code.covers, code := CheckCode.of h.code.covers, integrity := .corrected }) ∧
    (h.settings ≠ h.code.covers → h.code.restores = false →
      useRecord n s = (damageNotice n (((s.putRecord n h.damage).raise .record).mark n.position), none) ∧
      (s.putRecord n h.damage).record n = some { h with integrity := .damaged })

/-- A scrub step in service moves on by one position and starts the step timer again. It passes over a record that is EMPTY
or DAMAGED, and one it finds VALID, with no other effect. One it finds NEAR-VALID it restores and makes CORRECTED; one it
finds INVALID it makes DAMAGED, its settings as found, and its owner takes its fallback: a bus in use holds the part, a
utility becomes UNKNOWN, a generator fails or unloads, a SHED block is HELD, an element is DAMAGED and its device
unprotected, a lockout's devices lose one from their counts, and the scheme goes to MANUAL; a Station, device or point
record has none. Both set the RECORD flag and the changed mark. -/
def Obligations.ScrubStepChecksOneRecord : Prop :=
  ∀ (t : StationSettings) (s : State), s.live → s.parts.service.inService = true →
    s.parts.service.station = some t → s.parts.store.scrubTimer.isRunning = true →
    let n := recordAt s.parts.store.scrubPosition
    let kept (p : Parts) : Prop := { p with store := s.parts.store, attention := s.parts.attention } = s.parts
    ((∀ h, s.parts.record n = some h → h.integrity = .damaged ∨ h.settings = h.code.covers) →
      exec (.scrubStep []) s = .next { s with
        parts.store.scrubPosition := s.parts.store.scrubPosition + 1
        parts.store.scrubTimer := .running (t.scrubPeriod * 125) }) ∧
    ∀ h, s.parts.record n = some h → h.integrity ≠ .damaged → h.settings ≠ h.code.covers →
      ∃ u, exec (.scrubStep []) s = .next (s.settled u) ∧
        u.record n = some (if h.code.restores then
          { h with settings := h.code.covers, code := CheckCode.of h.code.covers, integrity := .corrected }
          else { h with integrity := .damaged }) ∧
        (h.code.restores = true ∨ n.kind ∉ [.utility, .generator, .element, .scheme] →
          ∀ m, m ≠ n → u.record m = s.parts.record m) ∧
        u.attention.flags.record = true ∧ u.attention.changed[n.position] = true ∧
        u.store.scrubPosition = s.parts.store.scrubPosition + 1 ∧
        u.store.scrubTimer = .running (t.scrubPeriod * 125) ∧
        (h.code.restores = true ∨ n.kind = .station ∨ n.kind = .device ∨ n.kind = .point →
          u.attention.flags = { s.parts.attention.flags with record := true } ∧
          u.attention.changed = s.parts.attention.changed.set n.position true ∧ kept u) ∧
        (h.code.restores = false →
          (∀ b, n = .bus b → s.parts.topology.inUse[b] = true → u.service.hold.busDamaged = true ∧
            u.topology.damaged[b] = true ∧ u.topology.classes[b] = .none ∧
            u.attention.flags.hold = (s.parts.attention.flags.hold || !s.parts.service.hold.busDamaged)) ∧
          (∀ x, n = .utility x → s.parts.changeover.utilities[x].settings.isSome = true →
            u.changeover.utilities[x] = { s.parts.changeover.utilities[x] with
              qualification := .unknown, underlying := none, timer := .stopped, measured := false } ∧
            u.attention.flags.changeover = true) ∧
          (∀ g, n = .generator g → h.retired = false →
            let o := s.parts.paralleling.generators[g].state
            let v := u.paralleling.generators[g]
            (o = .unavailable ∨ o = .stopped ∨ o = .starting ∨ o = .ready ∨ o = .syncing ∨ o = .cooldown →
              v.state = .failed ∧ v.failure = some .damaged ∧ v.run = .stop ∧ u.attention.flags.generator = true) ∧
            (o = .failed → v = { s.parts.paralleling.generators[g] with
              failure := some .damaged, target := 0, sequence := none }) ∧
            (o = .online → v.state = .unloading ∧ v.target = 0) ∧
            (o = .unloading ∨ o = .disconnecting ∨ o = .unset → v = s.parts.paralleling.generators[g]) ∧
            (∀ d, o = .deadClosing ∨ o = .syncClosing → s.parts.generatorDevice g = some d →
              s.parts.switching.devices[d].state = .closing →
              v.state = .disconnecting ∧ u.switching.devices[d].state = .opening)) ∧
          (∀ l, n = .block l → s.parts.load.blocks[l].settings.isSome = true → u.attention.flags.load = true ∧
            (s.parts.load.blocks[l].state = .shed → u.load.blocks[l].state = .held ∧ l ∉ u.load.queue) ∧
            (s.parts.load.blocks[l].state ≠ .shed → u.load = s.parts.load)) ∧
          (∀ e, n = .element e → s.parts.protection.elements[e].state ≠ .disabled →
            u.protection.elements[e] = { s.parts.protection.elements[e] with
              state := .damaged, zone := .stopped, blind := .stopped
              accumulator := if s.parts.protection.elements[e].state = .tripped then 0
                else s.parts.protection.elements[e].accumulator } ∧
            ∀ d, s.parts.protection.guards[e] = some d → u.protection.unprotected[d] = true ∧
              (s.parts.protection.unprotected[d] = false → u.attention.flags.protection = true)) ∧
          (∀ (k : SlotId) (y : Held LockoutSettings), n = .lockout k → s.parts.store.lockouts[k] = some y →
            (writtenSet y).Nodup →
            (∀ d : DeviceId, u.lockouts.cover[d] =
              s.parts.lockouts.cover[d] - if d ∈ writtenSet y then 1 else 0) ∧
            u.service.hold.lockoutDamaged = true ∧ u.attention.flags.lockout = true) ∧
          (n = .scheme → s.parts.changeover.scheme.isSome = true → u.changeover.mode = .manual ∧
            (∀ i : SideId, u.changeover.sides[i].state = .manual) ∧
            u.changeover.scheme = s.parts.changeover.scheme ∧ u.attention.flags.changeover = true))

/-- A LOAD in CONFIGURING of a record of a kind without a derived index, other than a lockout, that passes the checks of
R13 makes the record ACTIVE and SOUND with exactly the settings given and answers OK; nothing else changes. An AMEND in
CONFIGURING of a VALID record, other than a lockout, writes the named settings, leaves the others, and recomputes the check
code; the life and integrity states stay, and nothing else changes. -/
def Obligations.LoadAndAmendWriteARecordInConfiguring : Prop :=
  ∀ (t : Byte) (kind index : Nat) (ps : List FieldPair) (k : RecordKind) (n : RecordName) (x : AnySettings) (s : State),
    s.live → s.parts.service.inService = false → RecordKind.all[kind]? = some k → recordNamed k index = some n →
    k ≠ .lockout → fieldsFit k ps = true →
    let amended (h : Held AnySettings) : Held AnySettings := { h with settings := x, code := { covers := x, restores := true } }
    (k ≠ .device → k ≠ .element → fieldsComplete k ps = true → readSettings k ps = some x →
      exec (.load t kind index ps) s = .next (s.answers 0x10 t .ok [] (s.parts.putRecord n (Held.fresh x))) ∧
        (s.parts.putRecord n (Held.fresh x)).record n = some
          { retired := false, integrity := .sound, settings := x, code := { covers := x, restores := true } } ∧
        (∀ m, m ≠ n → (s.parts.putRecord n (Held.fresh x)).record m = s.parts.record m)) ∧
    (∀ h, (∀ u : UtilityId, s.parts.changeover.utilities[u].settings = none) → s.parts.record n = some h → h.valid →
      ps ≠ [] → readSettings k (amendedPairs (settingsPairs h.settings) ps) = some x → closesCycle n x s.parts = false →
      exec (.amend t kind index ps) s = .next (s.answers 0x11 t .ok [] (s.parts.putRecord n (amended h))) ∧
        (s.parts.putRecord n (amended h)).record n = some (amended h) ∧
        ∀ m, m ≠ n → (s.parts.putRecord n (amended h)).record m = s.parts.record m)

/-- A LOAD in CONFIGURING of a device or element record, where every other stored record of the kind is VALID and no bus is in
use, writes the record and rebuilds its derived index from the records as they then stand. A LOAD of an ACTIVE lockout record,
in either service state and with no lockout hold to end, counts the devices of its old set out, unless it was DAMAGED, and
those of its new set in, and sets the record's changed mark; in service the devices whose count has moved are told of, a
CLOSING device that is locked after it is opened for LOCKOUT under its breaker-failure time, and where there is none nothing
else changes. That the aborts are asked first is the model's choice (notes/assumptions/19.md). -/
def Obligations.LoadRebuildsIndicesAndRecountsLockouts : Prop :=
  ∀ (t : Byte) (ps : List FieldPair) (s : State), s.live →
    (s.parts.service.inService = false → (∀ b : BusId, s.parts.topology.inUse[b] = false) → s.parts.topology.islands = [] →
      (∀ (d : DeviceId) (x : DeviceSettings), fieldsFit .device ps = true → fieldsComplete .device ps = true →
        readDevice ps = some x → (∀ (e : DeviceId) h, e ≠ d → s.parts.store.devices[e] = some h → h.valid) →
        ∃ p, exec (.load t 4 d.val ps) s = .next (s.answers 0x10 t .ok [] p) ∧
          p.store = { s.parts.store with devices := s.parts.store.devices.set d (some (Held.fresh x)) } ∧
          (∀ e : DeviceId, p.topology.index[e] =
            (activeSettings p.store.devices[e]).map fun y => { terminalA := y.terminalA, terminalB := y.terminalB }) ∧
          { p with store := s.parts.store, topology := s.parts.topology } = s.parts) ∧
      (∀ (e : ElementId) (x : ElementSettings), fieldsFit .element ps = true → fieldsComplete .element ps = true →
        readElement ps = some x → closesCycle (.element e) (.element x) s.parts = false →
        (∀ (f : ElementId) h, f ≠ e → s.parts.store.elements[f] = some h → h.valid) →
        ∃ p, exec (.load t 6 e.val ps) s = .next (s.answers 0x10 t .ok [] p) ∧
          p.store = { s.parts.store with elements := s.parts.store.elements.set e (some (Held.fresh x)) } ∧
          (∀ f : ElementId, p.protection.guards[f] = (activeSettings p.store.elements[f]).map ElementSettings.guarded) ∧
          { p with store := s.parts.store, protection := s.parts.protection } = s.parts)) ∧
    ∀ (k : SlotId) (h : Held LockoutSettings) (x : LockoutSettings), s.parts.service.hold.lockoutDamaged = false →
      s.parts.store.lockouts[k] = some h → h.retired = false → (writtenSet h).Nodup →
      fieldsFit .lockout ps = true → fieldsComplete .lockout ps = true → readLockout ps = some x →
      ∃ p, exec (.load t 7 k.val ps) s = .next (s.answers 0x10 t .ok [] (settle p)) ∧
        p.store.lockouts = s.parts.store.lockouts.set k (some (Held.fresh x)) ∧
        (∀ d : DeviceId, p.lockouts.cover[d] =
          s.parts.lockouts.cover[d] - (if h.integrity ≠ .damaged ∧ d ∈ writtenSet h then 1 else 0) +
            (if d ∈ x.devices then 1 else 0)) ∧
        p.lockouts.pending = s.parts.lockouts.pending ∧ p.attention.changed[lockoutIndex k] = true ∧
        (∀ (d : DeviceId) (y : Held DeviceSettings), s.parts.switching.devices[d].state = .closing → p.isLocked d = true →
          s.parts.store.devices[d] = some y → y.valid →
          p.switching.devices[d] = s.parts.switching.devices[d].openedBy .lockout y.settings.breakerFailureTime) ∧
        ((∀ d : DeviceId, s.parts.switching.devices[d].state = .closing → p.isLocked d = false) →
          p.attention = { s.parts.attention with changed := s.parts.attention.changed.set (lockoutIndex k) true } ∧
          p.notices = (if s.parts.service.inService then
            (allDevices.filter fun d => s.parts.lockouts.cover[d] != p.lockouts.cover[d]).map fun d =>
              .lockout d p.lockouts.cover[d] (s.parts.isPending d) (!s.parts.isLocked d && p.isLocked d) else []) ∧
          { p with store.lockouts := s.parts.store.lockouts, lockouts := s.parts.lockouts, attention := s.parts.attention
                   notices := [] } = s.parts)

/-- What a LOAD in service does at the owner. A device whose record was not ACTIVE, the other records being VALID, takes its
index entry and the state of its observation, and the Map is told where it conducts. An element starts afresh in the watch and
restraint lists of its new settings, BLIND under its blind limit or IDLE by its point's status, and the UNPROTECTED set is
reviewed for both its devices. A generator is placed by its device and lane, without a failure or host mark, and the arbiters
follow the generator buses. A block leaves the queue and is placed by its feeder at its demand floor: HELD, DARK or SERVED,
where the shed step may then shed it. The scheme in MANUAL takes the settings, and no other record and nothing else changes;
where none was in service both sides become MANUAL, and no other record changes unless an island sync runs while another
waits, and then at most device records. That a block's LOAD always brings a restore trigger is the model's choice
(notes/assumptions/56.md). -/
def Obligations.LoadInServiceIsTakenByItsOwner : Prop :=
  ∀ (t : Byte) (ps : List FieldPair) (s : State), s.live → s.parts.service.inService = true →
    let loads (kind index : Nat) (u : Parts) : Prop :=
      exec (.load t kind index ps) s = .next (s.answers 0x10 t .ok [] (settle u))
    let complete (k : RecordKind) : Prop := fieldsFit k ps = true ∧ fieldsComplete k ps = true
    (∀ (d : DeviceId) (x : DeviceSettings), complete .device → readDevice ps = some x →
      isActive s.parts.store.devices[d] = false → s.parts.switching.devices[d].state = .retired →
      (∀ (e : DeviceId) h, e ≠ d → s.parts.store.devices[e] = some h → h.valid) →
      ∃ u, loads 4 d.val u ∧
        u.store = { s.parts.store with devices := s.parts.store.devices.set d (some (Held.fresh x)) } ∧
        (∀ e : DeviceId, u.topology.index[e] =
          (activeSettings u.store.devices[e]).map fun y => { terminalA := y.terminalA, terminalB := y.terminalB }) ∧
        u.switching.devices[d] = { DeviceLive.initial s.parts.switching.devices[d].pattern with
          state := match s.parts.position d with
            | .open => .open
            | .closed => .closed
            | .travel | .disagree => .uncertain } ∧
        (∀ e : DeviceId, e ≠ d → u.switching.devices[e] = s.parts.switching.devices[e]) ∧
        (s.parts.position d ≠ .open → Notice.conducting d ∈ u.notices)) ∧
    (∀ (e : ElementId) (x : ElementSettings), complete .element → readElement ps = some x →
      closesCycle (.element e) (.element x) s.parts = false →
      s.parts.protection.elements[e].state ≠ .pickedUp → s.parts.protection.elements[e].state ≠ .resetting →
      s.parts.protection.elements[e].state ≠ .tripped →
      (∀ (f : ElementId) h, f ≠ e → s.parts.store.elements[f] = some h → h.valid) →
      let status := s.parts.lanes.points[x.point].status
      ∃ u, loads 6 e.val u ∧ u.store = { s.parts.store with elements := s.parts.store.elements.set e (some (Held.fresh x)) } ∧
        u.protection.guards[e] = some x.guarded ∧ u.protection.watch[e] = some x.point ∧
        u.protection.upstream[e] = x.upstream ∧
        u.protection.elements[e] = (if status = .none ∨ status = .stale then
          { ElementLive.initial with state := .blind, blind := .running (x.blindLimit * s.parts.interval) }
          else ElementLive.initial) ∧
        ∀ d : DeviceId, d = x.guarded ∨ s.parts.protection.guards[e] = some d →
          (u.protection.unprotected[d] = true ↔ ∃ f : ElementId, u.protection.guards[f] = some d ∧
            (u.protection.elements[f].state = .damaged ∨ u.protection.elements[f].blind = .ended))) ∧
    (∀ (g : GeneratorId) (x : GeneratorSettings), complete .generator → readGenerator ps = some x →
      s.parts.paralleling.generators[g].state = .stopped ∨ s.parts.paralleling.generators[g].state = .unavailable ∨
        s.parts.paralleling.generators[g].state = .failed →
      let up : Prop := s.parts.lanes.lanes[x.lane].state = .up
      let fresh : GeneratorLive := { GeneratorLive.initial with settings := some x }
      ∃ u, loads 3 g.val u ∧ u.store.generators[g] = some (Held.fresh x) ∧
        (∀ b : BusId, u.paralleling.arbiters[b].isSome =
          (u.topology.inUse[b] && allGenerators.any fun j => u.generatorBus j == some b)) ∧
        (s.parts.isConducting x.device = false → ¬up → u.paralleling.generators[g] = { fresh with state := .unavailable }) ∧
        (s.parts.isConducting x.device = false → up → s.parts.supplyWanted = false →
          u.paralleling.generators[g] = { fresh with state := .stopped }) ∧
        (s.parts.isConducting x.device = true → ¬up →
          u.paralleling.generators[g] = { fresh with state := .unavailable, run := .run }) ∧
        (s.parts.isConducting x.device = true → up → s.parts.supplyWanted = true →
          u.paralleling.generators[g] = { fresh with
            state := .online, run := .run, sequence := some (s.parts.paralleling.onlineCounter + 1) })) ∧
    (∀ (l : BlockId) (x : BlockSettings), complete .block → readBlock ps = some x → s.parts.load.blocks[l].state ≠ .restoring →
      let isl := s.parts.islandOfDevice x.feeder
      let fresh : BlockLive :=
        { BlockLive.initial with demand := some x.demandFloor, island := isl.map Island.id, settings := some x }
      ∃ u, loads 5 l.val u ∧ u.store.blocks = s.parts.store.blocks.set l (some (Held.fresh x)) ∧
        Notice.restoreTrigger ∈ u.notices ∧
        (s.parts.isConducting x.feeder = false →
          u.load.blocks[l] = { fresh with state := .held } ∧ l ∉ u.load.queue) ∧
        (∀ i, s.parts.isConducting x.feeder = true → isl = some i → i.energisation ≠ .live →
          u.load.blocks[l] = { fresh with state := .dark } ∧ l ∉ u.load.queue) ∧
        (∀ i, s.parts.isConducting x.feeder = true → isl = some i → i.energisation = .live →
          u.load.blocks[l].servedSequence = some (s.parts.load.servedCounter + 1) ∧
          u.load.blocks[l].demand = some x.demandFloor ∧ u.load.blocks[l].settings = some x ∧
          ((u.load.blocks[l].state = .served ∧ l ∉ u.load.queue) ∨
            (x.critical = false ∧ u.load.blocks[l].state = .shed ∧ l ∈ u.load.queue)))) ∧
    ∀ x : SchemeSettings, complete .scheme → readScheme ps = some x → s.parts.changeover.mode = .manual →
      let stored : RecordStore := { s.parts.store with scheme := some (Held.fresh x) }
      ∃ u, loads 8 0 u ∧ u.changeover.scheme = some x ∧ u.changeover.mode = .manual ∧
        (s.parts.changeover.scheme.isSome = true →
          u = { s.parts with store := stored, changeover := { s.parts.changeover with scheme := some x } }) ∧
        (s.parts.changeover.scheme = none → (∀ i : SideId, u.changeover.sides[i].state = .manual) ∧
          u.store = { stored with devices := u.store.devices } ∧
          (s.parts.paralleling.islandSync = none ∨ s.parts.paralleling.waitingSync = none → u.store = stored))

/-- What an AMEND or a RETIRE in service does, of a VALID record and within the fields that may be amended. An AMEND writes
the record; the unit of a utility, a generator or a block takes the new settings into its copy, an element's and a device's
goes by the record, and no live field changes but for a block: with its demand floor named, a SERVED one with a FRESH point
takes the larger of the point's P and the floor and any other raises its demand to the floor, and the shed step follows a
change. A RETIRE of a device that is observed OPEN and not in operation, the other device records being VALID, makes it
RETIRED and takes its index entry out. -/
def Obligations.AmendAndRetireInServiceAreTakenByTheOwner : Prop :=
  ∀ (t : Byte) (ps : List FieldPair) (s : State), s.live → s.parts.service.inService = true →
    let fields := ps.map FieldPair.field
    let within (k : RecordKind) (ok : List Nat) : Prop := ps ≠ [] ∧ fieldsFit k ps = true ∧ ∀ n ∈ fields, n ∈ ok
    let answers (kind index : Nat) (p : Parts) : Prop :=
      exec (.amend t kind index ps) s = .next (s.answers 0x11 t .ok [] p)
    (∀ (u : UtilityId) (h : Held UtilitySettings) (x : UtilitySettings), within .utility [3, 4, 5, 6, 7] →
      s.parts.store.utilities[u] = some h → h.valid → readUtility (amendedPairs h.settings.pairs ps) = some x →
      s.parts.changeover.utilities[u].settings.isSome = true →
      answers 2 u.val { s.parts with
        store.utilities := s.parts.store.utilities.set u (some (h.rewrite x))
        changeover.utilities := s.parts.changeover.utilities.set u
          { s.parts.changeover.utilities[u] with settings := some x } }) ∧
    (∀ (g : GeneratorId) (h : Held GeneratorSettings) (x : GeneratorSettings),
      within .generator [7, 8, 9, 10, 11, 12, 13, 15] → s.parts.store.generators[g] = some h → h.valid →
      readGenerator (amendedPairs h.settings.pairs ps) = some x →
      s.parts.paralleling.generators[g].settings.isSome = true →
      answers 3 g.val { s.parts with
        store.generators := s.parts.store.generators.set g (some (h.rewrite x))
        paralleling.generators := s.parts.paralleling.generators.set g
          { s.parts.paralleling.generators[g] with settings := some x } }) ∧
    (∀ (d : DeviceId) (h : Held DeviceSettings) (x : DeviceSettings), within .device [4, 5, 6, 7] →
      s.parts.switching.devices[d].state = .open → s.parts.store.devices[d] = some h → h.valid →
      readDevice (amendedPairs h.settings.pairs ps) = some x →
      answers 4 d.val { s.parts with store.devices := s.parts.store.devices.set d (some (h.rewrite x)) }) ∧
    (∀ (e : ElementId) (h : Held ElementSettings) (x : ElementSettings), within .element [4, 6, 7, 8, 10] →
      s.parts.store.elements[e] = some h → h.valid → readElement (amendedPairs h.settings.pairs ps) = some x →
      closesCycle (.element e) (.element x) s.parts = false →
      answers 6 e.val { s.parts with store.elements := s.parts.store.elements.set e (some (h.rewrite x)) }) ∧
    (∀ (l : BlockId) (h : Held BlockSettings) (x : BlockSettings), within .block [3, 4, 5] →
      s.parts.store.blocks[l] = some h → h.valid → readBlock (amendedPairs h.settings.pairs ps) = some x →
      s.parts.load.blocks[l].settings.isSome = true →
      let v := s.parts.load.blocks[l]
      let q := s.parts.lanes.points[x.point]
      let demand := if 5 ∉ fields then v.demand
        else if v.state = .served ∧ q.status = .fresh then some (max q.values.p.toNat x.demandFloor)
        else v.demand.map fun n => max n x.demandFloor
      ∃ u, answers 5 l.val (settle u) ∧
        u.store.blocks = s.parts.store.blocks.set l (some (h.rewrite x)) ∧
        u.load.blocks[l].settings = some x ∧ u.load.blocks[l].demand = demand ∧
        (v.state ≠ .served → u.load.blocks[l] = { v with settings := some x, demand := demand }) ∧
        (v.state = .served → u.load.blocks[l].state = .served ∨ (x.critical = false ∧ u.load.blocks[l].state = .shed)) ∧
        (v.state = .shed → l ∈ u.load.queue) ∧ (demand ≠ v.demand → Notice.restoreTrigger ∈ u.notices)) ∧
    ∀ (d : DeviceId) (h : Held DeviceSettings), s.parts.store.devices[d] = some h → h.retired = false →
      (∀ (e : DeviceId) x, e ≠ d → s.parts.store.devices[e] = some x → x.valid) → s.parts.position d = .open →
      s.parts.switching.devices[d].state ≠ .closing → s.parts.switching.devices[d].state ≠ .opening →
      ∃ u, exec (.retire t 4 d.val) s = .next (s.answers 0x12 t .ok [] (settle u)) ∧
        u.store = { s.parts.store with devices := s.parts.store.devices.set d (some { h with retired := true }) } ∧
        u.topology.index[d] = none ∧
        u.switching.devices[d] = { DeviceLive.initial s.parts.switching.devices[d].pattern with state := .retired } ∧
        ∀ e : DeviceId, e ≠ d → u.switching.devices[e] = s.parts.switching.devices[e]

/-- LOAD, AMEND and RETIRE are refused with the first failure in the order of R13, R14 and R15, and change nothing, but that
an AMEND whose check finds its record INVALID makes it DAMAGED. In service a LOAD is barred of a Station, bus, utility or
point, of the scheme outside MANUAL, of an ACTIVE device, and by the state of an element, generator or block, and always of
an EMPTY lockout record; an AMEND of a field outside R14's table, or of a device that is not OPEN; and a RETIRE of anything
but a device that is observed OPEN and not in operation. -/
def Obligations.RecordRequestsAreRefusedInOrder : Prop :=
  ∀ (t : Byte) (kind index : Nat) (ps : List FieldPair) (s : State), s.live →
    let inService : Prop := s.parts.service.inService = true
    let load (a : Status) : Prop := exec (.load t kind index ps) s = .next (s.answers 0x10 t a [] s.parts)
    let amend (a : Status) : Prop := exec (.amend t kind index ps) s = .next (s.answers 0x11 t a [] s.parts)
    let retire (a : Status) : Prop := exec (.retire t kind index) s = .next (s.answers 0x12 t a [] s.parts)
    (10 ≤ kind → load .badKind ∧ amend .badKind ∧ retire .badKind) ∧ (kind = 7 → amend .badKind ∧ retire .badKind) ∧
    ∀ k, RecordKind.all[kind]? = some k →
      (recordNamed k index = none → load .badIndex ∧ (k ≠ .lockout → amend .badIndex ∧ retire .badIndex)) ∧
      ∀ n, recordNamed k index = some n →
        let barred : Prop := match n with
          | .lockout j => isActive s.parts.store.lockouts[j] = false
          | .scheme => inService ∧ s.parts.changeover.mode ≠ .manual
          | .device d => inService ∧ isActive s.parts.store.devices[d] = true
          | .element e => inService ∧ (s.parts.protection.elements[e].state = .pickedUp ∨
              s.parts.protection.elements[e].state = .resetting ∨ s.parts.protection.elements[e].state = .tripped)
          | .generator g => inService ∧ s.parts.paralleling.generators[g].state ≠ .stopped ∧
              s.parts.paralleling.generators[g].state ≠ .unavailable ∧ s.parts.paralleling.generators[g].state ≠ .failed
          | .block l => inService ∧ s.parts.load.blocks[l].state = .restoring
          | .station | .bus _ | .utility _ | .point _ => inService
        let amendable : List Nat := match k with
          | .element => [4, 6, 7, 8, 10]
          | .block => [3, 4, 5]
          | .generator => [7, 8, 9, 10, 11, 12, 13, 15]
          | .utility => [3, 4, 5, 6, 7]
          | .device => [4, 5, 6, 7]
          | .station | .bus | .lockout | .scheme | .point => []
        let fixed : Prop := inService ∧ ((∃ p ∈ ps, p.field ∉ amendable) ∨
          ∃ d, n = .device d ∧ s.parts.switching.devices[d].state ≠ .open)
        let stays : Prop := inService ∧ ∀ d, n = .device d → s.parts.position d ≠ .open ∨
          s.parts.switching.devices[d].state = .closing ∨ s.parts.switching.devices[d].state = .opening
        ((fieldsFit k ps && fieldsComplete k ps) = false → load .badRequest) ∧
        (fieldsFit k ps = true → fieldsComplete k ps = true →
          (readSettings k ps = none ∨ ∃ x, readSettings k ps = some x ∧ closesCycle n x s.parts = true) → load .range) ∧
        (∀ x, fieldsFit k ps = true → fieldsComplete k ps = true → readSettings k ps = some x →
          closesCycle n x s.parts = false → barred → load .state) ∧
        (k ≠ .lockout → (ps = [] ∨ fieldsFit k ps = false) → amend .badRequest) ∧
        (k ≠ .lockout → ps ≠ [] → fieldsFit k ps = true →
          (s.parts.record n = none ∨ fixed → amend .state) ∧
          ∀ h, s.parts.record n = some h → ¬fixed →
            (h.integrity = .damaged → amend .damaged) ∧
            (h.integrity ≠ .damaged → h.settings ≠ h.code.covers → h.code.restores = false →
              ∃ u, exec (.amend t kind index ps) s = .next (s.answers 0x11 t .damaged [] (settle u)) ∧
                u.record n = some { h with integrity := .damaged } ∧ u.attention.flags.record = true ∧
                u.attention.changed[n.position] = true) ∧
            (h.valid → (readSettings k (amendedPairs (settingsPairs h.settings) ps) = none ∨
                ∃ x, readSettings k (amendedPairs (settingsPairs h.settings) ps) = some x ∧ closesCycle n x s.parts = true) →
              amend .range)) ∧
        (k ≠ .lockout → (s.parts.record n = none ∨ stays → retire .state) ∧
          ∀ h, s.parts.record n = some h → h.retired = true → ¬stays → retire .already)

/-- A RETIRE in CONFIGURING of an ACTIVE record makes it RETIRED with its settings, code and integrity kept; of a RETIRED
one it is ALREADY, of an EMPTY one STATE, and of a lockout record BAD_KIND. For a device or element record, where every
stored one is VALID and no bus is in use, it takes the record's entries out of its derived index. -/
def Obligations.RetireWithdrawsARecord : Prop :=
  ∀ (t : Byte) (kind index : Nat) (s : State), s.live → s.parts.service.inService = false →
    (kind = 7 → exec (.retire t kind index) s = .next (s.answers 0x12 t .badKind [] s.parts)) ∧
    (∀ k n, RecordKind.all[kind]? = some k → recordNamed k index = some n → k ≠ .lockout →
      (s.parts.record n = none → exec (.retire t kind index) s = .next (s.answers 0x12 t .state [] s.parts)) ∧
      (∀ h, s.parts.record n = some h → h.retired = true →
        exec (.retire t kind index) s = .next (s.answers 0x12 t .already [] s.parts)) ∧
      (∀ h, s.parts.record n = some h → h.retired = false → k ≠ .device → k ≠ .element →
        exec (.retire t kind index) s = .next (s.answers 0x12 t .ok [] (s.parts.putRecord n { h with retired := true })) ∧
        (s.parts.putRecord n { h with retired := true }).record n = some { h with retired := true })) ∧
    ((∀ (d : DeviceId) h, s.parts.store.devices[d] = some h → h.valid) →
      (∀ (e : ElementId) h, s.parts.store.elements[e] = some h → h.valid) →
      (∀ b : BusId, s.parts.topology.inUse[b] = false) → s.parts.topology.islands = [] →
      (∀ (d : DeviceId) h, s.parts.store.devices[d] = some h → h.retired = false →
        ∃ p, exec (.retire t 4 d.val) s = .next (s.answers 0x12 t .ok [] p) ∧
          p.store = { s.parts.store with devices := s.parts.store.devices.set d (some { h with retired := true }) } ∧
          p.topology.index[d] = none ∧ { p with store := s.parts.store, topology := s.parts.topology } = s.parts) ∧
      (∀ (e : ElementId) h, s.parts.store.elements[e] = some h → h.retired = false →
        ∃ p, exec (.retire t 6 e.val) s = .next (s.answers 0x12 t .ok [] p) ∧
          p.store = { s.parts.store with elements := s.parts.store.elements.set e (some { h with retired := true }) } ∧
          p.protection.guards[e] = none ∧
          { p with store := s.parts.store, protection := s.parts.protection } = s.parts))

/-! ## Switching devices -/

/-- OPERATE of no device is BAD_INDEX, while CONFIGURING too (the model's order, notes/assumptions/17.md), and of any device
while CONFIGURING is STATE, with no change; of a RETIRED device it is REFUSED with RETIRED, which the device keeps as its
last refusal. A close of another device in service is refused with the first check that fails, in the order of R26, and the
device keeps that reason: DAMAGED before every other, then steps 3 to 5, then for a device that is not CLOSED steps 7 to
12. -/
def Obligations.OperateIsRefusedAtTheFirstFailedCheck : Prop :=
  ∀ (t : Byte) (s : State), s.live →
    (∀ a device, 48 ≤ device → exec (.operate t device a) s = .next (s.answers 0x20 t .badIndex [] s.parts)) ∧
    ∀ d : DeviceId,
      (∀ a, s.parts.service.inService = false →
        exec (.operate t d.val a) s = .next (s.answers 0x20 t .state [] s.parts)) ∧
      (s.parts.service.inService = true → s.parts.switching.devices[d].state = .retired →
        exec (.operate t d.val .close) s = .next (s.answers 0x20 t .refused [1, 0] (s.parts.setDevice d
          { s.parts.switching.devices[d] with lastRefusal := some ⟨.retired, none⟩ })) ∧
        exec (.operate t d.val .open) s = .next (s.answers 0x20 t .refused [13, 0] (s.parts.setDevice d
          { s.parts.switching.devices[d] with lastRefusal := some ⟨.openRetired, none⟩ }))) ∧
      ∀ h : Held DeviceSettings, s.parts.service.inService = true →
        s.parts.switching.devices[d].state ≠ .retired → s.parts.switching.devices[d].state ≠ .unset →
        s.parts.store.devices[d] = some h →
        let v := s.parts.switching.devices[d]
        let x := h.settings
        let refuses (r : RefusalReason) (sub : Option TopologySub) : Prop :=
          exec (.operate t d.val .close) s = .next (s.answers 0x20 t .refused
            [byte r.number, byte (sub.elim 0 TopologySub.number)]
            (s.parts.setDevice d { v with lastRefusal := some ⟨r, sub⟩ }))
        let early := [(s.parts.inHold, RefusalReason.hold), (v.state == .failed, .failed), (v.state == .uncertain, .uncertain),
          (v.state == .open && s.parts.position d != .open, .uncertain), (v.state == .closing, .busy),
          (v.state == .opening, .busy)]
        let sub := topologyCheck s.parts x.terminalA x.terminalB ⟨false, false⟩
        let late := [(s.parts.isLocked d, RefusalReason.locked), (s.parts.switching.authority == .localControl, .authority),
          (s.parts.protection.unprotected[d], .unprotected), (notReady x.mask v.pattern, .notReady),
          (sub.isSome, .topology), (!fitsHeadroom s.parts x, .capacity)]
        (h.integrity = .damaged → refuses .damaged none) ∧
        (h.valid → ∀ f, early.find? (·.1) = some f → refuses f.2 none) ∧
        (h.valid → early.find? (·.1) = none → v.state ≠ .closed → ∀ f, late.find? (·.1) = some f →
          refuses f.2 (if f.2 = .topology then sub else none))

/-- A close that passes the twelve checks makes the device CLOSING with SUPERVISOR its owner and origin, no authorisation
and the close limit running, and makes it conducting in the Topology Map; one that reaches step 6 at a CLOSED device is
ALREADY and changes nothing. -/
def Obligations.CloseThatPassesIsAccepted : Prop :=
  ∀ (t : Byte) (d : DeviceId) (h : Held DeviceSettings) (s : State), s.live → s.parts.service.inService = true →
    s.parts.store.devices[d] = some h → h.valid → s.parts.inHold = false →
    let v := s.parts.switching.devices[d]
    (v.state = .closed → exec (.operate t d.val .close) s = .next (s.answers 0x20 t .already [] s.parts)) ∧
    (v.state = .open → s.parts.position d = .open → s.parts.lockouts.cover[d] = 0 → s.parts.isPending d = false →
      s.parts.switching.authority = .remoteControl → s.parts.protection.unprotected[d] = false →
      notReady h.settings.mask v.pattern = false →
      topologyCheck s.parts h.settings.terminalA h.settings.terminalB ⟨false, false⟩ = none →
      fitsHeadroom s.parts h.settings = true →
      let p := s.parts.setDevice d { v with
        state := .closing, owner := some .supervisor, origin := some .supervisor, authorisations := ⟨false, false⟩,
        operateTimer := .running h.settings.closeLimit }
      exec (.operate t d.val .close) s = .next (s.answers 0x20 t .accepted []
        (settle (recompute { p with topology.conducting := p.topology.conducting.set d true }))))

/-- An open of a device in service: ALREADY where it is OPEN and observed OPEN, or OPENING; REFUSED with AUTHORITY under
LOCAL; else ACCEPTED whatever else holds, with the open limit running, a CLOSING device's owner being told ABORTED. -/
def Obligations.OpenIsAcceptedInEveryOtherState : Prop :=
  ∀ (t : Byte) (d : DeviceId) (h : Held DeviceSettings) (s : State), s.live → s.parts.service.inService = true →
    s.parts.store.devices[d] = some h → h.valid →
    let v := s.parts.switching.devices[d]
    v.state ≠ .retired → v.state ≠ .unset →
    ((v.state = .open ∧ s.parts.position d = .open) ∨ v.state = .opening →
      exec (.operate t d.val .open) s = .next (s.answers 0x20 t .already [] s.parts)) ∧
    (¬(v.state = .open ∧ s.parts.position d = .open) → v.state ≠ .opening →
      (s.parts.switching.authority = .localControl →
        exec (.operate t d.val .open) s = .next (s.answers 0x20 t .refused [14, 0] (s.parts.setDevice d
          { v with lastRefusal := some ⟨.openAuthority, none⟩ }))) ∧
      (s.parts.switching.authority = .remoteControl →
        let p := s.parts.setDevice d { v with
          state := .opening, owner := some .supervisor, origin := some .supervisor, failure := none,
          authorisations := ⟨false, false⟩, operateTimer := .running h.settings.openLimit, persistence := .stopped,
          abortedClose := v.state == .closing }
        (v.state ≠ .closing → exec (.operate t d.val .open) s = .next (s.answers 0x20 t .accepted [] p)) ∧
        (∀ o, v.state = .closing → v.owner = some o →
          exec (.operate t d.val .open) s = .next (s.answers 0x20 t .accepted []
            (settle (p.send (.completion o d .aborted .close (v.origin.getD o))))))))

/-- An input change that brings an OPEN device to CLOSED, or a CLOSED one to OPEN, makes it so and stops its persistence
timer. Under REMOTE a closing sets the discrepancy mark and the DEVICE flag; an opening, and any change under LOCAL,
sets neither. The three units are told with cause EXTERNAL or LOCAL, and the Map of a change of conducting. -/
def Obligations.UncommandedChangesAreTaken : Prop :=
  ∀ (d : DeviceId) (x : DeviceInput) (level : Bool) (s : State), s.live →
    let v := s.parts.switching.devices[d]
    let q := putInput v.pattern x level
    let remote := decide (s.parts.switching.authority = .remoteControl)
    let cause : Cause := if remote then .external else .localChange
    let told (p : Position) : List Notice := tellsPosition d p cause
    let changed := if s.parts.store.devices[d].isSome then s.parts.attention.changed.set (deviceIndex d) true
      else s.parts.attention.changed
    positionOf q ≠ positionOf v.pattern →
    (v.state = .open → positionOf q = .closed →
      ∃ u, exec (.deviceInputChange d x level) s = .next (s.settled u) ∧
        u.switching = { s.parts.switching with
          devices := s.parts.switching.devices.set d
            { v with pattern := q, state := .closed, persistence := .stopped, discrepancy := v.discrepancy || remote } } ∧
        u.attention = ⟨{ s.parts.attention.flags with device := s.parts.attention.flags.device || remote }, changed⟩ ∧
        u.notices = told .closed ++ s.parts.sourceMoved d (positionOf v.pattern) .closed ∧
        { u with switching := s.parts.switching, attention := s.parts.attention, notices := [] } = s.parts) ∧
    (v.state = .closed → positionOf q = .open →
      ∃ u, exec (.deviceInputChange d x level) s = .next (s.settled u) ∧
        u.switching = { s.parts.switching with
          devices := s.parts.switching.devices.set d { v with pattern := q, state := .open, persistence := .stopped } } ∧
        u.attention = ⟨s.parts.attention.flags, changed⟩ ∧
        u.notices = told .open ++ [.conducting d] ∧
        { u with switching := s.parts.switching, attention := s.parts.attention, notices := [] } = s.parts)

/-- What a taken input change does at a device in service, beside an uncommanded opening or closing. One that leaves the
position changes the pattern alone, and raises the DEVICE flag where the device becomes NOT_READY. An observation of CLOSED
ends a CLOSING device's close, and one of OPEN an OPENING device's open, DONE. An OPEN or CLOSED device that leaves its
position starts its persistence timer once, and stops it at its return. An UNCERTAIN device settles at OPEN or CLOSED. A
FAILED one tells the units LATE of a change between OPEN and another position, and any other change moves the pattern alone.
The Map is told of a change of conducting, and of the liveness of a generator. That the timer's length and the supervision
mask are read without a check on use is the model's (DEDUCED, notes/assumptions/28.md). -/
def Obligations.ObservationsEndOperationsAndMoveTimers : Prop :=
  ∀ (d : DeviceId) (x : DeviceInput) (level : Bool) (s : State), s.live →
    let v := s.parts.switching.devices[d]
    let q := putInput v.pattern x level
    let was := positionOf v.pattern
    let now := positionOf q
    let m := s.parts.supervisionMask d
    let becomes (z : DeviceLive) (ns : List Notice) : Prop :=
      exec (.deviceInputChange d x level) s = .next (s.settled { s.parts with
        switching.devices := s.parts.switching.devices.set d { z with pattern := q }
        attention.flags.device := s.parts.attention.flags.device || (!notReady m v.pattern && notReady m q)
        attention.changed := if s.parts.store.devices[d].isSome then s.parts.attention.changed.set (deviceIndex d) true
          else s.parts.attention.changed
        notices := ns })
    let ended (st : DeviceState) : DeviceLive := { v with
      state := st, owner := none, origin := none, authorisations := ⟨false, false⟩, operateTimer := .stopped,
      abortedClose := false }
    let done (a : Action) : List Notice := (v.owner.map fun o => Notice.completion o d .done a (v.origin.getD o)).toList ++
      v.origin.elim [] fun o => tellsPosition d now (.origin o)
    let source := s.parts.sourceMoved d was now
    let moved := source ++ if (was == .open) != (now == .open) then [.conducting d] else []
    let started : Timer := if v.persistence.isRunning then v.persistence else .running (s.parts.persistenceTime d)
    (q = v.pattern → exec (.deviceInputChange d x level) s = .next s) ∧
    (v.state ≠ .unset → v.state ≠ .retired → q ≠ v.pattern → now = was → becomes v []) ∧
    (now ≠ was →
      (v.state = .closing → now = .closed → becomes (ended .closed) (done .close ++ source)) ∧
      (v.state = .closing → now ≠ .closed → becomes v source) ∧
      (v.state = .opening → now = .open → becomes (ended .open) (done .open ++ source ++ [.conducting d])) ∧
      (v.state = .opening → now ≠ .open →
        becomes v (source ++ if v.abortedClose = false ∧ was = .open then [.conducting d] else [])) ∧
      (v.state = .open → now = .open → becomes { v with persistence := .stopped } moved) ∧
      (v.state = .closed → now = .closed → becomes { v with persistence := .stopped } moved) ∧
      (v.state = .open ∨ v.state = .closed → now = .travel ∨ now = .disagree →
        becomes { v with persistence := started } moved) ∧
      (v.state = .uncertain → now = .open →
        becomes { v with state := .open } (tellsPosition d now .settled ++ moved)) ∧
      (v.state = .uncertain → now = .closed →
        becomes { v with state := .closed } (tellsPosition d now .settled ++ moved)) ∧
      (v.state = .uncertain → now = .travel ∨ now = .disagree → becomes v moved) ∧
      (v.state = .failed → becomes v
        ((if (was == .open) != (now == .open) then tellsPosition d now .late else []) ++ moved)))

/-- ACKNOWLEDGE FAILURE of a FAILED device clears the failure and the discrepancy mark and gives it the state of its
observation, telling the units with cause SETTLED; of a device with the discrepancy mark it clears the mark; otherwise it
is STATE, and of no device BAD_INDEX. -/
def Obligations.AcknowledgeFailureFollowsTheDeviceState : Prop :=
  ∀ (t : Byte) (s : State), s.live →
    (∀ device, 48 ≤ device →
      exec (.acknowledgeFailure t device) s = .next (s.answers 0x22 t .badIndex [] s.parts)) ∧
    ∀ d : DeviceId,
      let v := s.parts.switching.devices[d]
      let settled (st : DeviceState) : Parts :=
        s.parts.setDevice d { v with state := st, failure := none, discrepancy := false }
      let told (p : Position) : List Notice := tellsPosition d p .settled
      (v.state = .failed →
        (s.parts.position d = .open → exec (.acknowledgeFailure t d.val) s = .next (s.answers 0x22 t .ok []
          (settle { settled .open with notices := told .open }))) ∧
        (s.parts.position d = .closed → exec (.acknowledgeFailure t d.val) s = .next (s.answers 0x22 t .ok []
          (settle { settled .closed with notices := told .closed }))) ∧
        (s.parts.position d = .travel ∨ s.parts.position d = .disagree →
          exec (.acknowledgeFailure t d.val) s = .next (s.answers 0x22 t .ok [] (settled .uncertain)))) ∧
      (v.state = .open ∨ v.state = .closed ∨ v.state = .uncertain → v.discrepancy = true →
        exec (.acknowledgeFailure t d.val) s = .next (s.answers 0x22 t .ok []
          (s.parts.setDevice d { v with discrepancy := false }))) ∧
      (v.state = .open ∨ v.state = .closed ∨ v.state = .uncertain → v.discrepancy = false →
        exec (.acknowledgeFailure t d.val) s = .next (s.answers 0x22 t .state [] s.parts)) ∧
      (v.state = .closing ∨ v.state = .opening ∨ v.state = .retired ∨ v.state = .unset →
        exec (.acknowledgeFailure t d.val) s = .next (s.answers 0x22 t .state [] s.parts))

/-- RELEASE INTERTRIP of a side: ALREADY where its line is RELEASED, STATE where the recorded incomer is not observed
OPEN, and OK with the line RELEASED where it is. -/
def Obligations.ReleaseIntertripIsJudgedByTheLine : Prop :=
  ∀ (t : Byte) (i : SideId) (s : State), s.live →
    (s.parts.switching.intertrips[i] = none →
      exec (.releaseIntertrip t i.val) s = .next (s.answers 0x23 t .already [] s.parts)) ∧
    ∀ d, s.parts.switching.intertrips[i] = some d →
      (s.parts.position d ≠ .open →
        exec (.releaseIntertrip t i.val) s = .next (s.answers 0x23 t .state [] s.parts)) ∧
      (s.parts.position d = .open →
        exec (.releaseIntertrip t i.val) s = .next (s.answers 0x23 t .ok []
          { s.parts with switching.intertrips := s.parts.switching.intertrips.set i none }))

/-- The operate timers of a device. The close limit of a CLOSING device fails the close. The timer of an OPENING device
that is not observed OPEN fails the open, and under a breaker-failure-time origin the Protection Unit is told; observed
OPEN it ends the open DONE. The persistence timer makes its device UNCERTAIN. -/
def Obligations.DeviceTimersExpire : Prop :=
  ∀ (d : DeviceId) (s : State), s.live →
    let v := s.parts.switching.devices[d]
    let ended : DeviceLive := { v with owner := none, origin := none, authorisations := ⟨false, false⟩,
                                       operateTimer := .stopped, abortedClose := false }
    let told (r : Result) (a : Action) : List Notice :=
      (v.owner.map fun o => Notice.completion o d r a (v.origin.getD o)).toList
    (v.state = .closing → v.operateTimer.isRunning = true →
      exec (.closeLimitExpiry d) s = .next (s.settled
        { (s.parts.setDevice d { ended with state := .failed, failure := some .failedClose }).raise .device with
          notices := told .failed .close ++ if s.parts.position d = .open then [.conducting d] else [] })) ∧
    (v.state = .opening → v.operateTimer.isRunning = true → s.parts.position d ≠ .open →
      exec (.openTimerExpiry d) s = .next (s.settled
        { (s.parts.setDevice d { ended with state := .failed, failure := some .failedOpen }).raise .device with
          notices := told .failed .open ++
            ((v.origin.filter Requester.isTrip).map fun o => Notice.breakerFailure d o).toList })) ∧
    (v.state = .opening → v.operateTimer.isRunning = true → s.parts.position d = .open → ∀ o, v.origin = some o →
      exec (.openTimerExpiry d) s = .next (s.settled
        { s.parts.setDevice d { ended with state := .open } with
          notices := told .done .open ++ tellsPosition d .open (.origin o) ++
            if v.abortedClose then [.conducting d] else [] })) ∧
    (v.persistence.isRunning = true → exec (.persistenceTimerExpiry d) s = .next { s with
      parts := (s.parts.setDevice d { v with state := .uncertain, persistence := .stopped }).raise .device })

/-- A breaker-failure notice (R106 to R112), where the cover counts are as R64 keeps them and no locked device is CLOSING: the
failed device is locked; the backup set is every device but it that is an INCOMER, GENERATOR device or TIE, not RETIRED,
conducting and not FAILED_OPEN, held against a bus the failed device's kind gives; each of them that is CLOSED or CLOSING is
opened for BREAKER_FAILURE under its breaker-failure time; a failed incomer of a side asserts its intertrip, and a failed
GENERATOR device fails its generator with STOP_NOW; the last breaker-failure record and the two flags are written. -/
def Obligations.BreakerFailureTripsTheBackups : Prop :=
  ∀ (d : DeviceId) (o : Requester) (s : Parts), s.coversCounted → s.noLockedClose →
    s.switching.devices[d].state = .failed →
    let u := takeNotice (.breakerFailure d o) s
    let buses : List BusId := match s.topology.index[d] with
      | some ⟨a, .bus b⟩ => [a, b]
      | some ⟨_, .generator _⟩ | none => []
      | some ⟨a, _⟩ => [a]
    ∃ (backup : List DeviceId) (asked : Asked),
      u.protection.lastFailure = some { device := d, origin := o, backup := backup, asked := asked } ∧
      u.isLocked d = true ∧ u.attention.flags.protection = true ∧ u.attention.flags.lockout = true ∧
      backup.Pairwise (· < ·) ∧
      (∀ x : DeviceId, x ∈ backup ↔ x ≠ d ∧ s.isConducting x = true ∧ s.switching.devices[x].state ≠ .retired ∧
        ¬(s.switching.devices[x].state = .failed ∧ s.switching.devices[x].failure = some .failedOpen) ∧
        ∃ e, s.topology.index[x] = some e ∧ e.terminalB.kind ≠ .feeder ∧
          ∃ b ∈ buses, e.terminalA = b ∨ e.terminalB = .bus b) ∧
      (∀ x ∉ backup, u.switching.devices[x] = s.switching.devices[x]) ∧
      (∀ x ∈ backup, ∀ h : Held DeviceSettings, s.store.devices[x] = some h → h.valid →
        s.switching.devices[x].state = .closed ∨ s.switching.devices[x].state = .closing →
        u.switching.devices[x] =
          s.switching.devices[x].openedBy .breakerFailure h.settings.breakerFailureTime) ∧
      (∀ a y, s.topology.index[d] = some ⟨a, .utility y⟩ →
        (s.changeover.scheme = none → asked = .nothing ∧ u.switching.intertrips = s.switching.intertrips) ∧
        ∀ h : Held SchemeSettings, s.changeover.scheme.isSome = true → s.store.scheme = some h → h.valid →
          (∀ i : SideId, h.settings.sides[i].incomer = d → (∀ j : SideId, j < i → h.settings.sides[j].incomer ≠ d) →
            asked = .intertrip ∧ u.switching.intertrips = s.switching.intertrips.set i (some d) ∧
            (s.switching.intertrips[i] = none → u.attention.flags.device = true)) ∧
          ((∀ i : SideId, h.settings.sides[i].incomer ≠ d) →
            asked = .nothing ∧ u.switching.intertrips = s.switching.intertrips)) ∧
      (∀ a g, s.topology.index[d] = some ⟨a, .generator g⟩ → asked = .stopNow ∧
        (s.paralleling.generators[g].state ≠ .unset →
          u.paralleling.generators[g].state = .failed ∧ u.paralleling.generators[g].failure = some .breakerFailure ∧
          u.paralleling.generators[g].run = .stopNow ∧ u.attention.flags.generator = true)) ∧
      ((∀ a y, s.topology.index[d] ≠ some ⟨a, .utility y⟩) → (∀ a g, s.topology.index[d] ≠ some ⟨a, .generator g⟩) →
        asked = .nothing ∧ u.switching.intertrips = s.switching.intertrips)

/-! ## Islands -/

/-- The islands (R50 to R55): each bus in use lies in exactly one and no other bus in any; two buses lie in one exactly where
conducting TIEs lead from the one to the other; its id is its lowest member. It lists what a conducting device of one of its
buses names. It is LIVE with a HIGH bus or a live source, else DEAD where every bus is LOW; its kind is that of its utilities
and ONLINE generators. A recomputation takes them, and tells the units of the islands that differ from the former one of
their id. -/
def Obligations.IslandsAreTheTiedBuses : Prop :=
  ∀ s : Parts,
    let is := computeIslands s
    let feeds (i : Island) (t : TerminalB) : Prop :=
      ∃ (d : DeviceId) (a : BusId), s.topology.conducting[d] = true ∧ s.topology.index[d] = some ⟨a, t⟩ ∧ a ∈ i.members
    let high (i : Island) : Prop := ∃ b ∈ i.members, s.topology.classes[b] = .high
    let source (i : Island) : Prop := (∃ u ∈ i.utilities, s.changeover.utilities[u].qualification = .qualified ∨
        s.changeover.utilities[u].qualification = .failing) ∨ ∃ g ∈ i.generators, s.generatorLive g = true
    let online (i : Island) : Prop := ∃ g ∈ i.generators, s.paralleling.generators[g].state = .online
    (∀ b : BusId, s.topology.inUse[b] = true → ∃ i ∈ is, b ∈ i.members ∧ ∀ j ∈ is, b ∈ j.members → j = i) ∧
    (is.map Island.id).Pairwise (· < ·) ∧
    (∀ i ∈ is, i.id ∈ i.members ∧ i.members.Pairwise (· < ·) ∧ (∀ b ∈ i.members, i.id ≤ b) ∧
      (∀ b ∈ i.members, s.topology.inUse[b] = true) ∧
      (∀ a ∈ i.members, ∀ b : BusId, b ∈ i.members ↔ Relation.ReflTransGen s.tied a b) ∧
      i.utilities.Pairwise (· < ·) ∧ (∀ u, u ∈ i.utilities ↔ feeds i (.utility u)) ∧
      i.generators.Pairwise (· < ·) ∧ (∀ g, g ∈ i.generators ↔ feeds i (.generator g)) ∧
      i.blocks.Pairwise (· < ·) ∧ (∀ l, l ∈ i.blocks ↔ feeds i (.block l)) ∧
      (i.energisation = .live ↔ high i ∨ source i) ∧
      (i.energisation = .dead ↔ ¬source i ∧ ∀ b ∈ i.members, s.topology.classes[b] = .low) ∧
      (i.kind = .utility ↔ i.utilities ≠ [] ∧ ¬online i) ∧ (i.kind = .generator ↔ i.utilities = [] ∧ online i) ∧
      (i.kind = .parallel ↔ i.utilities ≠ [] ∧ online i) ∧ (i.kind = .dead ↔ i.utilities = [] ∧ ¬online i)) ∧
    ∃ ns : List IslandNotice,
      recompute s = { s with
        topology.islands := is
        notices := s.notices ++ if ns = [] then [] else
          [.islands .changeover ns, .islands .paralleling ns, .islands .load ns] } ∧
      ns.map IslandNotice.island = is.filter (fun i => s.topology.islands.find? (·.id == i.id) != some i) ∧
      ∀ n ∈ ns, ∀ b, b ∈ n.oldIds ↔ ∃ o ∈ s.topology.islands, o.id = b ∧ ∃ m ∈ o.members, m ∈ n.island.members

/-! ## Lockouts -/

/-- PLACE LOCKOUT is BAD_REQUEST of a list that is empty, longer than eight or names a device twice, BAD_INDEX of no device
and RANGE of a reason above 255. Else it answers OK with the slot for each device: where no undamaged TAG record is held it
makes the lowest EMPTY slot an ACTIVE TAG record over the devices, counts them in and, in service, sends their lockout
notices; where just one is held, its origin is SUPERVISOR, it is VALID and it has room for them, the devices it does not have
yet join its set, its kind, origin and reason staying, and are counted in and told of alike. A CLOSING device that is then
locked is opened for LOCKOUT under its breaker-failure time; where there is none, nothing else changes but the changed mark
of the record made or rewritten. -/
def Obligations.PlaceLockoutTakesTheLowestEmptySlot : Prop :=
  ∀ (t : Byte) (reason : Nat) (s : State), s.live →
    let turned (ds : List Nat) (a : Status) : Prop :=
      exec (.placeLockout t reason ds) s = .next (s.answers 0x30 t a [] s.parts)
    let undamagedTag (j : SlotId) : Prop :=
      ∃ h, s.parts.store.lockouts[j] = some h ∧ h.settings.kind = .tag ∧ h.integrity ≠ .damaged
    (∀ ds, ds = [] ∨ 8 < ds.length ∨ ¬ds.Nodup → turned ds .badRequest) ∧
    (∀ ds, ds ≠ [] → ds.length ≤ 8 → ds.Nodup → (∃ d ∈ ds, 48 ≤ d) → turned ds .badIndex) ∧
    ∀ named : List DeviceId, named ≠ [] → named.length ≤ 8 → named.Nodup →
      let locked (d : DeviceId) (former : List DeviceId) : Prop :=
        s.parts.isLocked d = true ∨ (d ∈ named ∧ d ∉ former)
      let aborted (p : Parts) (former : List DeviceId) : Prop := ∀ (d : DeviceId) (y : Held DeviceSettings),
        s.parts.switching.devices[d].state = .closing → locked d former → s.parts.store.devices[d] = some y → y.valid →
        p.switching.devices[d] = s.parts.switching.devices[d].openedBy .lockout y.settings.breakerFailureTime
      let noneAborted (former : List DeviceId) : Prop :=
        ∀ d : DeviceId, s.parts.switching.devices[d].state = .closing → ¬locked d former
      (255 < reason → turned (named.map Fin.val) .range) ∧
      (∀ k : SlotId, reason ≤ 255 → (∀ j, ¬undamagedTag j) → s.parts.store.lockouts[k] = none →
        (∀ j : SlotId, j < k → s.parts.store.lockouts[j] ≠ none) →
        ∃ p, exec (.placeLockout t reason (named.map Fin.val)) s =
            .next (s.answers 0x30 t .ok (named.map fun _ => byte k.val) (settle p)) ∧
          p.store.lockouts = s.parts.store.lockouts.set k (some (Held.fresh
              { kind := .tag, origin := .supervisor, devices := ascending named, reason := reason })) ∧
          (∀ d : DeviceId, p.lockouts.cover[d] = s.parts.lockouts.cover[d] + if d ∈ named then 1 else 0) ∧
          p.lockouts.pending = s.parts.lockouts.pending ∧ aborted p [] ∧
          (noneAborted [] →
            p.attention = { s.parts.attention with changed := s.parts.attention.changed.set (lockoutIndex k) true } ∧
            p.notices = (if s.parts.service.inService then
              (allDevices.filter named.contains).map fun d =>
                .lockout d (s.parts.lockouts.cover[d] + 1) (s.parts.isPending d) (!s.parts.isLocked d) else []) ∧
            { p with store.lockouts := s.parts.store.lockouts, lockouts := s.parts.lockouts
                     attention := s.parts.attention, notices := [] } = s.parts)) ∧
      (∀ (k : SlotId) (h : Held LockoutSettings), reason ≤ 255 → s.parts.store.lockouts[k] = some h → h.valid →
        h.settings.kind = .tag → h.settings.origin = .supervisor → (∀ j, j ≠ k → ¬undamagedTag j) →
        h.settings.devices.length + (named.filter fun d => !h.settings.devices.contains d).length ≤ 8 →
        let fresh := allDevices.filter fun d => named.contains d && !h.settings.devices.contains d
        ∃ p, exec (.placeLockout t reason (named.map Fin.val)) s =
            .next (s.answers 0x30 t .ok (named.map fun _ => byte k.val) (settle p)) ∧
          (fresh = [] → p.store.lockouts = s.parts.store.lockouts) ∧
          (fresh ≠ [] → ∃ ds, (∀ d, d ∈ ds ↔ d ∈ h.settings.devices ∨ d ∈ named) ∧
            p.store.lockouts = s.parts.store.lockouts.set k (some { h with
              settings := { h.settings with devices := ds }
              code := { covers := { h.settings with devices := ds }, restores := true } })) ∧
          (∀ d : DeviceId, p.lockouts.cover[d] = s.parts.lockouts.cover[d] + if d ∈ fresh then 1 else 0) ∧
          p.lockouts.pending = s.parts.lockouts.pending ∧ aborted p h.settings.devices ∧
          (noneAborted h.settings.devices →
            p.attention = { s.parts.attention with changed :=
              if fresh = [] then s.parts.attention.changed else s.parts.attention.changed.set (lockoutIndex k) true } ∧
            p.notices = (if s.parts.service.inService then
              fresh.map fun d =>
                .lockout d (s.parts.lockouts.cover[d] + 1) (s.parts.isPending d) (!s.parts.isLocked d) else []) ∧
            { p with store.lockouts := s.parts.store.lockouts, lockouts := s.parts.lockouts
                     attention := s.parts.attention, notices := [] } = s.parts))

/-- ADD DEVICES puts the named devices that a TAG does not have yet, and no other undamaged TAG has, into its set and DROP
DEVICES takes named ones out while others are left; both rewrite the record with a new check code, set its changed mark and
count the devices in or out. That ADD does so even where it has every named device is the model's choice
(notes/assumptions/19.md). A CLOSING device that is locked after an ADD is opened for LOCKOUT under its breaker-failure
time; where there is none, nothing else changes. -/
def Obligations.AddAndDropDevicesRewriteTheSet : Prop :=
  ∀ (t : Byte) (k : SlotId) (named : List DeviceId) (h : Held LockoutSettings) (s : State), s.live →
    named ≠ [] → named.length ≤ 8 → named.Nodup →
    s.parts.store.lockouts[k] = some h → h.valid → h.settings.kind = .tag →
    let rewritten (p : Parts) : Prop := ∃ ds, p.store.lockouts =
        s.parts.store.lockouts.set k (some { h with
          settings := { h.settings with devices := ds }
          code := { covers := { h.settings with devices := ds }, restores := true } }) ∧
      p.lockouts.pending = s.parts.lockouts.pending ∧ p.attention.changed[lockoutIndex k] = true
    let nothingElse (p : Parts) : Prop :=
      p.attention = { s.parts.attention with changed := s.parts.attention.changed.set (lockoutIndex k) true } ∧
      { p with store.lockouts := s.parts.store.lockouts, lockouts := s.parts.lockouts
               attention := s.parts.attention, notices := [] } = s.parts
    let setNow (p : Parts) : List DeviceId := (p.store.lockouts[k].map fun x => x.settings.devices).getD []
    let locked (d : DeviceId) : Prop := s.parts.isLocked d = true ∨ (d ∈ named ∧ d ∉ h.settings.devices)
    (h.settings.devices.length + (named.filter fun d => !h.settings.devices.contains d).length ≤ 8 →
      (∀ j : SlotId, j ≠ k → ∀ x, s.parts.store.lockouts[j] = some x → x.settings.kind = .tag →
        x.integrity = .damaged ∨ ∀ d ∈ named, d ∉ x.settings.devices) →
      ∃ p, exec (.addDevices t k.val (named.map Fin.val)) s = .next (s.answers 0x31 t .ok [] (settle p)) ∧
        rewritten p ∧ (∀ d, d ∈ setNow p ↔ d ∈ h.settings.devices ∨ d ∈ named) ∧
        (∀ d : DeviceId, p.lockouts.cover[d] =
          s.parts.lockouts.cover[d] + if d ∈ named ∧ d ∉ h.settings.devices then 1 else 0) ∧
        (∀ (d : DeviceId) (y : Held DeviceSettings), s.parts.switching.devices[d].state = .closing → locked d →
          s.parts.store.devices[d] = some y → y.valid →
          p.switching.devices[d] = s.parts.switching.devices[d].openedBy .lockout y.settings.breakerFailureTime) ∧
        ((∀ d : DeviceId, s.parts.switching.devices[d].state = .closing → ¬locked d) → nothingElse p)) ∧
    ((∀ d ∈ named, d ∈ h.settings.devices) → (∃ d ∈ h.settings.devices, d ∉ named) →
      ∃ p, exec (.dropDevices t k.val (named.map Fin.val)) s = .next (s.answers 0x32 t .ok [] (settle p)) ∧
        rewritten p ∧ nothingElse p ∧ (∀ d, d ∈ setNow p ↔ d ∈ h.settings.devices ∧ d ∉ named) ∧
        ∀ d : DeviceId, p.lockouts.cover[d] = s.parts.lockouts.cover[d] - if d ∈ named then 1 else 0)

/-- RELEASE LOCKOUT frees a record that is not DAMAGED, whatever its kind, with no entry pending and no locked device CLOSING:
the slot becomes EMPTY, each device of its set loses one from its count, and in service the lockout notices go out. Of an
EMPTY slot it is STATE. -/
def Obligations.ReleaseLockoutFreesTheSlot : Prop :=
  ∀ (t : Byte) (k : SlotId) (s : State), s.live →
    (s.parts.store.lockouts[k] = none →
      exec (.releaseLockout t k.val) s = .next (s.answers 0x33 t .state [] s.parts)) ∧
    ∀ h, s.parts.store.lockouts[k] = some h → h.integrity ≠ .damaged → h.code.covers.devices.Nodup →
      s.parts.lockouts.pending = [] → s.parts.service.hold.lockoutPending = false → s.parts.noLockedClose →
      ∃ p, exec (.releaseLockout t k.val) s = .next (s.answers 0x33 t .ok [] (settle p)) ∧
        p.store = { s.parts.store with lockouts := s.parts.store.lockouts.set k none } ∧
        (∀ d : DeviceId, p.lockouts.cover[d] =
          s.parts.lockouts.cover[d] - if d ∈ h.code.covers.devices then 1 else 0) ∧
        p.lockouts.pending = [] ∧ p.attention.flags = s.parts.attention.flags ∧
        p.attention.changed = s.parts.attention.changed.set (lockoutIndex k) true ∧
        p.notices = (if s.parts.service.inService then
          (allDevices.filter fun d => h.code.covers.devices.contains d && s.parts.lockouts.cover[d] != 0).map fun d =>
            .lockout d (s.parts.lockouts.cover[d] - 1) false false else []) ∧
        { p with store := s.parts.store, lockouts := s.parts.lockouts, attention := s.parts.attention, notices := [] } =
          s.parts

/-- The pending list (R63, R66, R67) and a DAMAGED record (R70). With no EMPTY slot and no undamaged TAG, PLACE LOCKOUT
gives each named device that is not locked a pending entry, at its place in ascending order, with the LOCKOUT flag and in
service the hold; it answers PENDING, and COVERED of a device only covered; a CLOSING device that gets an entry is opened
for LOCKOUT. A RELEASE that makes a slot EMPTY takes the head entry into it as a record of its own, or, where it is the only
entry and another record of its kind and origin has room, into that one; the hold ends with the list. A RELEASE of a DAMAGED
record changes no count, and LOCKOUT_DAMAGED ends with the last of them. That an entry both covered and pending is PENDING
is the model's choice (notes/assumptions/35.md). -/
def Obligations.PendingLockoutsWaitForASlot : Prop :=
  ∀ (t : Byte) (s : State), s.live →
    let old := s.parts.lockouts.pending
    let hold := s.parts.service.hold
    let releases (k : SlotId) (p : Parts) : Prop :=
      exec (.releaseLockout t k.val) s = .next (s.answers 0x33 t .ok [] (settle p)) ∧ p.switching = s.parts.switching
    let freed (k : SlotId) (h : Held LockoutSettings) : Prop :=
      s.parts.store.lockouts[k] = some h ∧ h.integrity ≠ .damaged ∧ (writtenSet h).Nodup ∧ s.parts.noLockedClose
    let ofEntry (x : Held LockoutSettings) (e : PendingEntry) : Prop :=
      x.settings.kind = e.kind ∧ x.settings.origin = e.origin
    let counted (p : Parts) (h : Held LockoutSettings) (e : PendingEntry) : Prop := ∀ d : DeviceId,
      p.lockouts.cover[d] =
        s.parts.lockouts.cover[d] - (if d ∈ writtenSet h then 1 else 0) + if d = e.device then 1 else 0
    (∀ (reason : Nat) (named : List DeviceId), named ≠ [] → named.length ≤ 8 → named.Nodup → reason ≤ 255 →
      (∀ k : SlotId, s.parts.store.lockouts[k] ≠ none) →
      (∀ (k : SlotId) h, s.parts.store.lockouts[k] = some h → h.settings.kind = .tag → h.integrity = .damaged) →
      let waits (d : DeviceId) : Prop := d ∈ named ∧ s.parts.isLocked d = false
      let anyWaits := named.any fun d => !s.parts.isLocked d
      ∃ p, exec (.placeLockout t reason (named.map Fin.val)) s = .next (s.answers 0x30 t .ok
          (named.map fun d => if s.parts.isPending d || !s.parts.isLocked d then 0xFE else 0xFF) (settle p)) ∧
        p.store.lockouts = s.parts.store.lockouts ∧ p.lockouts.cover = s.parts.lockouts.cover ∧
        (∀ e, e ∈ p.lockouts.pending ↔ e ∈ old ∨
          ∃ d, waits d ∧ e = { device := d, kind := .tag, origin := .supervisor, reason := reason }) ∧
        ((old.map PendingEntry.device).Pairwise (· < ·) → (p.lockouts.pending.map PendingEntry.device).Pairwise (· < ·)) ∧
        p.attention.flags.lockout = (s.parts.attention.flags.lockout || anyWaits) ∧
        p.service.hold = { hold with lockoutPending := hold.lockoutPending || (s.parts.service.inService && anyWaits) } ∧
        ∀ (d : DeviceId) (y : Held DeviceSettings), s.parts.switching.devices[d].state = .closing → waits d →
          s.parts.store.devices[d] = some y → y.valid →
          p.switching.devices[d] = s.parts.switching.devices[d].openedBy .lockout y.settings.breakerFailureTime) ∧
    (∀ (k : SlotId) h e rest, freed k h → old = e :: rest → (∀ j : SlotId, j ≠ k → s.parts.store.lockouts[j] ≠ none) →
      (∀ j : SlotId, j ≠ k → ∀ x, s.parts.store.lockouts[j] = some x → ofEntry x e → x.integrity = .damaged) →
      ∃ p, releases k p ∧ counted p h e ∧ p.lockouts.pending = rest ∧
        p.store = { s.parts.store with lockouts := s.parts.store.lockouts.set k (some (Held.fresh
          { kind := e.kind, origin := e.origin, devices := [e.device], reason := e.reason })) } ∧
        p.attention = { s.parts.attention with
          flags.lockout := true, changed := s.parts.attention.changed.set (lockoutIndex k) true } ∧
        p.service.hold = { hold with lockoutPending := hold.lockoutPending && !rest.isEmpty }) ∧
    (∀ (k j : SlotId) h x e, freed k h → old = [e] → j ≠ k → s.parts.store.lockouts[j] = some x → x.valid →
      ofEntry x e → x.settings.devices.length < 8 → e.device ∉ x.settings.devices →
      (∀ i : SlotId, i ≠ k → i ≠ j → ∀ y, s.parts.store.lockouts[i] = some y → ofEntry y e → y.integrity = .damaged) →
      ∃ p, releases k p ∧ counted p h e ∧ p.lockouts.pending = [] ∧ p.store.lockouts[k] = none ∧
        (∃ y, p.store.lockouts[j] = some y ∧ y.valid ∧ ofEntry y e ∧
          ∀ d, d ∈ y.settings.devices ↔ d = e.device ∨ d ∈ x.settings.devices) ∧
        p.service.hold = { hold with lockoutPending := false }) ∧
    ∀ (k : SlotId) h, s.parts.store.lockouts[k] = some h → h.integrity = .damaged → old = [] → s.parts.noLockedClose →
      ∃ p, releases k p ∧ p.store = { s.parts.store with lockouts := s.parts.store.lockouts.set k none } ∧
        p.lockouts = s.parts.lockouts ∧
        p.attention = { s.parts.attention with changed := s.parts.attention.changed.set (lockoutIndex k) true } ∧
        p.service.hold = { hold with
          lockoutPending := false
          lockoutDamaged := hold.lockoutDamaged && allSlots.any fun j => j != k && isDamaged s.parts.store.lockouts[j] }

/-! ## Field lanes and points -/

/-- Each error of a character counts under CHARACTER. With its marker set it ends an assembly under way as TRUNCATED; without an
error and with a header that gives a length it begins one, with one that gives none it counts under KIND, and with an error it
begins none. With its marker clear it joins the assembly, marking it bad by an error, or is dropped where there is none; the
last character of a bad frame ends it with no more effect, and that of a frame not of the lane's kind counts it under KIND. On
a DISABLED lane a character does nothing, and neither does one on a lane still spacing after a break, not even counting its
errors, which is the model's (DEDUCED, notes/assumptions/20.md). -/
def Obligations.CharactersAssembleFrames : Prop :=
  ∀ (f : LaneId) (y : LaneCharacter) (s : State), s.live →
    let x := s.parts.lanes.lanes[f]
    let b := characterByte y
    let errors := errorCount y
    let counts : DiscardCounts := { x.counts with character := min 65535 (x.counts.character + errors) }
    let cut : DiscardCounts :=
      { counts with truncated := if x.assembly.isSome then min 65535 (x.counts.truncated + 1) else x.counts.truncated }
    let writes (z : LaneLive) : Prop :=
      exec (.laneCharacter f y) s = .next { s with parts.lanes.lanes := s.parts.lanes.lanes.set f z }
    (x.state = .disabled ∨ x.spacing = true → exec (.laneCharacter f y) s = .next s) ∧
    (x.state ≠ .disabled → x.spacing = false →
      (majority y.marker = true →
        (0 < errors → writes { x with counts := cut, assembly := none }) ∧
        (∀ n, errors = 0 → headerLength b = some n → writes { x with
          counts := cut, assembly := some { header := b, length := n, bad := false, bytes := [] } }) ∧
        (errors = 0 → headerLength b = none → writes { x with
          counts := { cut with kind := min 65535 (x.counts.kind + 1) }, assembly := none })) ∧
      (majority y.marker = false →
        (x.assembly = none → writes { x with counts := counts }) ∧
        ∀ a, x.assembly = some a →
          (a.bytes.length + 2 < a.length → writes { x with
            counts := counts, assembly := some { a with bytes := a.bytes ++ [b], bad := a.bad || 0 < errors } }) ∧
          (a.bytes.length + 2 = a.length → a.bad = true ∨ 0 < errors → writes { x with
            counts := counts, assembly := none }) ∧
          (∀ k, a.bytes.length + 2 = a.length → a.bad = false → errors = 0 → headerKind a.header = some k →
            kindMatches k x = false → writes { x with
              counts := { counts with kind := min 65535 (x.counts.kind + 1) }, assembly := none })))

/-- The last character of a frame with no error, of the lane's kind. A wrong CRC is counted as CHECK. On a lane that is UP the
last sequence number again is counted as DUPLICATE and a number 128 to 255 ahead as OLD, all dropped; one 1 to 127 ahead is
accepted at that many intervals, 4 at most. On a lane that is DOWN or SILENT a frame is accepted whatever its number, at one
interval, and brings the lane UP. An acceptance starts the silence timer: a slot of valid quality freshens its point and one
of invalid quality makes it STALE, but for a point under test or not in use; a slot that a MEASURE frame leaves out counts as
missed at a FRESH point, STALE at the silence limit; a GENSTATE frame passes on the unit's state and forms a content. -/
def Obligations.FramesAreJudgedBySequence : Prop :=
  ∀ (f : LaneId) (y : LaneCharacter) (a : Assembly) (k : FrameKind) (q : Byte) (body : List Byte) (s : State), s.live →
    let x := s.parts.lanes.lanes[f]
    let limit := x.entry.elim 0 LaneSettings.silenceLimit
    let bytes := a.bytes ++ [characterByte y]
    let gap (last : Byte) := (q - last).toNat
    let counted (n : DiscardCounts) : Prop :=
      exec (.laneCharacter f y) s = .next { s with
        parts.lanes.lanes := s.parts.lanes.lanes.set f { x with counts := n, assembly := none } }
    let carries (g : Fin 4) (v : PointValues) (z : Byte) : Prop :=
      (k = .measure ∧ inMask a.header g = true ∧ readGroup (groupAt body (slotsBelow a.header g.val)) = some (v, z)) ∨
        (k = .genstate ∧ g = 0 ∧ readGroup (groupAt body 0) = some (v, z))
    let accepted (delta : Nat) : Prop := ∃ u, exec (.laneCharacter f y) s = .next (s.settled u) ∧
      u.lanes.lanes = s.parts.lanes.lanes.set f { x with
        state := .up, lastSequence := some q, assembly := none, counts.accepted := min 65535 (x.counts.accepted + 1)
        silence := .running (limit * s.parts.interval) } ∧
      { u with lanes := s.parts.lanes, attention := s.parts.attention, notices := [] } = s.parts ∧
      (x.state ≠ .up → x.isGeneratorLane = true → Notice.lane f x.state .up ∈ u.notices) ∧
      (∀ v z, k = .genstate → readGroup (groupAt body 0) = some (v, z) →
        Notice.generatorState f (z.toNat.testBit 1) (z.toNat.testBit 2) delta ∈ u.notices ∧
          Notice.formContent f ∈ u.notices) ∧
      ∀ g : Fin 4,
        let o := s.parts.lanes.points[slotPoint f g]
        let n := u.lanes.points[slotPoint f g]
        (o.kind = none ∨ o.status = .test → n = o) ∧
        (∀ v z, o.kind.isSome = true → o.status ≠ .test → carries g v z →
          (z.toNat.testBit 0 = true → n = { o with status := .fresh, values := v, delta := delta, missed := 0 }) ∧
          (z.toNat.testBit 0 = false → n = { o with status := .stale, missed := 0 })) ∧
        (k = .measure → inMask a.header g = false → o.kind.isSome = true →
          (o.status = .fresh →
            n = { o with missed := o.missed + 1, status := if limit ≤ o.missed + 1 then .stale else .fresh }) ∧
          (o.status ≠ .fresh → n = o))
    x.state ≠ .disabled → x.spacing = false → errorCount y = 0 → x.counts.character ≤ 65535 → majority y.marker = false →
    x.assembly = some a → a.bad = false → a.length = bytes.length + 1 → headerKind a.header = some k →
    kindMatches k x = true →
    (bytes.drop (bytes.length - 2) ≠ crcBytes (bytes.take (bytes.length - 2)) →
      counted { x.counts with check := min 65535 (x.counts.check + 1) }) ∧
    (bytes = q :: body ++ crcBytes (q :: body) →
      (x.state = .down ∨ x.state = .silent → accepted s.parts.interval) ∧
      ∀ last, x.state = .up → x.lastSequence = some last →
        (gap last = 0 → counted { x.counts with duplicate := min 65535 (x.counts.duplicate + 1) }) ∧
        (128 ≤ gap last → counted { x.counts with old := min 65535 (x.counts.old + 1) }) ∧
        (0 < gap last → gap last < 128 → accepted (min (gap last) 4 * s.parts.interval)))

/-- A break on a lane that takes characters, and the silence limit of one that is UP, take the lane DOWN or SILENT, raise
the LANE flag where it was UP or SILENT, tell the Paralleling Unit for a GENERATOR lane, and make its FRESH points STALE;
the line's return to marking lets characters in again. -/
def Obligations.BreakAndSilenceDropTheLane : Prop :=
  ∀ (f : LaneId) (s : State), s.live →
    let x := s.parts.lanes.lanes[f]
    let broken : LaneLive := { x with
      assembly := none, lastSequence := none, spacing := true, counts.breaks := min 65535 (x.counts.breaks + 1) }
    let dropped (i : Instr) (z : LaneLive) : Prop := ∃ u, exec i s = .next (s.settled u) ∧
      u.lanes.lanes = s.parts.lanes.lanes.set f z ∧ u.attention.flags = { s.parts.attention.flags with lane := true } ∧
      (∀ k : Fin 4, u.lanes.points[slotPoint f k] = { s.parts.lanes.points[slotPoint f k] with
        status := if s.parts.lanes.points[slotPoint f k].status = .fresh then .stale
          else s.parts.lanes.points[slotPoint f k].status }) ∧
      (∀ p : PointId, laneOfPoint p ≠ f → u.lanes.points[p] = s.parts.lanes.points[p]) ∧
      (x.isGeneratorLane = true → Notice.lane f x.state z.state ∈ u.notices) ∧
      { u with lanes := s.parts.lanes, attention := s.parts.attention, notices := [] } = s.parts
    (x.state = .disabled ∨ x.spacing = true → exec (.laneBreak f) s = .next s) ∧
    (x.state = .down → x.spacing = false → exec (.laneBreak f) s = .next { s with
      parts.lanes.lanes := s.parts.lanes.lanes.set f broken }) ∧
    (x.state = .up ∨ x.state = .silent → x.spacing = false →
      dropped (.laneBreak f) { broken with state := .down, silence := .stopped }) ∧
    (x.state = .up → x.silence.isRunning = true →
      dropped (.silenceTimerExpiry f) { x with state := .silent, silence := .stopped }) ∧
    exec (.lineReturnsToMarking f) s = .next { s with
      parts.lanes.lanes := s.parts.lanes.lanes.set f { x with spacing := false } }

/-- The end of a SETPOINT transmission begins that of the content waiting, which takes the outbound sequence number and
advances it, or leaves the lane free; with none under way it does nothing. The transmit line carries the frame's bytes as
characters without an error, with the marker bit set on the header alone. -/
def Obligations.TransmissionsFollowOneAnother : Prop :=
  ∀ (f : LaneId) (s : State), s.live →
    let x := s.parts.lanes.lanes[f]
    (x.sending = none → exec (.setpointTransmitDone f) s = .next s ∧ s.transmitLine f = []) ∧
    (x.sending.isSome = true → x.waiting = none → exec (.setpointTransmitDone f) s = .next { s with
      parts.lanes.lanes := s.parts.lanes.lanes.set f { x with sending := none } }) ∧
    (∀ c, x.sending.isSome = true → x.waiting = some c → exec (.setpointTransmitDone f) s = .next { s with
      parts.lanes.lanes := s.parts.lanes.lanes.set f { x with
        sending := some { sequence := x.outbound, content := c }, waiting := none, outbound := x.outbound + 1 } }) ∧
    ∀ y, x.sending = some y →
      let run : Byte := match y.content.run with
        | .stop => 0
        | .run => 1
        | .stopNow => 2
      let body := y.sequence :: run :: (bytes16 y.content.target ++ bytesSigned16 y.content.frequencyNudge ++
        bytesSigned16 y.content.voltageNudge)
      let line := s.transmitLine f
      line.map characterByte = 0x30 :: (body ++ crcBytes body) ∧ (∀ w ∈ line, errorCount w = 0) ∧
        (line.map fun w => majority w.marker) = true :: List.replicate (line.length - 1) false

/-- TEST INJECT of values in range on a FEEDER point in use keeps what the point held, applies the values as one update
and starts both timers; a test interval applies them again; END TEST and the duration give the point back what it
held, with the status its lane now gives. -/
def Obligations.TestsSubstituteAndReturnAPoint : Prop :=
  ∀ (t : Byte) (p : PointId) (s : State), s.live → s.parts.service.inService = true →
    let x := s.parts.lanes.points[p]
    let users (k : Option PointKind) (n : PointNotice) : List Notice :=
      ((if (allElements.any fun e => s.parts.protection.watch[e] == some p) = true then [PointUser.protection] else []) ++
        k.elim [] pointUsers).map fun u => .point u n
    let applied (h : TestHold) : Parts → Prop := fun u =>
      u.lanes.lanes = s.parts.lanes.lanes ∧
      u.lanes.points = s.parts.lanes.points.set p { x with
        status := .test, values := h.values, delta := s.parts.interval, missed := 0, test := some h } ∧
      u.notices = users x.kind { point := p, status := .test, values := h.values, endOfTest := false,
                                 update := some { delta := s.parts.interval, test := some h.mode } } ∧
      u.attention.flags = s.parts.attention.flags ∧
      { u with lanes := s.parts.lanes, attention := s.parts.attention, notices := [] } = s.parts
    (∀ v m n, x.kind = some .feeder → x.status ≠ .test → valuesInRange v = true → 1 ≤ n → n ≤ 600 →
      ∃ u, exec (.testInject t p.val v m n) s = .next (s.answers 0x41 t .ok [] (settle u)) ∧
        applied { heldStatus := x.status, heldValues := x.values, heldDelta := x.delta, values := v, mode := m,
                  interval := .running s.parts.interval, duration := .running (n * 1000) } u ∧
        u.lanes.testCount = s.parts.lanes.testCount + 1) ∧
    (∀ h, x.test = some h → x.status = .test → h.interval.isRunning = true →
      ∃ u, exec (.testIntervalExpiry p) s = .next (s.settled u) ∧
        applied { h with interval := .running s.parts.interval } u ∧ u.lanes.testCount = s.parts.lanes.testCount) ∧
    (∀ h, x.test = some h →
      let back := if h.heldStatus = .fresh then
          (if s.parts.lanes.lanes[laneOfPoint p].state = .up then PointStatus.fresh else .stale)
        else if h.heldStatus = .stale then .stale else .none
      ∃ u, u.lanes.lanes = s.parts.lanes.lanes ∧
        u.lanes.points = s.parts.lanes.points.set p { x with
          status := back, values := h.heldValues, delta := h.heldDelta, missed := 0, test := none } ∧
        u.lanes.testCount = s.parts.lanes.testCount - 1 ∧
        u.notices = users x.kind { point := p, status := back, values := h.heldValues, update := none, endOfTest := true } ∧
        { u with lanes := s.parts.lanes, attention := s.parts.attention, notices := [] } = s.parts ∧
        exec (.endTest t p.val) s = .next (s.answers 0x42 t .ok [] (settle u)) ∧
        (h.duration.isRunning = true → exec (.testDurationExpiry p) s = .next (s.settled u)))

/-! ## Protection elements -/

/-- The multiple of a picked-up element and the operate time of each curve (R89, R90). 16 × Q ÷ pickup, rounded down, is 16
exactly below 17 ÷ 16 of the pickup and reaches 640 at 40 times it; q is that, limited to 640 and for the inverse curves to at
least 17, and is not used by DEFINITE. The operate time runs over a range within the setting ranges, both ends reached. -/
def Obligations.MultipleAndOperateTimeOfEachCurve : Prop :=
  (∀ (x : ElementSettings) (v : PointValues), 0 < x.pickup → pickedUp x v = true →
    let raw := 16 * quantityOf x v / x.pickup
    16 ≤ raw ∧ (raw = 16 ↔ 16 * quantityOf x v < 17 * x.pickup) ∧ (640 ≤ raw ↔ 40 * x.pickup ≤ quantityOf x v) ∧
    (x.curve ≠ .definite → multiple x v = max 17 (min 640 raw)) ∧
    (x.curve = .definite → multiple x v = min 640 raw ∧ ∀ p q, operateTime x p = operateTime x q)) ∧
  (∀ (x : ElementSettings) (q : Nat),
    (x.curve = .inv1 → operateTime x q = max 1 (x.timeDial * (x.a * 16 / (q - 16) + x.b) / 10)) ∧
    (x.curve = .inv2 → operateTime x q = max 1 (x.timeDial * (x.a * 256 / (q * q - 256) + x.b) / 10)) ∧
    (x.curve = .definite → operateTime x q = max 1 (x.timeDial * x.b / 10)) ∧
    (17 ≤ q → x.a ≤ 65535 → x.b ≤ 10000 → x.timeDial ≤ 100 →
      1 ≤ operateTime x q ∧ (x.curve = .inv1 → operateTime x q ≤ 10585600) ∧
      (x.curve = .inv2 → operateTime x q ≤ 5183920) ∧ (x.curve = .definite → operateTime x q ≤ 100000)) ∧
    (x.curve = .definite → (x.b = 0 ∨ x.timeDial * x.b < 10) → operateTime x q = 1)) ∧
  (∀ x : ElementSettings, x.a = 65535 → x.b = 10000 → x.timeDial = 100 →
    (x.curve = .inv1 → operateTime x 17 = 10585600) ∧ (x.curve = .inv2 → operateTime x 17 = 5183920) ∧
    (x.curve = .definite → operateTime x 17 = 100000)) ∧
  ∀ x : ElementSettings, x.a = 1 → x.b = 0 → x.timeDial = 1 → operateTime x 640 = 1

/-- An update taken by an element that is not DAMAGED or DISABLED and whose record is VALID. Picked up, the accumulator
rises by at least 1 toward 1,048,576, where the element is TRIPPED with its target set; not picked up it falls to 0, or
under TIMED by its decrement, and the element is IDLE at 0 and RESETTING above. A TRIPPED element stays so while picked
up and otherwise becomes IDLE at 0. -/
def Obligations.UpdatesMoveTheAccumulator : Prop :=
  ∀ (v : PointValues) (delta : Nat) (e : ElementId) (h : Held ElementSettings) (s : Parts),
    s.store.elements[e] = some h → h.valid →
    let o := s.protection.elements[e]
    let x := h.settings
    let n := (updateElement v delta s e).protection.elements[e]
    o.state ≠ .damaged → o.state ≠ .disabled →
    n.blind = .stopped ∧
    (pickedUp x v = true → o.state ≠ .tripped →
      let acc := o.accumulator + max 1 (delta * 1048576 / operateTime x (multiple x v))
      (acc < 1048576 → n.state = .pickedUp ∧ n.accumulator = acc ∧ n.target = o.target) ∧
      (1048576 ≤ acc → n.state = .tripped ∧ n.accumulator = 1048576 ∧ n.target = true)) ∧
    (pickedUp x v = true → o.state = .tripped → n.state = .tripped ∧ n.accumulator = o.accumulator) ∧
    (pickedUp x v = false → n.target = o.target ∧
      (o.state = .tripped ∨ x.resetMode = .instant → n.state = .idle ∧ n.accumulator = 0) ∧
      (o.state ≠ .tripped → x.resetMode = .timed →
        n.accumulator = o.accumulator - max 1 (delta * 1048576 / x.resetTime) ∧
        n.state = if n.accumulator = 0 then .idle else .resetting))

/-- RESET ELEMENT (R104): BAD_INDEX of no element, STATE of an EMPTY record, ALREADY with the target mark clear, and OK
where it is set: the mark is cleared, the record's changed mark set, and nothing else changes. -/
def Obligations.ResetElementClearsTheTarget : Prop :=
  ∀ (t : Byte) (s : State), s.live →
    (∀ element, 64 ≤ element → exec (.resetElement t element) s = .next (s.answers 0x40 t .badIndex [] s.parts)) ∧
    ∀ e : ElementId,
      (s.parts.store.elements[e] = none →
        exec (.resetElement t e.val) s = .next (s.answers 0x40 t .state [] s.parts)) ∧
      (s.parts.store.elements[e].isSome = true → s.parts.protection.elements[e].target = false →
        exec (.resetElement t e.val) s = .next (s.answers 0x40 t .already [] s.parts)) ∧
      (s.parts.store.elements[e].isSome = true → s.parts.protection.elements[e].target = true →
        exec (.resetElement t e.val) s = .next (s.answers 0x40 t .ok [] { s.parts with
          protection.elements :=
            s.parts.protection.elements.set e { s.parts.protection.elements[e] with target := false }
          attention.changed := s.parts.attention.changed.set (elementIndex e) true }))

/-- The timers of an element. A blind timer that expires becomes EXPIRED and puts its guarded device in the UNPROTECTED set,
with the PROTECTION flag where it was not in it, and sets its changed mark. A zone timer that expires makes its element
TRIPPED with a full accumulator and its target set, raises the PROTECTION flag, and under a TRIP action opens a CLOSED guarded
device for PROTECTION under its breaker-failure time; a BLOCKED test withholds every action. -/
def Obligations.ElementTimersExpire : Prop :=
  ∀ (e : ElementId) (s : State), s.live →
    let x := s.parts.protection.elements[e]
    let standing := (s.parts.protection.watch[e]).bind fun p => s.parts.protection.testStanding[p]
    (x.blind.isRunning = false → exec (.blindTimerExpiry e) s = .next s) ∧
    (x.blind.isRunning = true →
      let changed := s.parts.attention.changed.set (elementIndex e) true
      (s.parts.protection.guards[e] = none → exec (.blindTimerExpiry e) s = .next { s with
        parts.protection.elements := s.parts.protection.elements.set e { x with blind := .ended }
        parts.attention.changed := changed }) ∧
      (∀ d, s.parts.protection.guards[e] = some d → exec (.blindTimerExpiry e) s = .next { s with
        parts.protection.elements := s.parts.protection.elements.set e { x with blind := .ended }
        parts.protection.unprotected := s.parts.protection.unprotected.set d true
        parts.attention.changed := changed
        parts.attention.flags.protection :=
          s.parts.attention.flags.protection || !s.parts.protection.unprotected[d] })) ∧
    (x.zone.isRunning = false → exec (.zoneTimerExpiry e) s = .next s) ∧
    (∀ h, x.zone.isRunning = true → s.parts.store.elements[e] = some h → h.valid →
      ∃ u, exec (.zoneTimerExpiry e) s = .next (s.settled u) ∧
        u.protection.elements[e] = { x with state := .tripped, accumulator := 1048576, zone := .stopped, target := true } ∧
        u.attention.flags.protection = true ∧
        (standing = some .blocked → u.switching = s.parts.switching ∧ u.lockouts = s.parts.lockouts ∧
          u.store.lockouts = s.parts.store.lockouts) ∧
        (∀ y, standing ≠ some .blocked → h.settings.actions.trip = true →
          s.parts.switching.devices[h.settings.guarded].state = .closed →
          s.parts.store.devices[h.settings.guarded] = some y → y.valid →
          u.switching.devices[h.settings.guarded] = { s.parts.switching.devices[h.settings.guarded] with
            state := .opening, owner := some .protection, origin := some .protection, failure := none,
            authorisations := ⟨false, false⟩, operateTimer := .running y.settings.breakerFailureTime,
            persistence := .stopped, abortedClose := false }))

/-! ## Intake changeover -/

/-- SCHEME MODE: STATE without a scheme in service, ALREADY in the mode named. MANUAL puts both sides in MANUAL, frees the
claim and withdraws every request (supply, pre-sheds, island syncs), leaving operations in flight; AUTO takes the record's
settings and the derived states: NORMAL for a side fed by its own incomer alone from a utility that is live. AUTO of a DAMAGED
record is DAMAGED and changes nothing; of one found INVALID it is DAMAGED, and the record and the scheme take their
fallback. -/
def Obligations.SchemeModeIsTaken : Prop :=
  ∀ (t : Byte) (s : State), s.live →
    (∀ m, (s.parts.service.inService = false ∨ s.parts.changeover.scheme = none) →
      exec (.schemeMode t m) s = .next (s.answers 0x50 t .state [] s.parts)) ∧
    (s.parts.service.inService = true → s.parts.changeover.scheme.isSome = true →
      exec (.schemeMode t s.parts.changeover.mode) s = .next (s.answers 0x50 t .already [] s.parts) ∧
      (s.parts.changeover.mode = .auto → ∃ u,
        exec (.schemeMode t .manual) s = .next (s.answers 0x50 t .ok [] (settle u)) ∧
        u.changeover.mode = .manual ∧ u.changeover.claim = none ∧ u.switching = s.parts.switching ∧
        u.paralleling.islandSync = none ∧ u.paralleling.waitingSync = none ∧
        ∀ i : SideId, u.load.preSheds[i] = none ∧ u.changeover.sides[i].state = .manual ∧ u.changeover.sides[i].supply = false ∧
          u.changeover.sides[i].dead = .stopped ∧ u.changeover.sides[i].sync = .stopped) ∧
      (∀ h, s.parts.changeover.mode = .manual → s.parts.store.scheme = some h → h.integrity = .damaged →
        exec (.schemeMode t .auto) s = .next (s.answers 0x50 t .damaged [] s.parts)) ∧
      (∀ h, s.parts.changeover.mode = .manual → s.parts.store.scheme = some h → h.integrity ≠ .damaged →
        h.settings ≠ h.code.covers → h.code.restores = false → ∃ u,
        exec (.schemeMode t .auto) s = .next (s.answers 0x50 t .damaged [] (settle u)) ∧
        u.store.scheme = some { h with integrity := .damaged } ∧ u.attention.flags.record = true ∧
        u.attention.flags.changeover = true ∧ u.attention.changed[schemeIndex] = true ∧ u.changeover.mode = .manual ∧
        u.changeover.scheme = s.parts.changeover.scheme ∧ ∀ i : SideId, u.changeover.sides[i].state = .manual) ∧
      (∀ h, s.parts.changeover.mode = .manual → s.parts.store.scheme = some h → h.valid →
        let y := h.settings
        let taken : Parts := { s.parts with changeover.scheme := some y, changeover.mode := .auto }
        exec (.schemeMode t .auto) s = .next (s.answers 0x50 t .ok [] (settle (onSides takeDerived taken))) ∧
        ((∀ i : SideId, s.parts.switching.devices[y.sides[i].incomer].state = .closed ∧
            (∀ d, y.sides[i].generatorTie = some d → s.parts.switching.devices[d].state = .open) ∧
            s.parts.changeover.utilities[y.sides[i].utility].qualification.isLive = true) →
          (∀ d, y.tie = some d → s.parts.switching.devices[d].state = .open) →
          ∀ i : SideId, (onSides takeDerived taken).changeover.sides[i].state = .normal ∧
            (onSides takeDerived taken).changeover.sides[i].feeding = some y.sides[i].incomer)))

/-- RESET SIDE is BAD_INDEX of no side, STATE of a side that is not LOCKED in AUTO or has a locked scheme device, and else
OK: the side takes its derived state, AWAIT_SOURCE where its three devices are OPEN, with the CHANGEOVER flag. -/
def Obligations.ResetSideTakesTheDerivedState : Prop :=
  ∀ (t : Byte) (s : State), s.live →
    (∀ side, 2 ≤ side → exec (.resetSide t side) s = .next (s.answers 0x51 t .badIndex [] s.parts)) ∧
    ∀ i : SideId,
      let state : Prop := exec (.resetSide t i.val) s = .next (s.answers 0x51 t .state [] s.parts)
      (s.parts.service.inService = false ∨ s.parts.changeover.scheme = none ∨ s.parts.changeover.mode = .manual ∨
        s.parts.changeover.sides[i].state ≠ .locked → state) ∧
      ∀ y, s.parts.service.inService = true → s.parts.changeover.scheme = some y → s.parts.changeover.mode = .auto →
        s.parts.changeover.sides[i].state = .locked →
        let ds := y.sides[i].incomer :: (y.sides[i].generatorTie.toList ++ y.tie.toList)
        ((∃ d ∈ ds, s.parts.isLocked d = true) → state) ∧
        ((∀ d ∈ ds, s.parts.isLocked d = false) →
          exec (.resetSide t i.val) s = .next (s.answers 0x51 t .ok [] (settle (onSide i (takeDerived i) s.parts))) ∧
          ((∀ d ∈ ds, s.parts.switching.devices[d].state = .open) →
            (onSide i (takeDerived i) s.parts).changeover.sides[i].state = .awaitSource ∧
            (onSide i (takeDerived i) s.parts).attention.flags.changeover = true))

/-- The loss timer makes its utility LOST and the return timer QUALIFIED; a timer that is FROZEN or not running does not
expire. With no scheme in service that is all but for the islands, the changed mark and, for LOST, the CHANGEOVER flag; with
one the sides then judge the change. The timers of a side. A dead timer that expires becomes ELAPSED; in DEAD_WAIT on a DEAD
bus, without a tie or a qualified utility, the side then waits for the generator where it has a generator tie, taking the
supply request, and else for a source. A retransfer sync timer that expires in RT_SYNC gives up the synchronised transfer:
the side enters RT_OPENING and its CLOSED generator tie is opened for CHANGEOVER under the open limit. An overlap timer that
expires restarts, raises the CHANGEOVER flag and has every CLOSED device it falls on opened for OVERLAP under its breaker-
failure time. -/
def Obligations.ChangeoverTimersExpire : Prop :=
  (∀ (u : UtilityId) (s : State), s.live →
     let x := s.parts.changeover.utilities[u]
     let becomes (i : Instr) (q : Qualification) : Prop :=
       let z : UtilityLive := { x with qualification := q, underlying := some q, timer := .stopped }
       exec i s = .next (s.settled (setUtility u z s.parts)) ∧
       (s.parts.changeover.scheme = none →
         (setUtility u z s.parts).changeover =
           { s.parts.changeover with utilities := s.parts.changeover.utilities.set u z } ∧
         (setUtility u z s.parts).attention.flags = { s.parts.attention.flags with
           changeover := s.parts.attention.flags.changeover || (q == .lost && x.qualification != .lost) } ∧
         { setUtility u z s.parts with
           changeover := s.parts.changeover, attention := s.parts.attention, notices := []
           topology.islands := s.parts.topology.islands } = s.parts)
     ((∀ n, x.timer ≠ .loss false n) → exec (.lossTimerExpiry u) s = .next s) ∧
     ((∀ n, x.timer ≠ .back false n) → exec (.returnTimerExpiry u) s = .next s) ∧
     (∀ n, x.timer = .loss false n → becomes (.lossTimerExpiry u) .lost) ∧
     (∀ n, x.timer = .back false n → becomes (.returnTimerExpiry u) .qualified)) ∧
  (∀ (i : SideId) (s : State), s.live →
     let x := s.parts.changeover.sides[i]
     (x.dead.isRunning = false → exec (.deadTimerExpiry i) s = .next s) ∧
     (x.dead.isRunning = true → x.state ≠ .deadWait → x.state ≠ .rtOpening →
       exec (.deadTimerExpiry i) s = .next { s with
         parts.changeover.sides := s.parts.changeover.sides.set i { x with dead := .ended } }) ∧
     (∀ y isl, x.dead.isRunning = true → x.state = .deadWait → s.parts.changeover.scheme = some y → y.tie = none →
       s.parts.islandOf y.sides[i].bus = some isl → isl.energisation = .dead →
       s.parts.changeover.utilities[y.sides[i].utility].qualification ≠ .qualified →
       ∃ u, exec (.deadTimerExpiry i) s = .next (s.settled u) ∧
         (y.generatorBus.isSome = true → y.sides[i].generatorTie.isSome = true →
           u.changeover.sides[i].state = .genWait ∧ u.changeover.sides[i].step = some .wait ∧
           u.changeover.sides[i].supply = true) ∧
         (y.generatorBus = none ∨ y.sides[i].generatorTie = none →
           u.changeover.sides[i].state = .awaitSource ∧ u.attention.flags.changeover = true)) ∧
     (x.state ≠ .rtSync ∨ x.sync.isRunning = false → exec (.retransferSyncTimerExpiry i) s = .next s) ∧
     (∀ d (h : Held DeviceSettings), x.state = .rtSync → x.sync.isRunning = true → s.parts.sideGeneratorTie i = some d →
       s.parts.switching.devices[d].state = .closed → s.parts.store.devices[d] = some h → h.valid →
       ∃ u, exec (.retransferSyncTimerExpiry i) s = .next (s.settled u) ∧
         u.changeover.sides[i] = { x with
           state := .rtOpening, step := none, sync := .stopped, closeSent := false, openWait := .completion d } ∧
         u.switching.devices[d] = { s.parts.switching.devices[d] with
           state := .opening, owner := some .changeover, origin := some .changeover, failure := none,
           authorisations := ⟨false, false⟩, operateTimer := .running h.settings.openLimit, persistence := .stopped,
           abortedClose := false })) ∧
  ∀ (b : BusId) (s : State), s.live →
    ((∀ o ∈ s.parts.changeover.overlaps, o.island ≠ b) → exec (.overlapTimerExpiry b) s = .next s) ∧
    ((∃ o ∈ s.parts.changeover.overlaps, o.island = b) →
      ∃ u, exec (.overlapTimerExpiry b) s = .next (s.settled u) ∧ u.attention.flags.changeover = true ∧
        u.changeover = { s.parts.changeover with
          overlaps := s.parts.changeover.overlaps.map fun o => if o.island = b then { o with elapsed := 0 } else o } ∧
        ∀ isl, s.parts.island? b = some isl → ∀ d ∈ overlapOpens s.parts isl, ∀ h : Held DeviceSettings,
          s.parts.switching.devices[d].state = .closed → s.parts.store.devices[d] = some h → h.valid →
          u.switching.devices[d] = { s.parts.switching.devices[d] with
            state := .opening, owner := some .overlap, origin := some .overlap, failure := none,
            authorisations := ⟨false, false⟩, operateTimer := .running h.settings.breakerFailureTime,
            persistence := .stopped, abortedClose := false })

/-! ## Generator paralleling -/

/-- SYNC CLOSE is BAD_INDEX of no device, STATE while CONFIGURING and of a RETIRED device, AUTHORITY under LOCAL, and STATE
of an INCOMER or FEEDER. Of a GENERATOR device it is DAMAGED where its generator's record or its own is (the model's choice,
notes/assumptions/16.md), and sets the host mark RUN where the generator is STARTING, READY or SYNCING; one that is READY is
placed again, in its bus's queue on a DEAD island, SYNCING on a LIVE one, each without a utility, and on another it leaves
the queues; of a TIE with a GENERATOR island it starts a host tie sync under the sync limit of that island's lowest-indexed
ONLINE generator, terminal B incoming where both are. The expiry of the limit ends the sync, levels the nudges of that
island and raises the GENERATOR flag. -/
def Obligations.SyncCloseAndItsLimit : Prop :=
  ∀ (t : Byte) (s : State), s.live →
    (∀ device, 48 ≤ device → exec (.syncClose t device) s = .next (s.answers 0x21 t .badIndex [] s.parts)) ∧
    (∀ d : DeviceId,
      let answers (a : Status) (p : Parts) : Prop := exec (.syncClose t d.val) s = .next (s.answers 0x21 t a [] p)
      let v := s.parts.switching.devices[d]
      (s.parts.service.inService = false ∨ v.state = .retired → answers .state s.parts) ∧
      (s.parts.service.inService = true → v.state ≠ .retired →
        (s.parts.switching.authority = .localControl → answers .authority s.parts) ∧
        (s.parts.switching.authority = .remoteControl →
          (∀ e, s.parts.topology.index[d] = some e → e.terminalB.kind = .incomer ∨ e.terminalB.kind = .feeder →
            answers .state s.parts) ∧
          (∀ a g, s.parts.topology.index[d] = some ⟨a, .generator g⟩ →
            let x := s.parts.paralleling.generators[g]
            (isDamaged s.parts.store.generators[g] = true ∨ isDamaged s.parts.store.devices[d] = true →
              answers .damaged s.parts) ∧
            (isDamaged s.parts.store.generators[g] = false → isDamaged s.parts.store.devices[d] = false →
              (x.state ≠ .starting → x.state ≠ .ready → x.state ≠ .syncing → answers .state s.parts) ∧
              (x.state = .starting ∨ x.state = .syncing → x.target = 0 → x.sequence = none →
                answers .ok { s.parts with
                  paralleling.generators := s.parts.paralleling.generators.set g { x with mark := .run }
                  attention.changed := s.parts.attention.changed.set (generatorIndex g)
                    (s.parts.attention.changed[generatorIndex g] || x.mark != .run) }) ∧
              (∀ b, x.state = .ready → x.target = 0 → x.sequence = none → s.parts.generatorBus g = some b →
                ∃ u, answers .ok (settle u) ∧
                  ((∀ i, s.parts.islandOf b = some i → i.utilities ≠ [] ∨ i.energisation = .residual) →
                    u.paralleling.generators[g] = { x with mark := .run } ∧ ∀ c : BusId, isQueued u c g = false) ∧
                  (∀ i m, s.parts.islandOf b = some i → i.utilities = [] → i.energisation = .dead →
                    s.parts.paralleling.arbiters[b] = some m → u.paralleling.generators[g] = { x with mark := .run } ∧
                    u.paralleling.arbiters[b] = some (if g ∈ m.queue then m else { m with queue := m.queue ++ [g] })) ∧
                  (∀ i (h : Held GeneratorSettings) (e : Held DeviceSettings), s.parts.islandOf b = some i →
                    i.utilities = [] → i.energisation = .live → s.parts.store.generators[g] = some h → h.valid →
                    s.parts.store.devices[h.settings.device] = some e → e.valid →
                    let n := u.paralleling.generators[g]
                    n.state = .syncing ∧ n.mark = .run ∧ n.run = .run ∧ n.settings = some h.settings ∧
                    n.closingTime = e.settings.closingTime ∧ n.startTimer = .stopped ∧
                    n.syncTimer = .running (h.settings.syncLimit * 1000) ∧ ∀ c : BusId, isQueued u c g = false)))) ∧
          (∀ a b, s.parts.topology.index[d] = some ⟨a, .bus b⟩ →
            let fed (y : BusId) : Bool := (s.parts.islandOf y).any fun i => i.kind == .generator
            (s.parts.paralleling.hostSync.isSome = true ∨ (fed a = false ∧ fed b = false) → answers .state s.parts) ∧
            (∀ h i g z, s.parts.paralleling.hostSync = none → fed a = true ∨ fed b = true →
              s.parts.store.devices[d] = some h → h.valid →
              s.parts.islandOf (if fed b then b else a) = some i → i.generators.find? s.parts.isOnline = some g →
              s.parts.paralleling.generators[g].settings = some z →
              answers .ok { s.parts with
                paralleling.hostSync := some
                  { tie := d, incoming := if fed b then b else a, running := if fed b then a else b,
                    closingTime := h.settings.closingTime, limit := .running (z.syncLimit * 1000) } }))))) ∧
    ((∀ y, s.parts.paralleling.hostSync = some y → y.limit.isRunning = false) →
      exec .hostTieSyncLimitExpiry s = .next s) ∧
    ∀ y, s.parts.paralleling.hostSync = some y → y.limit.isRunning = true →
      ∃ u, exec .hostTieSyncLimitExpiry s = .next (s.settled u) ∧ u.paralleling.hostSync = none ∧
        u.attention.flags.generator = true ∧
        ∀ i, s.parts.islandOf y.incoming = some i → ∀ g ∈ i.generators,
          s.parts.paralleling.generators[g].state = .online →
          u.paralleling.generators[g].frequencyNudge = 0 ∧ u.paralleling.generators[g].voltageNudge = 0

/-- GENERATOR START, GENERATOR STOP and RESET GENERATOR are BAD_INDEX of no generator and STATE while CONFIGURING or without
an ACTIVE record. Of a DAMAGED record START and RESET are DAMAGED. START starts a STOPPED generator under its record's start
limit; STOP unloads one that is ONLINE and cools one that is STARTING under a cooldown; RESET returns one that is FAILED,
with its device not conducting, its lane UP and no supply wanted, to STOPPED. -/
def Obligations.GeneratorRequestsAreJudged : Prop :=
  ∀ (t : Byte) (s : State), s.live →
    (∀ n, 12 ≤ n →
      exec (.generatorStart t n) s = .next (s.answers 0x60 t .badIndex [] s.parts) ∧
      exec (.generatorStop t n) s = .next (s.answers 0x61 t .badIndex [] s.parts) ∧
      exec (.resetGenerator t n) s = .next (s.answers 0x62 t .badIndex [] s.parts)) ∧
    ∀ g : GeneratorId,
      let x := s.parts.paralleling.generators[g]
      let start (a : Status) (p : Parts) : Prop := exec (.generatorStart t g.val) s = .next (s.answers 0x60 t a [] p)
      let stop (a : Status) (p : Parts) : Prop := exec (.generatorStop t g.val) s = .next (s.answers 0x61 t a [] p)
      let reset (a : Status) (p : Parts) : Prop := exec (.resetGenerator t g.val) s = .next (s.answers 0x62 t a [] p)
      let still (y : GeneratorLive) : GeneratorLive := { y with
        startTimer := .stopped, syncTimer := .stopped, unloadTimer := .stopped, cooldownTimer := .stopped,
        frequencyNudge := 0, voltageNudge := 0, target := 0, sequence := none }
      (s.parts.service.inService = false ∨ isActive s.parts.store.generators[g] = false →
        start .state s.parts ∧ stop .state s.parts ∧ reset .state s.parts) ∧
      ∀ h, s.parts.service.inService = true → s.parts.store.generators[g] = some h → h.retired = false →
        (h.integrity = .damaged → start .damaged s.parts ∧ reset .damaged s.parts) ∧
        (h.valid →
          (x.state = .unavailable ∨ x.state = .failed ∨ x.state = .unloading ∨ x.state = .disconnecting ∨
            x.state = .cooldown → start .state s.parts) ∧
          (x.state = .stopped → x.mark = .run → start .already s.parts) ∧
          (x.state = .stopped → x.mark ≠ .run → ∃ p, start .ok p ∧
            p.paralleling.generators[g] = { still x with
              state := .starting, run := .run, mark := .run, reference := none, settings := some h.settings,
              startTimer := .running (h.settings.startLimit * 1000) } ∧
            (∀ j : GeneratorId, j ≠ g → p.paralleling.generators[j] = s.parts.paralleling.generators[j]) ∧
            { p with paralleling := s.parts.paralleling, lanes := s.parts.lanes, attention := s.parts.attention } =
              s.parts)) ∧
        (x.mark = .held → x.state = .stopped ∨ x.state = .unavailable ∨ x.state = .cooldown ∨ x.state = .failed →
          stop .already s.parts) ∧
        (x.state = .online → ∃ u, stop .ok (settle u) ∧
          u.paralleling.generators[g] = { x with
            state := .unloading, mark := .held, target := 0
            unloadTimer := .running (s.parts.service.station.elim 0 StationSettings.unloadLimit * 1000) } ∧
          Notice.rating ∈ u.notices) ∧
        (∀ y, x.state = .starting → x.settings = some y → y.cooldown ≠ 0 → ∃ u, stop .ok (settle u) ∧
          u.paralleling.generators[g] = { still x with
            state := .cooldown, run := .stop, mark := .held, reference := none
            cooldownTimer := .running (y.cooldown * 1000) }) ∧
        (∀ d, x.state = .failed → x.failure ≠ some .damaged → h.integrity ≠ .damaged →
          s.parts.generatorDevice g = some d →
          (s.parts.isConducting d = true → reset .state s.parts) ∧
          (s.parts.isConducting d = false → s.parts.laneUp g = true → s.parts.supplyWanted = false →
            ∃ p, reset .ok p ∧ p.paralleling.generators[g] = { still x with
              state := .stopped, run := .stop, mark := .none, failure := none })) ∧
        (x.state ≠ .failed → h.integrity ≠ .damaged → x.mark = .none → reset .state s.parts) ∧
        (x.state ≠ .failed → h.integrity ≠ .damaged → x.mark ≠ .none → ∃ u, reset .ok (settle u) ∧
          u.paralleling.generators[g].mark = .none ∧ u.paralleling.generators[g].state = x.state)

/-- The timers of a generator. The start limit fails it with START_TIMEOUT and the sync limit, while SYNCING, with
SYNC_TIMEOUT; in SYNC_CLOSING the sync-limit timer only becomes EXPIRED. The unload limit has its CLOSED device opened for
PARALLELING. After the cooldown it is STOPPED where its lane is UP and no supply is wanted, and UNAVAILABLE where its lane
is not UP. The add timer of a GENERATOR island starts the lowest-indexed generator that is STOPPED, not HELD and on one of
its buses, or raises the GENERATOR flag where there is none, and runs again; its remove timer stops and unloads the
candidate. That an entry into DISCONNECTING sets the nudges to 0 is the model's choice (notes/assumptions/25.md). -/
def Obligations.ParallelingTimersExpire : Prop :=
  (∀ (g : GeneratorId) (s : State), s.live →
     let x := s.parts.paralleling.generators[g]
     let still (y : GeneratorLive) : GeneratorLive := { y with
       startTimer := .stopped, syncTimer := .stopped, unloadTimer := .stopped, cooldownTimer := .stopped,
       frequencyNudge := 0, voltageNudge := 0, target := 0, sequence := none }
     let becomes (i : Instr) (y : GeneratorLive) (flag : Bool) : Prop :=
       ∃ u, exec i s = .next (s.settled u) ∧ u.paralleling.generators[g] = y ∧
         (flag = true → u.attention.flags.generator = true)
     (x.state ≠ .starting ∨ x.startTimer.isRunning = false → exec (.startLimitExpiry g) s = .next s) ∧
     (x.state = .starting → x.startTimer.isRunning = true → becomes (.startLimitExpiry g)
       { still x with state := .failed, failure := some .startTimeout, run := .stop, reference := none } true) ∧
     (x.state = .syncing → x.syncTimer.isRunning = true → becomes (.syncLimitExpiry g)
       { still x with state := .failed, failure := some .syncTimeout, run := .stop, reference := none } true) ∧
     (x.state = .syncClosing → x.syncTimer.isRunning = true → becomes (.syncLimitExpiry g)
       { x with syncTimer := .ended, target := 0, sequence := none } false) ∧
     (∀ y h, x.state = .unloading → x.unloadTimer.isRunning = true → x.settings = some y →
       s.parts.switching.devices[y.device].state = .closed → s.parts.store.devices[y.device] = some h → h.valid →
       ∃ u, exec (.unloadLimitExpiry g) s = .next (s.settled u) ∧
         u.paralleling.generators[g] = { still x with state := .disconnecting } ∧
         u.switching.devices[y.device] = { s.parts.switching.devices[y.device] with
           state := .opening, owner := some .paralleling, origin := some .paralleling, failure := none,
           authorisations := ⟨false, false⟩, operateTimer := .running h.settings.openLimit, persistence := .stopped,
           abortedClose := false }) ∧
     (x.state = .cooldown → x.cooldownTimer.isRunning = true →
       (s.parts.laneUp g = false → becomes (.cooldownExpiry g)
         { still x with state := .unavailable, run := .stop } false) ∧
       (s.parts.laneUp g = true → s.parts.supplyWanted = false → becomes (.cooldownExpiry g)
         { still x with state := .stopped, run := .stop } false))) ∧
  ∀ (b : BusId) (i : Island) (s : State), s.live → s.parts.island? b = some i →
    let timers := s.parts.timersOf b
    let delay := s.parts.service.station.elim 0 StationSettings.addDelay * 1000
    let fits (g : GeneratorId) : Prop := s.parts.paralleling.generators[g].state = .stopped ∧
      s.parts.paralleling.generators[g].mark ≠ .held ∧ ∃ y ∈ i.members, s.parts.generatorBus g = some y
    (timers.add.isRunning = false → exec (.addTimerExpiry b) s = .next s) ∧
    (timers.remove.isRunning = false → exec (.removeTimerExpiry b) s = .next s) ∧
    (timers.add.isRunning = true →
      ((∀ g, ¬fits g) → ∃ u, exec (.addTimerExpiry b) s = .next (s.settled u) ∧
        u.timersOf b = { timers with add := .running delay } ∧ u.attention.flags.generator = true ∧
        u.paralleling.generators = s.parts.paralleling.generators) ∧
      (∀ g h, fits g → (∀ j, j < g → ¬fits j) → s.parts.store.generators[g] = some h → h.valid →
        ∃ u, exec (.addTimerExpiry b) s = .next (s.settled u) ∧
          u.timersOf b = { timers with add := .running delay } ∧
          u.paralleling.generators[g].state = .starting ∧ u.paralleling.generators[g].run = .run ∧
          u.paralleling.generators[g].startTimer = .running (h.settings.startLimit * 1000))) ∧
    (∀ g, timers.remove.isRunning = true → removeCandidate s.parts i = some g →
      ∃ u, exec (.removeTimerExpiry b) s = .next (s.settled u) ∧
        u.timersOf b = { timers with remove := .stopped } ∧
        u.paralleling.generators[g].state = .unloading ∧ u.paralleling.generators[g].target = 0)

/-- The share targets of positive ratings sum to a basis that the ratings cover, each is its floored share of it or one kW
more, and none exceeds its rating. -/
def Obligations.ShareTargetsSumToTheBasis : Prop :=
  ∀ (basis : Nat) (ratings : List Nat), (∀ r ∈ ratings, 0 < r) → basis ≤ ratings.sum →
    let ts := shareTargets basis ratings
    ts.length = ratings.length ∧ ts.sum = basis ∧
    ∀ k r x : Nat, ratings[k]? = some r → ts[k]? = some x →
      basis * r / ratings.sum ≤ x ∧ x ≤ basis * r / ratings.sum + 1 ∧ x ≤ r

/-! ## Load blocks -/

/-- HOLD BLOCK, RELEASE BLOCK, SHED BLOCK and RESTORE BLOCK move a block of a state that admits them: to HELD out of the
queue; to SHED with the next shed sequence, in the queue; to SHED with its CLOSED feeder opened for LOAD_UNIT; and, where
the close chain accepts, to RESTORING by SUPERVISOR. Of no block they are BAD_INDEX and of a RETIRED one STATE. -/
def Obligations.BlockRequestsMoveABlock : Prop :=
  ∀ (t : Byte) (s : State), s.live →
    (∀ n, 24 ≤ n →
      exec (.holdBlock t n) s = .next (s.answers 0x70 t .badIndex [] s.parts) ∧
      exec (.releaseBlock t n) s = .next (s.answers 0x71 t .badIndex [] s.parts) ∧
      exec (.shedBlock t n) s = .next (s.answers 0x72 t .badIndex [] s.parts) ∧
      exec (.restoreBlock t n) s = .next (s.answers 0x73 t .badIndex [] s.parts)) ∧
    ∀ l : BlockId,
      let x := s.parts.load.blocks[l]
      (x.state = .unset ∨ x.state = .retired →
        exec (.holdBlock t l.val) s = .next (s.answers 0x70 t .state [] s.parts) ∧
        exec (.releaseBlock t l.val) s = .next (s.answers 0x71 t .state [] s.parts) ∧
        exec (.shedBlock t l.val) s = .next (s.answers 0x72 t .state [] s.parts) ∧
        exec (.restoreBlock t l.val) s = .next (s.answers 0x73 t .state [] s.parts)) ∧
      (x.state = .shed → ∃ u, exec (.holdBlock t l.val) s = .next (s.answers 0x70 t .ok [] (settle u)) ∧
        u.load.blocks[l] = { x with state := .held, shedSequence := none, restorer := none } ∧ l ∉ u.load.queue) ∧
      (∀ d, x.state = .held → isDamaged s.parts.store.blocks[l] = false → s.parts.feederOf l = some d →
        s.parts.position d = .open →
        ∃ u, exec (.releaseBlock t l.val) s = .next (s.answers 0x71 t .ok [] (settle u)) ∧
          u.load.blocks[l] = { x with
            state := .shed, shedSequence := some (s.parts.load.shedCounter + 1), restorer := none } ∧
          l ∈ u.load.queue) ∧
      (∀ d h, x.state = .served ∨ x.state = .dark → s.parts.switching.authority = .remoteControl →
        s.parts.feederOf l = some d → s.parts.switching.devices[d].state = .closed →
        s.parts.store.devices[d] = some h → h.valid →
        ∃ u, exec (.shedBlock t l.val) s = .next (s.answers 0x72 t .accepted [] (settle u)) ∧
          u.load.blocks[l].state = .shed ∧ u.load.blocks[l].shedSequence = some (s.parts.load.shedCounter + 1) ∧
          l ∈ u.load.queue ∧ u.switching.devices[d] = { s.parts.switching.devices[d] with
            state := .opening, owner := some .loadUnit, origin := some .loadUnit, failure := none,
            authorisations := ⟨false, false⟩, operateTimer := .running h.settings.openLimit, persistence := .stopped,
            abortedClose := false }) ∧
      (∀ d, x.state = .shed ∨ x.state = .held → s.parts.feederOf l = some d →
        (closeRequest d .supervisor ⟨false, false⟩ s.parts).2 = .accepted →
        ∃ u, exec (.restoreBlock t l.val) s = .next (s.answers 0x73 t .accepted [] (settle u)) ∧
          u.load.blocks[l] = { x with state := .restoring, shedSequence := none, restorer := some .supervisor } ∧
          l ∉ u.load.queue ∧ u.switching.devices[d].state = .closing ∧
          u.switching.devices[d].owner = some .supervisor)

/-- The restore timer that expires stops, and in hold no block is restored. Out of hold, with no automatic restore in flight,
the head of the queue on a LIVE island of kind UTILITY or GENERATOR that has room for it and the margin is closed for
LOAD_UNIT, where the close chain accepts, and under STEPPED the timer runs again. -/
def Obligations.RestoreTimerMakesAnAttempt : Prop :=
  ∀ s : State, s.live →
    (s.parts.load.restoreTimer.isRunning = false → exec .restoreTimerExpiry s = .next s) ∧
    (s.parts.load.restoreTimer.isRunning = true → s.parts.inHold = true →
      ∃ u, exec .restoreTimerExpiry s = .next (s.settled u) ∧ u.load.restoreTimer = .stopped ∧
        ∀ l : BlockId, u.load.blocks[l].state = .restoring → s.parts.load.blocks[l].state = .restoring) ∧
    ∀ (l : BlockId) (rest : List BlockId) (d : DeviceId) (i : Island) (room : Nat) (t : StationSettings),
      let calm : Parts := { s.parts with load.restoreTimer := .stopped }
      s.parts.load.restoreTimer.isRunning = true → s.parts.inHold = false → s.parts.service.station = some t →
      t.restoreMode ≠ .held → (∀ j : BlockId, s.parts.load.blocks[j].restorer ≠ some .loadUnit) →
      s.parts.load.queue = l :: rest → s.parts.feederOf l = some d → s.parts.islandOfBlock l = some i →
      i.energisation = .live → (i.kind = .utility ∨ i.kind = .generator) → s.parts.headroomOf i = some room →
      s.parts.blockDemand l + t.restoreMargin ≤ room →
      (closeRequest d .loadUnit ⟨false, false⟩ calm).2 = .accepted →
      ∃ u, exec .restoreTimerExpiry s = .next (s.settled u) ∧
        u.load.blocks[l].state = .restoring ∧ u.load.blocks[l].restorer = some .loadUnit ∧ l ∉ u.load.queue ∧
        u.switching.devices[d].state = .closing ∧ u.switching.devices[d].owner = some .loadUnit ∧
        u.load.restoreTimer = if t.restoreMode = .stepped then .running (t.restoreInterval * 1000) else .stopped

/-! ## Service -/

/-- HOLD and RESUME (R172): STATE while CONFIGURING, ALREADY with SUPERVISOR present or absent; else HOLD adds SUPERVISOR and
sets the HOLD flag, and RESUME removes it alone, the hold-ended notice following where no reason is left. -/
def Obligations.HoldAndResumeMoveTheSupervisorReason : Prop :=
  ∀ (t : Byte) (s : State), s.live →
    let h := s.parts.service.hold
    (s.parts.service.inService = false →
      exec (.hold t) s = .next (s.answers 0x80 t .state [] s.parts) ∧
      exec (.resume t) s = .next (s.answers 0x81 t .state [] s.parts)) ∧
    (s.parts.service.inService = true →
      (h.supervisor = true → exec (.hold t) s = .next (s.answers 0x80 t .already [] s.parts)) ∧
      (h.supervisor = false → exec (.hold t) s = .next (s.answers 0x80 t .ok [] { s.parts with
        service.hold := { h with supervisor := true }, attention.flags.hold := true })) ∧
      (h.supervisor = false → exec (.resume t) s = .next (s.answers 0x81 t .already [] s.parts)) ∧
      (h.supervisor = true → (h.lockoutPending || h.lockoutDamaged || h.busDamaged) = true →
        exec (.resume t) s = .next (s.answers 0x81 t .ok [] { s.parts with
          service.hold := { h with supervisor := false } })) ∧
      (h.supervisor = true → (h.lockoutPending || h.lockoutDamaged || h.busDamaged) = false →
        exec (.resume t) s = .next (s.answers 0x81 t .ok [] (settle { s.parts with
          service.hold := HoldSet.empty
          notices := [.holdEnded .changeover, .holdEnded .paralleling, .holdEnded .load] }))))

/-- ENTER SERVICE fails check 1 in service and check 2 without a usable Station record, check 3 at the first ACTIVE record
that is DAMAGED or found INVALID, which it makes DAMAGED, and checks 4 to 6 at the first record they concern
(notes/assumptions/11.md), otherwise with no change. Passing, it takes the Station values into service and gives every
device the state of its observation or RETIRED; the enabled lanes are DOWN and the points NONE; the buses with an ACTIVE
record are in use, and from empty generators every island is RESIDUAL; the utilities are UNKNOWN, the generators
UNAVAILABLE, with RUN where the device is not observed OPEN, the blocks HELD or DARK by their feeders, the sides as derived,
and the elements BLIND under their blind timers or DISABLED. The scrub starts at position 0, and pending lockouts hold the
part. -/
def Obligations.EnterServiceChecksAndEnters : Prop :=
  ∀ (t : Byte) (s : State), s.live →
    let fails (a : Status) (number : Nat) (n : StoreIndex) (p : Parts) : Prop :=
      exec (.enterService t) s = .next (s.answers 0x82 t a [byte number, byte n.val] p)
    let first (bad : RecordName → Bool) (n : RecordName) : Prop :=
      bad n = true ∧ ∀ m : RecordName, m.position < n.position → bad m = false
    (s.parts.service.inService = true → fails .state 1 0 s.parts) ∧
    (s.parts.service.inService = false →
      ((s.parts.store.station = none ∨ ∃ h, s.parts.store.station = some h ∧ h.retired = true) → fails .state 2 0 s.parts) ∧
      (∀ h, s.parts.store.station = some h → h.retired = false →
        (h.integrity = .damaged → fails .damaged 2 0 s.parts) ∧
        (∀ n x, h.integrity ≠ .damaged → s.parts.record n = some x → x.retired = false →
          (∀ (m : RecordName) y, m.position < n.position → s.parts.record m = some y → y.retired = true ∨ y.valid) →
          (x.integrity = .damaged → fails .damaged 3 n.position s.parts) ∧
          (x.integrity ≠ .damaged → x.settings ≠ x.code.covers → x.code.restores = false →
            ∃ p, fails .damaged 3 n.position (settle p) ∧ p.record n = some { x with integrity := .damaged } ∧
              p.attention.flags.record = true ∧ p.service.inService = false)) ∧
        ((∀ n x, s.parts.record n = some x → x.retired = false → x.valid) →
          (∀ n, first (fun m => !consistent s.parts m) n → fails .range 4 n.position s.parts) ∧
          ((∀ n, consistent s.parts n = true) →
            (∀ n, first (sharesTerminal s.parts) n → fails .range 5 n.position s.parts) ∧
            ((∀ n, sharesTerminal s.parts n = false) →
              (∀ n, first (liesOnCycle s.parts) n → fails .range 6 n.position s.parts) ∧
              ((∀ n, liesOnCycle s.parts n = false) →
                let seen (d : DeviceId) : Position := s.parts.position d
                ∃ p, exec (.enterService t) s = .next (s.answers 0x82 t .ok [] (settle p)) ∧
                  p.service = { inService := true, station := some h.settings
                                hold := { HoldSet.empty with lockoutPending := !s.parts.lockouts.pending.isEmpty } } ∧
                  p.store = { s.parts.store with
                    scrubPosition := 0, scrubTimer := .running (h.settings.scrubPeriod * 125) } ∧
                  p.lockouts = s.parts.lockouts ∧ p.switching.intertrips = s.parts.switching.intertrips ∧
                  (∀ d : DeviceId,
                    p.switching.devices[d] = { DeviceLive.initial s.parts.switching.devices[d].pattern with
                      state := if isActive s.parts.store.devices[d] then
                        (match seen d with
                          | .open => .open
                          | .closed => .closed
                          | .travel | .disagree => .uncertain) else .retired } ∧
                    p.topology.conducting[d] = (isActive s.parts.store.devices[d] && seen d != .open) ∧
                    p.topology.index[d] = (activeSettings s.parts.store.devices[d]).map fun y =>
                      { terminalA := y.terminalA, terminalB := y.terminalB }) ∧
                  (∀ l : LaneId, p.lanes.lanes[l].counts = DiscardCounts.zero ∧
                    p.lanes.lanes[l].state = if h.settings.lanes[l].enabled then .down else .disabled) ∧
                  p.lanes.testCount = 0 ∧
                  (∀ q : PointId, p.lanes.points[q] = { PointLive.initial (entryFrequency (some h.settings)) with
                    kind := (activeSettings s.parts.store.points[q]).map PointSettings.kind }) ∧
                  p.topology.inUse = s.parts.store.buses.map isActive ∧
                  (∀ u : UtilityId, p.changeover.utilities[u] = { UtilityLive.initial with
                    settings := activeSettings s.parts.store.utilities[u]
                    measured := isActive s.parts.store.utilities[u] }) ∧
                  (∀ g : GeneratorId, p.paralleling.generators[g] = { GeneratorLive.initial with
                    state := .unavailable, settings := activeSettings s.parts.store.generators[g]
                    run := match activeSettings s.parts.store.generators[g] with
                      | some y => if seen y.device = .open then .stop else .run
                      | none => .stop }) ∧
                  (∀ l : BlockId,
                    p.load.blocks[l].settings = activeSettings s.parts.store.blocks[l] ∧
                    (isActive s.parts.store.blocks[l] = false → p.load.blocks[l].state = .retired) ∧
                    ∀ y, activeSettings s.parts.store.blocks[l] = some y → p.load.blocks[l].demand = some y.demandFloor ∧
                      (seen y.feeder = .open → p.load.blocks[l].state = .held)) ∧
                  ((∀ g : GeneratorId, s.parts.paralleling.generators[g] = GeneratorLive.initial) →
                    p.topology.islands = computeIslands p ∧ (∀ i ∈ p.topology.islands, i.energisation = .residual) ∧
                    ∀ (l : BlockId) y, activeSettings s.parts.store.blocks[l] = some y → seen y.feeder ≠ .open →
                      p.load.blocks[l].state = .dark) ∧
                  (activeSettings s.parts.store.scheme = none → p.changeover.scheme = none ∧
                    p.changeover.mode = .manual ∧ ∀ i : SideId, p.changeover.sides[i].state = .unset) ∧
                  (∀ y, activeSettings s.parts.store.scheme = some y → p.changeover.scheme = some y ∧
                    p.changeover.mode = .auto ∧ ∀ i : SideId,
                      let shows (d : Option DeviceId) : Position := d.elim .open seen
                      p.changeover.sides[i].state =
                        match seen y.sides[i].incomer, shows y.tie, shows y.sides[i].generatorTie with
                        | .open, .open, .closed => .onGen
                        | .open, .open, .open => .awaitSource
                        | .open, .closed, .open => if seen y.sides[otherSide i].incomer = .closed then .onTie else .manual
                        | _, _, _ => .manual) ∧
                  ∀ e : ElementId, p.protection.elements[e] = match activeSettings s.parts.store.elements[e] with
                    | some y => { ElementLive.initial with state := .blind, blind := .running (y.blindLimit * p.interval) }
                    | none => { ElementLive.initial with state := .disabled }))))))

/-- LEAVE SERVICE is STATE while CONFIGURING, while a device is CLOSING or OPENING, and while a test runs. Otherwise every
block takes its values of CONFIGURING; the records, the derived indices, the lockouts, the observed patterns, the authority,
the intertrips, the attention flags and the Station values are kept, and so are the changed marks, to which those of the
records whose live fields move are added (notes/assumptions/49.md). That the spacing bits of the lanes are cleared is the
model's choice (notes/assumptions/42.md), as are the values of its bookkeeping (notes/assumptions/9.md). -/
def Obligations.LeaveServiceReturnsToConfiguring : Prop :=
  ∀ (t : Byte) (s : State), s.live →
    ((s.parts.service.inService = false ∨
        (∃ d : DeviceId, s.parts.switching.devices[d].state = .closing ∨ s.parts.switching.devices[d].state = .opening) ∨
        0 < s.parts.lanes.testCount) → exec (.leaveService t) s = .next (s.answers 0x83 t .state [] s.parts)) ∧
    (s.parts.service.inService = true →
      (∀ d : DeviceId, s.parts.switching.devices[d].state ≠ .closing ∧ s.parts.switching.devices[d].state ≠ .opening) →
      s.parts.lanes.testCount = 0 →
      ∃ marks : Vector Bool 256, (∀ n : RecordName, marks[n.position] = (s.parts.attention.changed[n.position] ||
          liveMoved s.parts (outOfService s.parts) n)) ∧
        exec (.leaveService t) s = .next (s.answers 0x83 t .ok []
        { store := { s.parts.store with scrubTimer := .stopped }
          switching := { s.parts.switching with
            devices := s.parts.switching.devices.map fun d => DeviceLive.initial d.pattern }
          topology := { TopologyMap.initial with index := s.parts.topology.index }
          lockouts := s.parts.lockouts
          lanes := LaneInterface.initial (entryFrequency s.parts.service.station)
          protection := ProtectionUnit.initial s.parts.protection.guards
          changeover := ChangeoverUnit.initial
          paralleling := ParallelingUnit.initial
          load := LoadUnit.initial
          service := { inService := false, hold := HoldSet.empty, station := s.parts.service.station }
          attention := { s.parts.attention with changed := marks }
          notices := []
          freeReads := s.parts.freeReads }))

/-! ## Invariants -/

/-- The part right after power-on has each invariant that the statements after this one say every step keeps. -/
def Obligations.ResetHasTheInvariants : Prop :=
  State.reset.port.wf ∧ State.reset.parts.protection.accumulatorLaw ∧ State.reset.parts.coversCounted ∧
    State.reset.parts.noLockedClose ∧ State.reset.parts.changeover.claimHeld ∧ State.reset.parts.queueHoldsTheShed

/-- Every step keeps the invariant of the port: a request that waits is whole, either a response or a request stands and
never both, and a transaction that shows a response has one. -/
def Obligations.EveryStepKeepsThePortInvariant : Prop :=
  ∀ s t : State, s.port.wf → step s = .next t → t.port.wf

/-- Every step keeps the law of the accumulators: each is at most 1,048,576, and is that exactly while its element is
TRIPPED. -/
def Obligations.EveryStepKeepsTheAccumulatorLaw : Prop :=
  ∀ s t : State, s.parts.protection.accumulatorLaw → step s = .next t → t.parts.protection.accumulatorLaw

/-- Every step keeps each cover count at the number of ACTIVE records, SOUND or CORRECTED, whose set as last written has the
device. -/
def Obligations.EveryStepKeepsTheCoverCounts : Prop :=
  ∀ s t : State, s.parts.coversCounted → step s = .next t → t.parts.coversCounted

/-- No step leaves a CLOSING device locked. -/
def Obligations.EveryStepKeepsLockedDevicesFromClosing : Prop :=
  ∀ s t : State, s.parts.noLockedClose → step s = .next t → t.parts.noLockedClose

/-- Every step keeps the claim with the side in ALT_TIE or ON_TIE, and free where neither is. -/
def Obligations.EveryStepKeepsTheClaim : Prop :=
  ∀ s t : State, s.parts.changeover.claimHeld → step s = .next t → t.parts.changeover.claimHeld

/-- Every step keeps the Restore Queue to exactly the SHED blocks, in its order. -/
def Obligations.EveryStepKeepsTheShedInTheQueue : Prop :=
  ∀ s t : State, s.parts.queueHoldsTheShed → step s = .next t → t.parts.queueHoldsTheShed
end

