-- ==== Sys2Proof/Laws/State.lean ====
section
/-!
SUPPORT. What each named update of the blocks does to each of their fields, and what the two state-level updates do, so
that no later proof unfolds a record update.
-/

namespace Sys2Proof.Machine

/-! ## Updates of one field -/

@[simp] theorem Parts.send_store (s : Parts) (n : Notice) : (s.send n).store = s.store := rfl
@[simp] theorem Parts.send_switching (s : Parts) (n : Notice) : (s.send n).switching = s.switching := rfl
@[simp] theorem Parts.send_topology (s : Parts) (n : Notice) : (s.send n).topology = s.topology := rfl
@[simp] theorem Parts.send_lockouts (s : Parts) (n : Notice) : (s.send n).lockouts = s.lockouts := rfl
@[simp] theorem Parts.send_lanes (s : Parts) (n : Notice) : (s.send n).lanes = s.lanes := rfl
@[simp] theorem Parts.send_protection (s : Parts) (n : Notice) : (s.send n).protection = s.protection := rfl
@[simp] theorem Parts.send_changeover (s : Parts) (n : Notice) : (s.send n).changeover = s.changeover := rfl
@[simp] theorem Parts.send_paralleling (s : Parts) (n : Notice) : (s.send n).paralleling = s.paralleling := rfl
@[simp] theorem Parts.send_load (s : Parts) (n : Notice) : (s.send n).load = s.load := rfl
@[simp] theorem Parts.send_service (s : Parts) (n : Notice) : (s.send n).service = s.service := rfl
@[simp] theorem Parts.send_attention (s : Parts) (n : Notice) : (s.send n).attention = s.attention := rfl
@[simp] theorem Parts.send_notices (s : Parts) (n : Notice) : (s.send n).notices = s.notices ++ [n] := rfl
@[simp] theorem Parts.send_freeReads (s : Parts) (n : Notice) : (s.send n).freeReads = s.freeReads := rfl

@[simp] theorem Parts.sendAll_store (s : Parts) (ns : List Notice) : (s.sendAll ns).store = s.store := rfl
@[simp] theorem Parts.sendAll_switching (s : Parts) (ns : List Notice) : (s.sendAll ns).switching = s.switching := rfl
@[simp] theorem Parts.sendAll_topology (s : Parts) (ns : List Notice) : (s.sendAll ns).topology = s.topology := rfl
@[simp] theorem Parts.sendAll_lockouts (s : Parts) (ns : List Notice) : (s.sendAll ns).lockouts = s.lockouts := rfl
@[simp] theorem Parts.sendAll_lanes (s : Parts) (ns : List Notice) : (s.sendAll ns).lanes = s.lanes := rfl
@[simp] theorem Parts.sendAll_protection (s : Parts) (ns : List Notice) : (s.sendAll ns).protection = s.protection := rfl
@[simp] theorem Parts.sendAll_changeover (s : Parts) (ns : List Notice) : (s.sendAll ns).changeover = s.changeover := rfl
@[simp] theorem Parts.sendAll_paralleling (s : Parts) (ns : List Notice) : (s.sendAll ns).paralleling = s.paralleling := rfl
@[simp] theorem Parts.sendAll_load (s : Parts) (ns : List Notice) : (s.sendAll ns).load = s.load := rfl
@[simp] theorem Parts.sendAll_service (s : Parts) (ns : List Notice) : (s.sendAll ns).service = s.service := rfl
@[simp] theorem Parts.sendAll_attention (s : Parts) (ns : List Notice) : (s.sendAll ns).attention = s.attention := rfl
@[simp] theorem Parts.sendAll_notices (s : Parts) (ns : List Notice) : (s.sendAll ns).notices = s.notices ++ ns := rfl
@[simp] theorem Parts.sendAll_freeReads (s : Parts) (ns : List Notice) : (s.sendAll ns).freeReads = s.freeReads := rfl

@[simp] theorem Parts.mark_store (s : Parts) (i : StoreIndex) : (s.mark i).store = s.store := rfl
@[simp] theorem Parts.mark_switching (s : Parts) (i : StoreIndex) : (s.mark i).switching = s.switching := rfl
@[simp] theorem Parts.mark_topology (s : Parts) (i : StoreIndex) : (s.mark i).topology = s.topology := rfl
@[simp] theorem Parts.mark_lockouts (s : Parts) (i : StoreIndex) : (s.mark i).lockouts = s.lockouts := rfl
@[simp] theorem Parts.mark_lanes (s : Parts) (i : StoreIndex) : (s.mark i).lanes = s.lanes := rfl
@[simp] theorem Parts.mark_protection (s : Parts) (i : StoreIndex) : (s.mark i).protection = s.protection := rfl
@[simp] theorem Parts.mark_changeover (s : Parts) (i : StoreIndex) : (s.mark i).changeover = s.changeover := rfl
@[simp] theorem Parts.mark_paralleling (s : Parts) (i : StoreIndex) : (s.mark i).paralleling = s.paralleling := rfl
@[simp] theorem Parts.mark_load (s : Parts) (i : StoreIndex) : (s.mark i).load = s.load := rfl
@[simp] theorem Parts.mark_service (s : Parts) (i : StoreIndex) : (s.mark i).service = s.service := rfl
@[simp] theorem Parts.mark_attention (s : Parts) (i : StoreIndex) : (s.mark i).attention = { s.attention with changed := s.attention.changed.set i true } := rfl
@[simp] theorem Parts.mark_notices (s : Parts) (i : StoreIndex) : (s.mark i).notices = s.notices := rfl
@[simp] theorem Parts.mark_freeReads (s : Parts) (i : StoreIndex) : (s.mark i).freeReads = s.freeReads := rfl

@[simp] theorem Parts.unmark_store (s : Parts) (i : StoreIndex) : (s.unmark i).store = s.store := rfl
@[simp] theorem Parts.unmark_switching (s : Parts) (i : StoreIndex) : (s.unmark i).switching = s.switching := rfl
@[simp] theorem Parts.unmark_topology (s : Parts) (i : StoreIndex) : (s.unmark i).topology = s.topology := rfl
@[simp] theorem Parts.unmark_lockouts (s : Parts) (i : StoreIndex) : (s.unmark i).lockouts = s.lockouts := rfl
@[simp] theorem Parts.unmark_lanes (s : Parts) (i : StoreIndex) : (s.unmark i).lanes = s.lanes := rfl
@[simp] theorem Parts.unmark_protection (s : Parts) (i : StoreIndex) : (s.unmark i).protection = s.protection := rfl
@[simp] theorem Parts.unmark_changeover (s : Parts) (i : StoreIndex) : (s.unmark i).changeover = s.changeover := rfl
@[simp] theorem Parts.unmark_paralleling (s : Parts) (i : StoreIndex) : (s.unmark i).paralleling = s.paralleling := rfl
@[simp] theorem Parts.unmark_load (s : Parts) (i : StoreIndex) : (s.unmark i).load = s.load := rfl
@[simp] theorem Parts.unmark_service (s : Parts) (i : StoreIndex) : (s.unmark i).service = s.service := rfl
@[simp] theorem Parts.unmark_attention (s : Parts) (i : StoreIndex) : (s.unmark i).attention = { s.attention with changed := s.attention.changed.set i false } := rfl
@[simp] theorem Parts.unmark_notices (s : Parts) (i : StoreIndex) : (s.unmark i).notices = s.notices := rfl
@[simp] theorem Parts.unmark_freeReads (s : Parts) (i : StoreIndex) : (s.unmark i).freeReads = s.freeReads := rfl

@[simp] theorem Parts.raise_store (s : Parts) (f : AttentionFlag) : (s.raise f).store = s.store := rfl
@[simp] theorem Parts.raise_switching (s : Parts) (f : AttentionFlag) : (s.raise f).switching = s.switching := rfl
@[simp] theorem Parts.raise_topology (s : Parts) (f : AttentionFlag) : (s.raise f).topology = s.topology := rfl
@[simp] theorem Parts.raise_lockouts (s : Parts) (f : AttentionFlag) : (s.raise f).lockouts = s.lockouts := rfl
@[simp] theorem Parts.raise_lanes (s : Parts) (f : AttentionFlag) : (s.raise f).lanes = s.lanes := rfl
@[simp] theorem Parts.raise_protection (s : Parts) (f : AttentionFlag) : (s.raise f).protection = s.protection := rfl
@[simp] theorem Parts.raise_changeover (s : Parts) (f : AttentionFlag) : (s.raise f).changeover = s.changeover := rfl
@[simp] theorem Parts.raise_paralleling (s : Parts) (f : AttentionFlag) : (s.raise f).paralleling = s.paralleling := rfl
@[simp] theorem Parts.raise_load (s : Parts) (f : AttentionFlag) : (s.raise f).load = s.load := rfl
@[simp] theorem Parts.raise_service (s : Parts) (f : AttentionFlag) : (s.raise f).service = s.service := rfl
@[simp] theorem Parts.raise_attention (s : Parts) (f : AttentionFlag) : (s.raise f).attention = { s.attention with flags := s.attention.flags.raise f } := rfl
@[simp] theorem Parts.raise_notices (s : Parts) (f : AttentionFlag) : (s.raise f).notices = s.notices := rfl
@[simp] theorem Parts.raise_freeReads (s : Parts) (f : AttentionFlag) : (s.raise f).freeReads = s.freeReads := rfl

@[simp] theorem Parts.putStation_store (s : Parts) (r : Option (Held StationSettings)) : (s.putStation r).store = { s.store with station := r } := rfl
@[simp] theorem Parts.putStation_switching (s : Parts) (r : Option (Held StationSettings)) : (s.putStation r).switching = s.switching := rfl
@[simp] theorem Parts.putStation_topology (s : Parts) (r : Option (Held StationSettings)) : (s.putStation r).topology = s.topology := rfl
@[simp] theorem Parts.putStation_lockouts (s : Parts) (r : Option (Held StationSettings)) : (s.putStation r).lockouts = s.lockouts := rfl
@[simp] theorem Parts.putStation_lanes (s : Parts) (r : Option (Held StationSettings)) : (s.putStation r).lanes = s.lanes := rfl
@[simp] theorem Parts.putStation_protection (s : Parts) (r : Option (Held StationSettings)) : (s.putStation r).protection = s.protection := rfl
@[simp] theorem Parts.putStation_changeover (s : Parts) (r : Option (Held StationSettings)) : (s.putStation r).changeover = s.changeover := rfl
@[simp] theorem Parts.putStation_paralleling (s : Parts) (r : Option (Held StationSettings)) : (s.putStation r).paralleling = s.paralleling := rfl
@[simp] theorem Parts.putStation_load (s : Parts) (r : Option (Held StationSettings)) : (s.putStation r).load = s.load := rfl
@[simp] theorem Parts.putStation_service (s : Parts) (r : Option (Held StationSettings)) : (s.putStation r).service = s.service := rfl
@[simp] theorem Parts.putStation_attention (s : Parts) (r : Option (Held StationSettings)) : (s.putStation r).attention = s.attention := rfl
@[simp] theorem Parts.putStation_notices (s : Parts) (r : Option (Held StationSettings)) : (s.putStation r).notices = s.notices := rfl
@[simp] theorem Parts.putStation_freeReads (s : Parts) (r : Option (Held StationSettings)) : (s.putStation r).freeReads = s.freeReads := rfl

@[simp] theorem Parts.putBus_store (s : Parts) (b : BusId) (r : Option (Held BusSettings)) : (s.putBus b r).store = { s.store with buses := s.store.buses.set b r } := rfl
@[simp] theorem Parts.putBus_switching (s : Parts) (b : BusId) (r : Option (Held BusSettings)) : (s.putBus b r).switching = s.switching := rfl
@[simp] theorem Parts.putBus_topology (s : Parts) (b : BusId) (r : Option (Held BusSettings)) : (s.putBus b r).topology = s.topology := rfl
@[simp] theorem Parts.putBus_lockouts (s : Parts) (b : BusId) (r : Option (Held BusSettings)) : (s.putBus b r).lockouts = s.lockouts := rfl
@[simp] theorem Parts.putBus_lanes (s : Parts) (b : BusId) (r : Option (Held BusSettings)) : (s.putBus b r).lanes = s.lanes := rfl
@[simp] theorem Parts.putBus_protection (s : Parts) (b : BusId) (r : Option (Held BusSettings)) : (s.putBus b r).protection = s.protection := rfl
@[simp] theorem Parts.putBus_changeover (s : Parts) (b : BusId) (r : Option (Held BusSettings)) : (s.putBus b r).changeover = s.changeover := rfl
@[simp] theorem Parts.putBus_paralleling (s : Parts) (b : BusId) (r : Option (Held BusSettings)) : (s.putBus b r).paralleling = s.paralleling := rfl
@[simp] theorem Parts.putBus_load (s : Parts) (b : BusId) (r : Option (Held BusSettings)) : (s.putBus b r).load = s.load := rfl
@[simp] theorem Parts.putBus_service (s : Parts) (b : BusId) (r : Option (Held BusSettings)) : (s.putBus b r).service = s.service := rfl
@[simp] theorem Parts.putBus_attention (s : Parts) (b : BusId) (r : Option (Held BusSettings)) : (s.putBus b r).attention = s.attention := rfl
@[simp] theorem Parts.putBus_notices (s : Parts) (b : BusId) (r : Option (Held BusSettings)) : (s.putBus b r).notices = s.notices := rfl
@[simp] theorem Parts.putBus_freeReads (s : Parts) (b : BusId) (r : Option (Held BusSettings)) : (s.putBus b r).freeReads = s.freeReads := rfl

@[simp] theorem Parts.putUtility_store (s : Parts) (u : UtilityId) (r : Option (Held UtilitySettings)) : (s.putUtility u r).store = { s.store with utilities := s.store.utilities.set u r } := rfl
@[simp] theorem Parts.putUtility_switching (s : Parts) (u : UtilityId) (r : Option (Held UtilitySettings)) : (s.putUtility u r).switching = s.switching := rfl
@[simp] theorem Parts.putUtility_topology (s : Parts) (u : UtilityId) (r : Option (Held UtilitySettings)) : (s.putUtility u r).topology = s.topology := rfl
@[simp] theorem Parts.putUtility_lockouts (s : Parts) (u : UtilityId) (r : Option (Held UtilitySettings)) : (s.putUtility u r).lockouts = s.lockouts := rfl
@[simp] theorem Parts.putUtility_lanes (s : Parts) (u : UtilityId) (r : Option (Held UtilitySettings)) : (s.putUtility u r).lanes = s.lanes := rfl
@[simp] theorem Parts.putUtility_protection (s : Parts) (u : UtilityId) (r : Option (Held UtilitySettings)) : (s.putUtility u r).protection = s.protection := rfl
@[simp] theorem Parts.putUtility_changeover (s : Parts) (u : UtilityId) (r : Option (Held UtilitySettings)) : (s.putUtility u r).changeover = s.changeover := rfl
@[simp] theorem Parts.putUtility_paralleling (s : Parts) (u : UtilityId) (r : Option (Held UtilitySettings)) : (s.putUtility u r).paralleling = s.paralleling := rfl
@[simp] theorem Parts.putUtility_load (s : Parts) (u : UtilityId) (r : Option (Held UtilitySettings)) : (s.putUtility u r).load = s.load := rfl
@[simp] theorem Parts.putUtility_service (s : Parts) (u : UtilityId) (r : Option (Held UtilitySettings)) : (s.putUtility u r).service = s.service := rfl
@[simp] theorem Parts.putUtility_attention (s : Parts) (u : UtilityId) (r : Option (Held UtilitySettings)) : (s.putUtility u r).attention = s.attention := rfl
@[simp] theorem Parts.putUtility_notices (s : Parts) (u : UtilityId) (r : Option (Held UtilitySettings)) : (s.putUtility u r).notices = s.notices := rfl
@[simp] theorem Parts.putUtility_freeReads (s : Parts) (u : UtilityId) (r : Option (Held UtilitySettings)) : (s.putUtility u r).freeReads = s.freeReads := rfl

@[simp] theorem Parts.putGenerator_store (s : Parts) (g : GeneratorId) (r : Option (Held GeneratorSettings)) : (s.putGenerator g r).store = { s.store with generators := s.store.generators.set g r } := rfl
@[simp] theorem Parts.putGenerator_switching (s : Parts) (g : GeneratorId) (r : Option (Held GeneratorSettings)) : (s.putGenerator g r).switching = s.switching := rfl
@[simp] theorem Parts.putGenerator_topology (s : Parts) (g : GeneratorId) (r : Option (Held GeneratorSettings)) : (s.putGenerator g r).topology = s.topology := rfl
@[simp] theorem Parts.putGenerator_lockouts (s : Parts) (g : GeneratorId) (r : Option (Held GeneratorSettings)) : (s.putGenerator g r).lockouts = s.lockouts := rfl
@[simp] theorem Parts.putGenerator_lanes (s : Parts) (g : GeneratorId) (r : Option (Held GeneratorSettings)) : (s.putGenerator g r).lanes = s.lanes := rfl
@[simp] theorem Parts.putGenerator_protection (s : Parts) (g : GeneratorId) (r : Option (Held GeneratorSettings)) : (s.putGenerator g r).protection = s.protection := rfl
@[simp] theorem Parts.putGenerator_changeover (s : Parts) (g : GeneratorId) (r : Option (Held GeneratorSettings)) : (s.putGenerator g r).changeover = s.changeover := rfl
@[simp] theorem Parts.putGenerator_paralleling (s : Parts) (g : GeneratorId) (r : Option (Held GeneratorSettings)) : (s.putGenerator g r).paralleling = s.paralleling := rfl
@[simp] theorem Parts.putGenerator_load (s : Parts) (g : GeneratorId) (r : Option (Held GeneratorSettings)) : (s.putGenerator g r).load = s.load := rfl
@[simp] theorem Parts.putGenerator_service (s : Parts) (g : GeneratorId) (r : Option (Held GeneratorSettings)) : (s.putGenerator g r).service = s.service := rfl
@[simp] theorem Parts.putGenerator_attention (s : Parts) (g : GeneratorId) (r : Option (Held GeneratorSettings)) : (s.putGenerator g r).attention = s.attention := rfl
@[simp] theorem Parts.putGenerator_notices (s : Parts) (g : GeneratorId) (r : Option (Held GeneratorSettings)) : (s.putGenerator g r).notices = s.notices := rfl
@[simp] theorem Parts.putGenerator_freeReads (s : Parts) (g : GeneratorId) (r : Option (Held GeneratorSettings)) : (s.putGenerator g r).freeReads = s.freeReads := rfl

@[simp] theorem Parts.putDevice_store (s : Parts) (d : DeviceId) (r : Option (Held DeviceSettings)) : (s.putDevice d r).store = { s.store with devices := s.store.devices.set d r } := rfl
@[simp] theorem Parts.putDevice_switching (s : Parts) (d : DeviceId) (r : Option (Held DeviceSettings)) : (s.putDevice d r).switching = s.switching := rfl
@[simp] theorem Parts.putDevice_topology (s : Parts) (d : DeviceId) (r : Option (Held DeviceSettings)) : (s.putDevice d r).topology = s.topology := rfl
@[simp] theorem Parts.putDevice_lockouts (s : Parts) (d : DeviceId) (r : Option (Held DeviceSettings)) : (s.putDevice d r).lockouts = s.lockouts := rfl
@[simp] theorem Parts.putDevice_lanes (s : Parts) (d : DeviceId) (r : Option (Held DeviceSettings)) : (s.putDevice d r).lanes = s.lanes := rfl
@[simp] theorem Parts.putDevice_protection (s : Parts) (d : DeviceId) (r : Option (Held DeviceSettings)) : (s.putDevice d r).protection = s.protection := rfl
@[simp] theorem Parts.putDevice_changeover (s : Parts) (d : DeviceId) (r : Option (Held DeviceSettings)) : (s.putDevice d r).changeover = s.changeover := rfl
@[simp] theorem Parts.putDevice_paralleling (s : Parts) (d : DeviceId) (r : Option (Held DeviceSettings)) : (s.putDevice d r).paralleling = s.paralleling := rfl
@[simp] theorem Parts.putDevice_load (s : Parts) (d : DeviceId) (r : Option (Held DeviceSettings)) : (s.putDevice d r).load = s.load := rfl
@[simp] theorem Parts.putDevice_service (s : Parts) (d : DeviceId) (r : Option (Held DeviceSettings)) : (s.putDevice d r).service = s.service := rfl
@[simp] theorem Parts.putDevice_attention (s : Parts) (d : DeviceId) (r : Option (Held DeviceSettings)) : (s.putDevice d r).attention = s.attention := rfl
@[simp] theorem Parts.putDevice_notices (s : Parts) (d : DeviceId) (r : Option (Held DeviceSettings)) : (s.putDevice d r).notices = s.notices := rfl
@[simp] theorem Parts.putDevice_freeReads (s : Parts) (d : DeviceId) (r : Option (Held DeviceSettings)) : (s.putDevice d r).freeReads = s.freeReads := rfl

@[simp] theorem Parts.putBlock_store (s : Parts) (l : BlockId) (r : Option (Held BlockSettings)) : (s.putBlock l r).store = { s.store with blocks := s.store.blocks.set l r } := rfl
@[simp] theorem Parts.putBlock_switching (s : Parts) (l : BlockId) (r : Option (Held BlockSettings)) : (s.putBlock l r).switching = s.switching := rfl
@[simp] theorem Parts.putBlock_topology (s : Parts) (l : BlockId) (r : Option (Held BlockSettings)) : (s.putBlock l r).topology = s.topology := rfl
@[simp] theorem Parts.putBlock_lockouts (s : Parts) (l : BlockId) (r : Option (Held BlockSettings)) : (s.putBlock l r).lockouts = s.lockouts := rfl
@[simp] theorem Parts.putBlock_lanes (s : Parts) (l : BlockId) (r : Option (Held BlockSettings)) : (s.putBlock l r).lanes = s.lanes := rfl
@[simp] theorem Parts.putBlock_protection (s : Parts) (l : BlockId) (r : Option (Held BlockSettings)) : (s.putBlock l r).protection = s.protection := rfl
@[simp] theorem Parts.putBlock_changeover (s : Parts) (l : BlockId) (r : Option (Held BlockSettings)) : (s.putBlock l r).changeover = s.changeover := rfl
@[simp] theorem Parts.putBlock_paralleling (s : Parts) (l : BlockId) (r : Option (Held BlockSettings)) : (s.putBlock l r).paralleling = s.paralleling := rfl
@[simp] theorem Parts.putBlock_load (s : Parts) (l : BlockId) (r : Option (Held BlockSettings)) : (s.putBlock l r).load = s.load := rfl
@[simp] theorem Parts.putBlock_service (s : Parts) (l : BlockId) (r : Option (Held BlockSettings)) : (s.putBlock l r).service = s.service := rfl
@[simp] theorem Parts.putBlock_attention (s : Parts) (l : BlockId) (r : Option (Held BlockSettings)) : (s.putBlock l r).attention = s.attention := rfl
@[simp] theorem Parts.putBlock_notices (s : Parts) (l : BlockId) (r : Option (Held BlockSettings)) : (s.putBlock l r).notices = s.notices := rfl
@[simp] theorem Parts.putBlock_freeReads (s : Parts) (l : BlockId) (r : Option (Held BlockSettings)) : (s.putBlock l r).freeReads = s.freeReads := rfl

@[simp] theorem Parts.putElement_store (s : Parts) (e : ElementId) (r : Option (Held ElementSettings)) : (s.putElement e r).store = { s.store with elements := s.store.elements.set e r } := rfl
@[simp] theorem Parts.putElement_switching (s : Parts) (e : ElementId) (r : Option (Held ElementSettings)) : (s.putElement e r).switching = s.switching := rfl
@[simp] theorem Parts.putElement_topology (s : Parts) (e : ElementId) (r : Option (Held ElementSettings)) : (s.putElement e r).topology = s.topology := rfl
@[simp] theorem Parts.putElement_lockouts (s : Parts) (e : ElementId) (r : Option (Held ElementSettings)) : (s.putElement e r).lockouts = s.lockouts := rfl
@[simp] theorem Parts.putElement_lanes (s : Parts) (e : ElementId) (r : Option (Held ElementSettings)) : (s.putElement e r).lanes = s.lanes := rfl
@[simp] theorem Parts.putElement_protection (s : Parts) (e : ElementId) (r : Option (Held ElementSettings)) : (s.putElement e r).protection = s.protection := rfl
@[simp] theorem Parts.putElement_changeover (s : Parts) (e : ElementId) (r : Option (Held ElementSettings)) : (s.putElement e r).changeover = s.changeover := rfl
@[simp] theorem Parts.putElement_paralleling (s : Parts) (e : ElementId) (r : Option (Held ElementSettings)) : (s.putElement e r).paralleling = s.paralleling := rfl
@[simp] theorem Parts.putElement_load (s : Parts) (e : ElementId) (r : Option (Held ElementSettings)) : (s.putElement e r).load = s.load := rfl
@[simp] theorem Parts.putElement_service (s : Parts) (e : ElementId) (r : Option (Held ElementSettings)) : (s.putElement e r).service = s.service := rfl
@[simp] theorem Parts.putElement_attention (s : Parts) (e : ElementId) (r : Option (Held ElementSettings)) : (s.putElement e r).attention = s.attention := rfl
@[simp] theorem Parts.putElement_notices (s : Parts) (e : ElementId) (r : Option (Held ElementSettings)) : (s.putElement e r).notices = s.notices := rfl
@[simp] theorem Parts.putElement_freeReads (s : Parts) (e : ElementId) (r : Option (Held ElementSettings)) : (s.putElement e r).freeReads = s.freeReads := rfl

@[simp] theorem Parts.putLockout_store (s : Parts) (k : SlotId) (r : Option (Held LockoutSettings)) : (s.putLockout k r).store = { s.store with lockouts := s.store.lockouts.set k r } := rfl
@[simp] theorem Parts.putLockout_switching (s : Parts) (k : SlotId) (r : Option (Held LockoutSettings)) : (s.putLockout k r).switching = s.switching := rfl
@[simp] theorem Parts.putLockout_topology (s : Parts) (k : SlotId) (r : Option (Held LockoutSettings)) : (s.putLockout k r).topology = s.topology := rfl
@[simp] theorem Parts.putLockout_lockouts (s : Parts) (k : SlotId) (r : Option (Held LockoutSettings)) : (s.putLockout k r).lockouts = s.lockouts := rfl
@[simp] theorem Parts.putLockout_lanes (s : Parts) (k : SlotId) (r : Option (Held LockoutSettings)) : (s.putLockout k r).lanes = s.lanes := rfl
@[simp] theorem Parts.putLockout_protection (s : Parts) (k : SlotId) (r : Option (Held LockoutSettings)) : (s.putLockout k r).protection = s.protection := rfl
@[simp] theorem Parts.putLockout_changeover (s : Parts) (k : SlotId) (r : Option (Held LockoutSettings)) : (s.putLockout k r).changeover = s.changeover := rfl
@[simp] theorem Parts.putLockout_paralleling (s : Parts) (k : SlotId) (r : Option (Held LockoutSettings)) : (s.putLockout k r).paralleling = s.paralleling := rfl
@[simp] theorem Parts.putLockout_load (s : Parts) (k : SlotId) (r : Option (Held LockoutSettings)) : (s.putLockout k r).load = s.load := rfl
@[simp] theorem Parts.putLockout_service (s : Parts) (k : SlotId) (r : Option (Held LockoutSettings)) : (s.putLockout k r).service = s.service := rfl
@[simp] theorem Parts.putLockout_attention (s : Parts) (k : SlotId) (r : Option (Held LockoutSettings)) : (s.putLockout k r).attention = s.attention := rfl
@[simp] theorem Parts.putLockout_notices (s : Parts) (k : SlotId) (r : Option (Held LockoutSettings)) : (s.putLockout k r).notices = s.notices := rfl
@[simp] theorem Parts.putLockout_freeReads (s : Parts) (k : SlotId) (r : Option (Held LockoutSettings)) : (s.putLockout k r).freeReads = s.freeReads := rfl

@[simp] theorem Parts.putScheme_store (s : Parts) (r : Option (Held SchemeSettings)) : (s.putScheme r).store = { s.store with scheme := r } := rfl
@[simp] theorem Parts.putScheme_switching (s : Parts) (r : Option (Held SchemeSettings)) : (s.putScheme r).switching = s.switching := rfl
@[simp] theorem Parts.putScheme_topology (s : Parts) (r : Option (Held SchemeSettings)) : (s.putScheme r).topology = s.topology := rfl
@[simp] theorem Parts.putScheme_lockouts (s : Parts) (r : Option (Held SchemeSettings)) : (s.putScheme r).lockouts = s.lockouts := rfl
@[simp] theorem Parts.putScheme_lanes (s : Parts) (r : Option (Held SchemeSettings)) : (s.putScheme r).lanes = s.lanes := rfl
@[simp] theorem Parts.putScheme_protection (s : Parts) (r : Option (Held SchemeSettings)) : (s.putScheme r).protection = s.protection := rfl
@[simp] theorem Parts.putScheme_changeover (s : Parts) (r : Option (Held SchemeSettings)) : (s.putScheme r).changeover = s.changeover := rfl
@[simp] theorem Parts.putScheme_paralleling (s : Parts) (r : Option (Held SchemeSettings)) : (s.putScheme r).paralleling = s.paralleling := rfl
@[simp] theorem Parts.putScheme_load (s : Parts) (r : Option (Held SchemeSettings)) : (s.putScheme r).load = s.load := rfl
@[simp] theorem Parts.putScheme_service (s : Parts) (r : Option (Held SchemeSettings)) : (s.putScheme r).service = s.service := rfl
@[simp] theorem Parts.putScheme_attention (s : Parts) (r : Option (Held SchemeSettings)) : (s.putScheme r).attention = s.attention := rfl
@[simp] theorem Parts.putScheme_notices (s : Parts) (r : Option (Held SchemeSettings)) : (s.putScheme r).notices = s.notices := rfl
@[simp] theorem Parts.putScheme_freeReads (s : Parts) (r : Option (Held SchemeSettings)) : (s.putScheme r).freeReads = s.freeReads := rfl

@[simp] theorem Parts.putPoint_store (s : Parts) (p : PointId) (r : Option (Held PointSettings)) : (s.putPoint p r).store = { s.store with points := s.store.points.set p r } := rfl
@[simp] theorem Parts.putPoint_switching (s : Parts) (p : PointId) (r : Option (Held PointSettings)) : (s.putPoint p r).switching = s.switching := rfl
@[simp] theorem Parts.putPoint_topology (s : Parts) (p : PointId) (r : Option (Held PointSettings)) : (s.putPoint p r).topology = s.topology := rfl
@[simp] theorem Parts.putPoint_lockouts (s : Parts) (p : PointId) (r : Option (Held PointSettings)) : (s.putPoint p r).lockouts = s.lockouts := rfl
@[simp] theorem Parts.putPoint_lanes (s : Parts) (p : PointId) (r : Option (Held PointSettings)) : (s.putPoint p r).lanes = s.lanes := rfl
@[simp] theorem Parts.putPoint_protection (s : Parts) (p : PointId) (r : Option (Held PointSettings)) : (s.putPoint p r).protection = s.protection := rfl
@[simp] theorem Parts.putPoint_changeover (s : Parts) (p : PointId) (r : Option (Held PointSettings)) : (s.putPoint p r).changeover = s.changeover := rfl
@[simp] theorem Parts.putPoint_paralleling (s : Parts) (p : PointId) (r : Option (Held PointSettings)) : (s.putPoint p r).paralleling = s.paralleling := rfl
@[simp] theorem Parts.putPoint_load (s : Parts) (p : PointId) (r : Option (Held PointSettings)) : (s.putPoint p r).load = s.load := rfl
@[simp] theorem Parts.putPoint_service (s : Parts) (p : PointId) (r : Option (Held PointSettings)) : (s.putPoint p r).service = s.service := rfl
@[simp] theorem Parts.putPoint_attention (s : Parts) (p : PointId) (r : Option (Held PointSettings)) : (s.putPoint p r).attention = s.attention := rfl
@[simp] theorem Parts.putPoint_notices (s : Parts) (p : PointId) (r : Option (Held PointSettings)) : (s.putPoint p r).notices = s.notices := rfl
@[simp] theorem Parts.putPoint_freeReads (s : Parts) (p : PointId) (r : Option (Held PointSettings)) : (s.putPoint p r).freeReads = s.freeReads := rfl

@[simp] theorem Parts.setIndexEntry_store (s : Parts) (d : DeviceId) (e : Option IndexEntry) : (s.setIndexEntry d e).store = s.store := rfl
@[simp] theorem Parts.setIndexEntry_switching (s : Parts) (d : DeviceId) (e : Option IndexEntry) : (s.setIndexEntry d e).switching = s.switching := rfl
@[simp] theorem Parts.setIndexEntry_topology (s : Parts) (d : DeviceId) (e : Option IndexEntry) : (s.setIndexEntry d e).topology = { s.topology with index := s.topology.index.set d e } := rfl
@[simp] theorem Parts.setIndexEntry_lockouts (s : Parts) (d : DeviceId) (e : Option IndexEntry) : (s.setIndexEntry d e).lockouts = s.lockouts := rfl
@[simp] theorem Parts.setIndexEntry_lanes (s : Parts) (d : DeviceId) (e : Option IndexEntry) : (s.setIndexEntry d e).lanes = s.lanes := rfl
@[simp] theorem Parts.setIndexEntry_protection (s : Parts) (d : DeviceId) (e : Option IndexEntry) : (s.setIndexEntry d e).protection = s.protection := rfl
@[simp] theorem Parts.setIndexEntry_changeover (s : Parts) (d : DeviceId) (e : Option IndexEntry) : (s.setIndexEntry d e).changeover = s.changeover := rfl
@[simp] theorem Parts.setIndexEntry_paralleling (s : Parts) (d : DeviceId) (e : Option IndexEntry) : (s.setIndexEntry d e).paralleling = s.paralleling := rfl
@[simp] theorem Parts.setIndexEntry_load (s : Parts) (d : DeviceId) (e : Option IndexEntry) : (s.setIndexEntry d e).load = s.load := rfl
@[simp] theorem Parts.setIndexEntry_service (s : Parts) (d : DeviceId) (e : Option IndexEntry) : (s.setIndexEntry d e).service = s.service := rfl
@[simp] theorem Parts.setIndexEntry_attention (s : Parts) (d : DeviceId) (e : Option IndexEntry) : (s.setIndexEntry d e).attention = s.attention := rfl
@[simp] theorem Parts.setIndexEntry_notices (s : Parts) (d : DeviceId) (e : Option IndexEntry) : (s.setIndexEntry d e).notices = s.notices := rfl
@[simp] theorem Parts.setIndexEntry_freeReads (s : Parts) (d : DeviceId) (e : Option IndexEntry) : (s.setIndexEntry d e).freeReads = s.freeReads := rfl

@[simp] theorem Parts.setGuard_store (s : Parts) (e : ElementId) (d : Option DeviceId) : (s.setGuard e d).store = s.store := rfl
@[simp] theorem Parts.setGuard_switching (s : Parts) (e : ElementId) (d : Option DeviceId) : (s.setGuard e d).switching = s.switching := rfl
@[simp] theorem Parts.setGuard_topology (s : Parts) (e : ElementId) (d : Option DeviceId) : (s.setGuard e d).topology = s.topology := rfl
@[simp] theorem Parts.setGuard_lockouts (s : Parts) (e : ElementId) (d : Option DeviceId) : (s.setGuard e d).lockouts = s.lockouts := rfl
@[simp] theorem Parts.setGuard_lanes (s : Parts) (e : ElementId) (d : Option DeviceId) : (s.setGuard e d).lanes = s.lanes := rfl
@[simp] theorem Parts.setGuard_protection (s : Parts) (e : ElementId) (d : Option DeviceId) : (s.setGuard e d).protection = { s.protection with guards := s.protection.guards.set e d } := rfl
@[simp] theorem Parts.setGuard_changeover (s : Parts) (e : ElementId) (d : Option DeviceId) : (s.setGuard e d).changeover = s.changeover := rfl
@[simp] theorem Parts.setGuard_paralleling (s : Parts) (e : ElementId) (d : Option DeviceId) : (s.setGuard e d).paralleling = s.paralleling := rfl
@[simp] theorem Parts.setGuard_load (s : Parts) (e : ElementId) (d : Option DeviceId) : (s.setGuard e d).load = s.load := rfl
@[simp] theorem Parts.setGuard_service (s : Parts) (e : ElementId) (d : Option DeviceId) : (s.setGuard e d).service = s.service := rfl
@[simp] theorem Parts.setGuard_attention (s : Parts) (e : ElementId) (d : Option DeviceId) : (s.setGuard e d).attention = s.attention := rfl
@[simp] theorem Parts.setGuard_notices (s : Parts) (e : ElementId) (d : Option DeviceId) : (s.setGuard e d).notices = s.notices := rfl
@[simp] theorem Parts.setGuard_freeReads (s : Parts) (e : ElementId) (d : Option DeviceId) : (s.setGuard e d).freeReads = s.freeReads := rfl

@[simp] theorem Parts.setLane_store (s : Parts) (f : LaneId) (x : LaneLive) : (s.setLane f x).store = s.store := rfl
@[simp] theorem Parts.setLane_switching (s : Parts) (f : LaneId) (x : LaneLive) : (s.setLane f x).switching = s.switching := rfl
@[simp] theorem Parts.setLane_topology (s : Parts) (f : LaneId) (x : LaneLive) : (s.setLane f x).topology = s.topology := rfl
@[simp] theorem Parts.setLane_lockouts (s : Parts) (f : LaneId) (x : LaneLive) : (s.setLane f x).lockouts = s.lockouts := rfl
@[simp] theorem Parts.setLane_lanes (s : Parts) (f : LaneId) (x : LaneLive) : (s.setLane f x).lanes = { s.lanes with lanes := s.lanes.lanes.set f x } := rfl
@[simp] theorem Parts.setLane_protection (s : Parts) (f : LaneId) (x : LaneLive) : (s.setLane f x).protection = s.protection := rfl
@[simp] theorem Parts.setLane_changeover (s : Parts) (f : LaneId) (x : LaneLive) : (s.setLane f x).changeover = s.changeover := rfl
@[simp] theorem Parts.setLane_paralleling (s : Parts) (f : LaneId) (x : LaneLive) : (s.setLane f x).paralleling = s.paralleling := rfl
@[simp] theorem Parts.setLane_load (s : Parts) (f : LaneId) (x : LaneLive) : (s.setLane f x).load = s.load := rfl
@[simp] theorem Parts.setLane_service (s : Parts) (f : LaneId) (x : LaneLive) : (s.setLane f x).service = s.service := rfl
@[simp] theorem Parts.setLane_attention (s : Parts) (f : LaneId) (x : LaneLive) : (s.setLane f x).attention = s.attention := rfl
@[simp] theorem Parts.setLane_notices (s : Parts) (f : LaneId) (x : LaneLive) : (s.setLane f x).notices = s.notices := rfl
@[simp] theorem Parts.setLane_freeReads (s : Parts) (f : LaneId) (x : LaneLive) : (s.setLane f x).freeReads = s.freeReads := rfl

/-! ## Updates that set a changed mark where something is shown -/

@[simp] theorem Parts.markIf_store (s : Parts) (b : Bool) (i : StoreIndex) : (s.markIf b i).store = s.store := by
  unfold Parts.markIf; split <;> rfl
@[simp] theorem Parts.markIf_switching (s : Parts) (b : Bool) (i : StoreIndex) : (s.markIf b i).switching = s.switching := by
  unfold Parts.markIf; split <;> rfl
@[simp] theorem Parts.markIf_topology (s : Parts) (b : Bool) (i : StoreIndex) : (s.markIf b i).topology = s.topology := by
  unfold Parts.markIf; split <;> rfl
@[simp] theorem Parts.markIf_lockouts (s : Parts) (b : Bool) (i : StoreIndex) : (s.markIf b i).lockouts = s.lockouts := by
  unfold Parts.markIf; split <;> rfl
@[simp] theorem Parts.markIf_lanes (s : Parts) (b : Bool) (i : StoreIndex) : (s.markIf b i).lanes = s.lanes := by
  unfold Parts.markIf; split <;> rfl
@[simp] theorem Parts.markIf_protection (s : Parts) (b : Bool) (i : StoreIndex) : (s.markIf b i).protection = s.protection := by
  unfold Parts.markIf; split <;> rfl
@[simp] theorem Parts.markIf_changeover (s : Parts) (b : Bool) (i : StoreIndex) : (s.markIf b i).changeover = s.changeover := by
  unfold Parts.markIf; split <;> rfl
@[simp] theorem Parts.markIf_paralleling (s : Parts) (b : Bool) (i : StoreIndex) : (s.markIf b i).paralleling = s.paralleling := by
  unfold Parts.markIf; split <;> rfl
@[simp] theorem Parts.markIf_load (s : Parts) (b : Bool) (i : StoreIndex) : (s.markIf b i).load = s.load := by
  unfold Parts.markIf; split <;> rfl
@[simp] theorem Parts.markIf_service (s : Parts) (b : Bool) (i : StoreIndex) : (s.markIf b i).service = s.service := by
  unfold Parts.markIf; split <;> rfl
@[simp] theorem Parts.markIf_notices (s : Parts) (b : Bool) (i : StoreIndex) : (s.markIf b i).notices = s.notices := by
  unfold Parts.markIf; split <;> rfl
@[simp] theorem Parts.markIf_freeReads (s : Parts) (b : Bool) (i : StoreIndex) : (s.markIf b i).freeReads = s.freeReads := by
  unfold Parts.markIf; split <;> rfl
@[simp] theorem Parts.markIf_flags (s : Parts) (b : Bool) (i : StoreIndex) :
    (s.markIf b i).attention.flags = s.attention.flags := by
  unfold Parts.markIf; split <;> rfl

@[simp] theorem Parts.setDevice_store (s : Parts) (d : DeviceId) (x : DeviceLive) : (s.setDevice d x).store = s.store := by
  unfold Parts.setDevice Parts.markIf; dsimp only; split <;> rfl
@[simp] theorem Parts.setDevice_switching (s : Parts) (d : DeviceId) (x : DeviceLive) : (s.setDevice d x).switching = { s.switching with devices := s.switching.devices.set d x } := by
  unfold Parts.setDevice Parts.markIf; dsimp only; split <;> rfl
@[simp] theorem Parts.setDevice_topology (s : Parts) (d : DeviceId) (x : DeviceLive) : (s.setDevice d x).topology = s.topology := by
  unfold Parts.setDevice Parts.markIf; dsimp only; split <;> rfl
@[simp] theorem Parts.setDevice_lockouts (s : Parts) (d : DeviceId) (x : DeviceLive) : (s.setDevice d x).lockouts = s.lockouts := by
  unfold Parts.setDevice Parts.markIf; dsimp only; split <;> rfl
@[simp] theorem Parts.setDevice_lanes (s : Parts) (d : DeviceId) (x : DeviceLive) : (s.setDevice d x).lanes = s.lanes := by
  unfold Parts.setDevice Parts.markIf; dsimp only; split <;> rfl
@[simp] theorem Parts.setDevice_protection (s : Parts) (d : DeviceId) (x : DeviceLive) : (s.setDevice d x).protection = s.protection := by
  unfold Parts.setDevice Parts.markIf; dsimp only; split <;> rfl
@[simp] theorem Parts.setDevice_changeover (s : Parts) (d : DeviceId) (x : DeviceLive) : (s.setDevice d x).changeover = s.changeover := by
  unfold Parts.setDevice Parts.markIf; dsimp only; split <;> rfl
@[simp] theorem Parts.setDevice_paralleling (s : Parts) (d : DeviceId) (x : DeviceLive) : (s.setDevice d x).paralleling = s.paralleling := by
  unfold Parts.setDevice Parts.markIf; dsimp only; split <;> rfl
@[simp] theorem Parts.setDevice_load (s : Parts) (d : DeviceId) (x : DeviceLive) : (s.setDevice d x).load = s.load := by
  unfold Parts.setDevice Parts.markIf; dsimp only; split <;> rfl
@[simp] theorem Parts.setDevice_service (s : Parts) (d : DeviceId) (x : DeviceLive) : (s.setDevice d x).service = s.service := by
  unfold Parts.setDevice Parts.markIf; dsimp only; split <;> rfl
@[simp] theorem Parts.setDevice_notices (s : Parts) (d : DeviceId) (x : DeviceLive) : (s.setDevice d x).notices = s.notices := by
  unfold Parts.setDevice Parts.markIf; dsimp only; split <;> rfl
@[simp] theorem Parts.setDevice_freeReads (s : Parts) (d : DeviceId) (x : DeviceLive) : (s.setDevice d x).freeReads = s.freeReads := by
  unfold Parts.setDevice Parts.markIf; dsimp only; split <;> rfl
@[simp] theorem Parts.setDevice_flags (s : Parts) (d : DeviceId) (x : DeviceLive) :
    (s.setDevice d x).attention.flags = s.attention.flags := by
  unfold Parts.setDevice Parts.markIf; dsimp only; split <;> rfl

@[simp] theorem Parts.setElement_store (s : Parts) (e : ElementId) (x : ElementLive) : (s.setElement e x).store = s.store := by
  unfold Parts.setElement Parts.markIf; dsimp only; split <;> rfl
@[simp] theorem Parts.setElement_switching (s : Parts) (e : ElementId) (x : ElementLive) : (s.setElement e x).switching = s.switching := by
  unfold Parts.setElement Parts.markIf; dsimp only; split <;> rfl
@[simp] theorem Parts.setElement_topology (s : Parts) (e : ElementId) (x : ElementLive) : (s.setElement e x).topology = s.topology := by
  unfold Parts.setElement Parts.markIf; dsimp only; split <;> rfl
@[simp] theorem Parts.setElement_lockouts (s : Parts) (e : ElementId) (x : ElementLive) : (s.setElement e x).lockouts = s.lockouts := by
  unfold Parts.setElement Parts.markIf; dsimp only; split <;> rfl
@[simp] theorem Parts.setElement_lanes (s : Parts) (e : ElementId) (x : ElementLive) : (s.setElement e x).lanes = s.lanes := by
  unfold Parts.setElement Parts.markIf; dsimp only; split <;> rfl
@[simp] theorem Parts.setElement_protection (s : Parts) (e : ElementId) (x : ElementLive) : (s.setElement e x).protection = { s.protection with elements := s.protection.elements.set e x } := by
  unfold Parts.setElement Parts.markIf; dsimp only; split <;> rfl
@[simp] theorem Parts.setElement_changeover (s : Parts) (e : ElementId) (x : ElementLive) : (s.setElement e x).changeover = s.changeover := by
  unfold Parts.setElement Parts.markIf; dsimp only; split <;> rfl
@[simp] theorem Parts.setElement_paralleling (s : Parts) (e : ElementId) (x : ElementLive) : (s.setElement e x).paralleling = s.paralleling := by
  unfold Parts.setElement Parts.markIf; dsimp only; split <;> rfl
@[simp] theorem Parts.setElement_load (s : Parts) (e : ElementId) (x : ElementLive) : (s.setElement e x).load = s.load := by
  unfold Parts.setElement Parts.markIf; dsimp only; split <;> rfl
@[simp] theorem Parts.setElement_service (s : Parts) (e : ElementId) (x : ElementLive) : (s.setElement e x).service = s.service := by
  unfold Parts.setElement Parts.markIf; dsimp only; split <;> rfl
@[simp] theorem Parts.setElement_notices (s : Parts) (e : ElementId) (x : ElementLive) : (s.setElement e x).notices = s.notices := by
  unfold Parts.setElement Parts.markIf; dsimp only; split <;> rfl
@[simp] theorem Parts.setElement_freeReads (s : Parts) (e : ElementId) (x : ElementLive) : (s.setElement e x).freeReads = s.freeReads := by
  unfold Parts.setElement Parts.markIf; dsimp only; split <;> rfl
@[simp] theorem Parts.setElement_flags (s : Parts) (e : ElementId) (x : ElementLive) :
    (s.setElement e x).attention.flags = s.attention.flags := by
  unfold Parts.setElement Parts.markIf; dsimp only; split <;> rfl

@[simp] theorem Parts.setPoint_store (s : Parts) (p : PointId) (x : PointLive) : (s.setPoint p x).store = s.store := by
  unfold Parts.setPoint Parts.markIf; dsimp only; split <;> rfl
@[simp] theorem Parts.setPoint_switching (s : Parts) (p : PointId) (x : PointLive) : (s.setPoint p x).switching = s.switching := by
  unfold Parts.setPoint Parts.markIf; dsimp only; split <;> rfl
@[simp] theorem Parts.setPoint_topology (s : Parts) (p : PointId) (x : PointLive) : (s.setPoint p x).topology = s.topology := by
  unfold Parts.setPoint Parts.markIf; dsimp only; split <;> rfl
@[simp] theorem Parts.setPoint_lockouts (s : Parts) (p : PointId) (x : PointLive) : (s.setPoint p x).lockouts = s.lockouts := by
  unfold Parts.setPoint Parts.markIf; dsimp only; split <;> rfl
@[simp] theorem Parts.setPoint_lanes (s : Parts) (p : PointId) (x : PointLive) : (s.setPoint p x).lanes = { s.lanes with points := s.lanes.points.set p x } := by
  unfold Parts.setPoint Parts.markIf; dsimp only; split <;> rfl
@[simp] theorem Parts.setPoint_protection (s : Parts) (p : PointId) (x : PointLive) : (s.setPoint p x).protection = s.protection := by
  unfold Parts.setPoint Parts.markIf; dsimp only; split <;> rfl
@[simp] theorem Parts.setPoint_changeover (s : Parts) (p : PointId) (x : PointLive) : (s.setPoint p x).changeover = s.changeover := by
  unfold Parts.setPoint Parts.markIf; dsimp only; split <;> rfl
@[simp] theorem Parts.setPoint_paralleling (s : Parts) (p : PointId) (x : PointLive) : (s.setPoint p x).paralleling = s.paralleling := by
  unfold Parts.setPoint Parts.markIf; dsimp only; split <;> rfl
@[simp] theorem Parts.setPoint_load (s : Parts) (p : PointId) (x : PointLive) : (s.setPoint p x).load = s.load := by
  unfold Parts.setPoint Parts.markIf; dsimp only; split <;> rfl
@[simp] theorem Parts.setPoint_service (s : Parts) (p : PointId) (x : PointLive) : (s.setPoint p x).service = s.service := by
  unfold Parts.setPoint Parts.markIf; dsimp only; split <;> rfl
@[simp] theorem Parts.setPoint_notices (s : Parts) (p : PointId) (x : PointLive) : (s.setPoint p x).notices = s.notices := by
  unfold Parts.setPoint Parts.markIf; dsimp only; split <;> rfl
@[simp] theorem Parts.setPoint_freeReads (s : Parts) (p : PointId) (x : PointLive) : (s.setPoint p x).freeReads = s.freeReads := by
  unfold Parts.setPoint Parts.markIf; dsimp only; split <;> rfl
@[simp] theorem Parts.setPoint_flags (s : Parts) (p : PointId) (x : PointLive) :
    (s.setPoint p x).attention.flags = s.attention.flags := by
  unfold Parts.setPoint Parts.markIf; dsimp only; split <;> rfl

@[simp] theorem Parts.setBlock_store (s : Parts) (l : BlockId) (x : BlockLive) : (s.setBlock l x).store = s.store := by
  unfold Parts.setBlock Parts.markIf; dsimp only; split <;> rfl
@[simp] theorem Parts.setBlock_switching (s : Parts) (l : BlockId) (x : BlockLive) : (s.setBlock l x).switching = s.switching := by
  unfold Parts.setBlock Parts.markIf; dsimp only; split <;> rfl
@[simp] theorem Parts.setBlock_topology (s : Parts) (l : BlockId) (x : BlockLive) : (s.setBlock l x).topology = s.topology := by
  unfold Parts.setBlock Parts.markIf; dsimp only; split <;> rfl
@[simp] theorem Parts.setBlock_lockouts (s : Parts) (l : BlockId) (x : BlockLive) : (s.setBlock l x).lockouts = s.lockouts := by
  unfold Parts.setBlock Parts.markIf; dsimp only; split <;> rfl
@[simp] theorem Parts.setBlock_lanes (s : Parts) (l : BlockId) (x : BlockLive) : (s.setBlock l x).lanes = s.lanes := by
  unfold Parts.setBlock Parts.markIf; dsimp only; split <;> rfl
@[simp] theorem Parts.setBlock_protection (s : Parts) (l : BlockId) (x : BlockLive) : (s.setBlock l x).protection = s.protection := by
  unfold Parts.setBlock Parts.markIf; dsimp only; split <;> rfl
@[simp] theorem Parts.setBlock_changeover (s : Parts) (l : BlockId) (x : BlockLive) : (s.setBlock l x).changeover = s.changeover := by
  unfold Parts.setBlock Parts.markIf; dsimp only; split <;> rfl
@[simp] theorem Parts.setBlock_paralleling (s : Parts) (l : BlockId) (x : BlockLive) : (s.setBlock l x).paralleling = s.paralleling := by
  unfold Parts.setBlock Parts.markIf; dsimp only; split <;> rfl
@[simp] theorem Parts.setBlock_load (s : Parts) (l : BlockId) (x : BlockLive) : (s.setBlock l x).load = { s.load with blocks := s.load.blocks.set l x } := by
  unfold Parts.setBlock Parts.markIf; dsimp only; split <;> rfl
@[simp] theorem Parts.setBlock_service (s : Parts) (l : BlockId) (x : BlockLive) : (s.setBlock l x).service = s.service := by
  unfold Parts.setBlock Parts.markIf; dsimp only; split <;> rfl
@[simp] theorem Parts.setBlock_notices (s : Parts) (l : BlockId) (x : BlockLive) : (s.setBlock l x).notices = s.notices := by
  unfold Parts.setBlock Parts.markIf; dsimp only; split <;> rfl
@[simp] theorem Parts.setBlock_freeReads (s : Parts) (l : BlockId) (x : BlockLive) : (s.setBlock l x).freeReads = s.freeReads := by
  unfold Parts.setBlock Parts.markIf; dsimp only; split <;> rfl
@[simp] theorem Parts.setBlock_flags (s : Parts) (l : BlockId) (x : BlockLive) :
    (s.setBlock l x).attention.flags = s.attention.flags := by
  unfold Parts.setBlock Parts.markIf; dsimp only; split <;> rfl

/-! ## The state -/

@[simp] theorem State.settled_pending (s : State) (u : Parts) : (s.settled u).pending = s.pending := rfl
@[simp] theorem State.settled_inReset (s : State) (u : Parts) : (s.settled u).inReset = s.inReset := rfl
@[simp] theorem State.settled_port (s : State) (u : Parts) : (s.settled u).port = s.port := rfl
@[simp] theorem State.settled_parts (s : State) (u : Parts) : (s.settled u).parts = settle u := rfl

@[simp] theorem State.answers_pending (s : State) (code : Nat) (t : Byte) (a : Status) (body : List Byte) (u : Parts) : (s.answers code t a body u).pending = s.pending := rfl
@[simp] theorem State.answers_inReset (s : State) (code : Nat) (t : Byte) (a : Status) (body : List Byte) (u : Parts) : (s.answers code t a body u).inReset = s.inReset := rfl
@[simp] theorem State.answers_port (s : State) (code : Nat) (t : Byte) (a : Status) (body : List Byte) (u : Parts) : (s.answers code t a body u).port = s.port.respond code t a body := rfl
@[simp] theorem State.answers_parts (s : State) (code : Nat) (t : Byte) (a : Status) (body : List Byte) (u : Parts) : (s.answers code t a body u).parts = u := rfl

end Sys2Proof.Machine
end

