-- ==== Sys2Proof/Laws/Ops.lean ====
section
/-!
SUPPORT. One lemma per shared operation that says what it can do: how an event ends, what the taking of a request answers,
what a check on use of a record gives, what the hold-reason set and the attention flags become, and what a sent character
reads as.
-/

namespace Sys2Proof.Machine

/-! ## The end of an event -/

/-- With no notice sent and no headroom notice due, an event is at its end. -/
theorem settleLoop_calm (n : Nat) (s : Parts) (h : s.calm) : settleLoop n s = s := by
  obtain ⟨h₁, h₂⟩ := h
  cases n with
  | zero => rfl
  | succ n => simp [settleLoop, h₁, h₂]

theorem settle_calm (s : Parts) (h : s.calm) : settle s = s := settleLoop_calm _ s h

/-- A notice that waits is taken before any later one. -/
theorem settleLoop_notice (n : Nat) (m : Notice) (rest : List Notice) (s : Parts) (h : s.notices = m :: rest) :
    settleLoop (n + 1) s = settleLoop n (takeNotice m { s with notices := rest }) := by simp [settleLoop, h]

/-- An update that sends no notice and makes no headroom notice due leaves a calm state calm. -/
theorem Parts.calm.of_eq {s t : Parts} (h : s.calm) (hn : t.notices = s.notices) (hd : t.load.due = s.load.due) :
    t.calm := ⟨hn.trans h.1, hd.trans h.2⟩

theorem State.settled_calm (s : State) (u : Parts) (h : u.calm) : s.settled u = { s with parts := u } := by
  simp [State.settled, settle_calm u h]

/-! ## Events and the taking of a request -/

theorem event_reset (f : Parts → Parts) (s : State) (h : s.inReset = true) : event f s = .next s := by simp [event, h]

theorem event_live (f : Parts → Parts) (s : State) (h : s.inReset = false) :
    event f s = .next (s.settled (f s.parts)) := by simp [event, h, State.settled]

theorem taking_reset (code : Nat) (t : Byte) (owner : Parts → Parts × Status × List Byte) (s : State)
    (h : s.inReset = true) : taking code t owner s = .next s := by simp [taking, h]

theorem taking_live (code : Nat) (t : Byte) (owner : Parts → Parts × Status × List Byte) (s : State)
    (h : s.inReset = false) :
    taking code t owner s =
      .next (s.answers code t (owner s.parts).2.1 (owner s.parts).2.2 (settle (owner s.parts).1)) := by
  simp [taking, h, State.answers]

/-- The taking of a request whose owner sends no notice. -/
theorem taking_calm (code : Nat) (t : Byte) (owner : Parts → Parts × Status × List Byte) (s : State)
    (h : s.inReset = false) (hc : (owner s.parts).1.calm) :
    taking code t owner s =
      .next (s.answers code t (owner s.parts).2.1 (owner s.parts).2.2 (owner s.parts).1) := by
  rw [taking_live code t owner s h, settle_calm _ hc]

theorem inquiry_reset (code : Nat) (t : Byte) (owner : Parts → Parts × Status × List Byte) (s : State)
    (h : s.inReset = true) : inquiry code t owner s = .next s := by simp [inquiry, h]

theorem inquiry_live (code : Nat) (t : Byte) (owner : Parts → Parts × Status × List Byte) (s : State)
    (h : s.inReset = false) :
    inquiry code t owner s =
      .next (s.answers code t (owner s.parts).2.1 (owner s.parts).2.2 (owner s.parts).1) := by
  simp [inquiry, h, State.answers]

/-! ## The check on use (R10, R11) -/

variable {α : Type} [DecidableEq α]

theorem useHeld_empty (put : Held α → Parts → Parts) (i : StoreIndex) (fallback : Parts → Parts) (s : Parts) :
    useHeld none put i fallback s = (s, none) := rfl

theorem useHeld_damaged (h : Held α) (put : Held α → Parts → Parts) (i : StoreIndex) (fallback : Parts → Parts)
    (s : Parts) (hd : h.integrity = .damaged) : useHeld (some h) put i fallback s = (s, none) := by simp [useHeld, hd]

/-- A record found VALID is read as it stands. -/
theorem useHeld_valid (h : Held α) (put : Held α → Parts → Parts) (i : StoreIndex) (fallback : Parts → Parts) (s : Parts)
    (hv : h.valid) : useHeld (some h) put i fallback s = (s, some h.settings) := by
  simp [useHeld, checkHeld, Held.outcome, hv.1, hv.2]

/-- A NEAR-VALID record is restored. -/
theorem useHeld_nearValid (h : Held α) (put : Held α → Parts → Parts) (i : StoreIndex) (fallback : Parts → Parts)
    (s : Parts) (hi : h.integrity ≠ .damaged) (hs : h.settings ≠ h.code.covers) (hr : h.code.restores = true) :
    useHeld (some h) put i fallback s = (((put h.restore s).raise .record).mark i, some h.code.covers) := by
  simp [useHeld, checkHeld, Held.outcome, hi, hs, hr]

/-- An INVALID record becomes DAMAGED and its owner takes its fallback. -/
theorem useHeld_invalid (h : Held α) (put : Held α → Parts → Parts) (i : StoreIndex) (fallback : Parts → Parts)
    (s : Parts) (hi : h.integrity ≠ .damaged) (hs : h.settings ≠ h.code.covers) (hr : h.code.restores = false) :
    useHeld (some h) put i fallback s = (fallback (((put h.damage s).raise .record).mark i), none) := by
  simp [useHeld, checkHeld, Held.outcome, hi, hs, hr]

theorem useDevice_valid (d : DeviceId) (h : Held DeviceSettings) (s : Parts) (hd : s.store.devices[d] = some h)
    (hv : h.valid) : useDevice d s = (s, some h.settings) := by
  unfold useDevice; rw [hd]; exact useHeld_valid h _ _ _ s hv

theorem useDevice_damaged (d : DeviceId) (h : Held DeviceSettings) (s : Parts) (hd : s.store.devices[d] = some h)
    (hv : h.integrity = .damaged) : useDevice d s = (s, none) := by
  unfold useDevice; rw [hd]; exact useHeld_damaged h _ _ _ s hv

theorem useElement_valid (e : ElementId) (h : Held ElementSettings) (s : Parts) (he : s.store.elements[e] = some h)
    (hv : h.valid) : useElement e s = (s, some h.settings) := by
  unfold useElement; rw [he]; exact useHeld_valid h _ _ _ s hv

theorem useLockout_valid (k : SlotId) (h : Held LockoutSettings) (s : Parts) (hk : s.store.lockouts[k] = some h)
    (hv : h.valid) : useLockout k s = (s, some h.settings) := by
  unfold useLockout; rw [hk]; exact useHeld_valid h _ _ _ s hv

/-- A generator record found VALID is read into its in-service copy. -/
theorem useGenerator_valid (g : GeneratorId) (h : Held GeneratorSettings) (s : Parts)
    (hg : s.store.generators[g] = some h) (hv : h.valid) :
    useGenerator g s = (takeCopy g h.settings s, some h.settings) := by
  unfold useGenerator; rw [hg, useHeld_valid h _ _ _ s hv]

/-! ## Hold (R171) -/

/-- A hold reason that is new in service is added and sets the HOLD flag. -/
theorem Parts.addHold_new (s : Parts) (r : HoldReason) (hs : s.service.inService = true)
    (hr : s.service.hold.has r = false) :
    s.addHold r = { s with service.hold := s.service.hold.put r true }.raise .hold := by simp [Parts.addHold, hs, hr]

theorem Parts.addHold_present (s : Parts) (r : HoldReason) (hr : s.service.hold.has r = true) : s.addHold r = s := by
  simp [Parts.addHold, hr]

theorem Parts.removeHold_absent (s : Parts) (r : HoldReason) (hr : s.service.hold.has r = false) :
    s.removeHold r = s := by simp [Parts.removeHold, hr]

/-! ## Index bytes -/

theorem index?_val {n : Nat} (x : Fin n) : index? n x.val = some x := by simp [index?]

theorem index?_none {n k : Nat} (h : n ≤ k) : index? n k = none := by simp [index?, Nat.not_lt.mpr h]

/-! ## Sent characters (R72) and changed marks (R177) -/

/-- A sent character reads as its byte and its marker bit, without an error. -/
theorem characterOf_read : ∀ (m : Bool) (b : Fin 256),
    let w := characterOf (BitVec.ofFin b) m
    characterByte w = BitVec.ofFin b ∧ majority w.marker = m ∧ errorCount w = 0 := by decide +kernel

/-- Marking touches the changed marks alone. -/
theorem markIf_marks (c : Bool) (i : StoreIndex) (s : Parts) :
    ∃ m, s.markIf c i = { s with attention.changed := m } := by
  unfold Parts.markIf Parts.mark
  split
  · exact ⟨_, rfl⟩
  · exact ⟨s.attention.changed, rfl⟩

/-- Marking what has moved touches the changed marks alone. -/
theorem markMoved_marks (before s : Parts) : ∃ m, markMoved before s = { s with attention.changed := m } := by
  unfold markMoved
  generalize allRecords = ns
  induction ns generalizing s with
  | nil => exact ⟨s.attention.changed, rfl⟩
  | cons n ns ih =>
    obtain ⟨m, e⟩ := markIf_marks (liveMoved before s n) n.position s
    obtain ⟨k, f⟩ := ih { s with attention.changed := m }
    exact ⟨k, by simpa [List.foldl_cons, e] using f⟩

end Sys2Proof.Machine
end

