-- ==== Sys2Proof/Laws/Switching.lean ====
section
/-!
SUPPORT. Vectors written at an index of their own type, and what the Switching Unit's shared operations do: the write of a
device, the source and conducting notices, and the requests on a device whose record is VALID.
-/

namespace Sys2Proof.Machine

/-! ## A vector written at an index -/

theorem getElem_set_fin_self {α : Type} {n : Nat} (v : Vector α n) (i : Fin n) (x : α) : (v.set i x)[i] = x := by
  simp [Fin.getElem_fin]

theorem getElem_set_fin_ne {α : Type} {n : Nat} (v : Vector α n) (i j : Fin n) (x : α) (h : i ≠ j) :
    (v.set i x)[j] = v[j] := by
  rw [Fin.getElem_fin, Fin.getElem_fin]
  exact Vector.getElem_set_ne _ _ (fun e => h (Fin.ext e))

theorem set_fin_getElem {α : Type} {n : Nat} (v : Vector α n) (i : Fin n) : v.set i v[i] = v := by
  simp [Fin.getElem_fin]

/-! ## Writing a device -/

theorem Parts.setDevice_calm (s : Parts) (d : DeviceId) (x : DeviceLive) (h : s.calm) : (s.setDevice d x).calm :=
  h.of_eq (by simp) (by simp)

/-- What makes a generator live does not change where no observed pattern and no generator does. -/
theorem Parts.generatorLive_congr (s t : Parts) (g : GeneratorId) (hg : t.paralleling = s.paralleling)
    (hp : ∀ d : DeviceId, t.switching.devices[d].pattern = s.switching.devices[d].pattern) :
    t.generatorLive g = s.generatorLive g := by
  have position : ∀ d, t.position d = s.position d := fun d => by simp only [Parts.position, hp d]
  simp only [Parts.generatorLive, Parts.generatorDevice, hg, position]

/-- A write of a device that keeps its pattern moves no pattern. -/
theorem Parts.setDevice_pattern (s : Parts) (d e : DeviceId) (x : DeviceLive)
    (h : x.pattern = s.switching.devices[d].pattern) :
    (s.setDevice d x).switching.devices[e].pattern = s.switching.devices[e].pattern := by
  rw [Parts.setDevice_switching]
  by_cases he : d = e
  · subst he; rw [getElem_set_fin_self, h]
  · rw [getElem_set_fin_ne _ _ _ _ he]

/-- Where no generator's liveness changes, only a change of the conducting state is told (R40). -/
theorem Parts.sendConducting_quiet (s before : Parts) (d : DeviceId)
    (h : ∀ g, s.generatorLive g = before.generatorLive g) :
    s.sendConducting before d =
      if before.isConducting d != s.isConducting d then s.send (.conducting d) else s := by
  have none : (allGenerators.any fun g => before.generatorLive g != s.generatorLive g) = false := by
    rw [List.any_eq_false]; intro g _; simp [h g]
  simp only [Parts.sendConducting, none]
  rfl

theorem sendCompletion_none (s : Parts) (x : DeviceLive) (d : DeviceId) (r : Result) (a : Action) (h : x.owner = none) :
    s.sendCompletion x d r a = s := by simp [Parts.sendCompletion, h]

theorem sendCompletion_some (s : Parts) (x : DeviceLive) (d : DeviceId) (r : Result) (a : Action) (o : Requester)
    (h : x.owner = some o) : s.sendCompletion x d r a = s.send (.completion o d r a (x.origin.getD o)) := by
  simp [Parts.sendCompletion, h]

/-! ## Requests -/

/-- A close of a device in service whose record is VALID is judged by the chain on its settings. -/
theorem closeRequest_valid (d : DeviceId) (r : Requester) (au : Authorisations) (h : Held DeviceSettings) (s : Parts)
    (h₁ : s.switching.devices[d].state ≠ .retired) (h₂ : s.switching.devices[d].state ≠ .unset)
    (hd : s.store.devices[d] = some h) (hv : h.valid) :
    closeRequest d r au s =
      match closeChain s d r au (some h.settings) with
      | .accepted => (acceptClose s d r au h.settings.closeLimit, .accepted)
      | .already => (s, .already)
      | .refused why => (storeRefusal s d why, .refused why) := by
  simp only [closeRequest, h₁, h₂, or_self, if_false, useDevice_valid d h s hd hv]
  cases closeChain s d r au (some h.settings) <;> rfl

/-- An open of a CLOSED device whose record is VALID starts, for any requester but SUPERVISOR or under REMOTE. -/
theorem openRequest_closed (d : DeviceId) (r : Requester) (h : Held DeviceSettings) (s : Parts)
    (hc : s.switching.devices[d].state = .closed) (hr : r = .supervisor → s.switching.authority = .remoteControl)
    (hd : s.store.devices[d] = some h) (hv : h.valid) :
    openRequest d r s = (s.setDevice d { s.switching.devices[d] with
      state := .opening, owner := some r, origin := some r, failure := none, authorisations := ⟨false, false⟩,
      operateTimer := .running (openTime r (some h.settings)), persistence := .stopped, abortedClose := false },
      .accepted) := by
  have ha : ¬(r = .supervisor ∧ s.switching.authority = .localControl) := fun ⟨a, b⟩ => by simp [hr a] at b
  simp [-Fin.getElem_fin, openRequest, hc, ha, useDevice_valid d h s hd hv, startOpening]
  rfl

end Sys2Proof.Machine
end

