-- ==== Sys2Proof/Laws/Changeover.lean ====
section
/-!
SUPPORT. What the shared operations of the Changeover and Paralleling Units leave of the records and of the sides: the write
of a generator, the start, end and withdrawal of an island sync (R147), and the entries of a side (R124, R125).
-/

namespace Sys2Proof.Machine

/-! ## Writing a generator -/

@[simp] theorem recompute_store (s : Parts) : (recompute s).store = s.store := by
  unfold recompute; dsimp only; split <;> rfl
@[simp] theorem recompute_changeover (s : Parts) : (recompute s).changeover = s.changeover := by
  unfold recompute; dsimp only; split <;> rfl
@[simp] theorem recompute_paralleling (s : Parts) : (recompute s).paralleling = s.paralleling := by
  unfold recompute; dsimp only; split <;> rfl

@[simp] theorem offerContent_store (f : LaneId) (c : Content) (s : Parts) :
    (offerContent f c s).store = s.store := by
  unfold offerContent; dsimp only; repeat' split
  all_goals simp
@[simp] theorem offerContent_changeover (f : LaneId) (c : Content) (s : Parts) :
    (offerContent f c s).changeover = s.changeover := by
  unfold offerContent; dsimp only; repeat' split
  all_goals simp
@[simp] theorem offerContent_paralleling (f : LaneId) (c : Content) (s : Parts) :
    (offerContent f c s).paralleling = s.paralleling := by
  unfold offerContent; dsimp only; repeat' split
  all_goals simp

@[simp] theorem sendCommand_store (g : GeneratorId) (s : Parts) : (sendCommand g s).store = s.store := by
  unfold sendCommand; split <;> simp only [offerContent_store]
@[simp] theorem sendCommand_changeover (g : GeneratorId) (s : Parts) : (sendCommand g s).changeover = s.changeover := by
  unfold sendCommand; split <;> simp only [offerContent_changeover]
@[simp] theorem sendCommand_paralleling (g : GeneratorId) (s : Parts) :
    (sendCommand g s).paralleling = s.paralleling := by
  unfold sendCommand; split <;> simp only [offerContent_paralleling]

@[simp] theorem setGenerator_store (g : GeneratorId) (x : GeneratorLive) (s : Parts) :
    (setGenerator g x s).store = s.store := by
  simp only [setGenerator, writeGenerator, apply_ite Parts.store, Parts.send_store, sendCommand_store, recompute_store,
    Parts.markIf_store, ite_self]
@[simp] theorem setGenerator_changeover (g : GeneratorId) (x : GeneratorLive) (s : Parts) :
    (setGenerator g x s).changeover = s.changeover := by
  simp only [setGenerator, writeGenerator, apply_ite Parts.changeover, Parts.send_changeover, sendCommand_changeover,
    recompute_changeover, Parts.markIf_changeover, ite_self]

/-- A write of a generator leaves the rest of the unit as it was. -/
theorem setGenerator_paralleling (g : GeneratorId) (x : GeneratorLive) (s : Parts) :
    ∃ v, (setGenerator g x s).paralleling = { s.paralleling with generators := v } := by
  simp only [setGenerator, writeGenerator, apply_ite Parts.paralleling, Parts.send_paralleling, sendCommand_paralleling,
    recompute_paralleling, Parts.markIf_paralleling, ite_self]
  exact ⟨_, rfl⟩

/-! ## Island syncs (R147) -/

/-- No island sync waits behind a running one, so that the end of one starts no other. -/
def ParallelingUnit.oneSync (u : ParallelingUnit) : Prop := u.islandSync = none ∨ u.waitingSync = none

/-- What ending island syncs may do to the records: only device records change, by the reading of a closing time, and none
where no sync waits behind another. -/
structure Parts.ReadsAtMostDevices (s t : Parts) : Prop where
  devices : ∃ ds, t.store = { s.store with devices := ds }
  oneSync : s.paralleling.oneSync → t.store = s.store ∧ t.paralleling.oneSync

theorem Parts.ReadsAtMostDevices.trans {s t u : Parts} (h : s.ReadsAtMostDevices t) (k : t.ReadsAtMostDevices u) :
    s.ReadsAtMostDevices u where
  devices := by
    obtain ⟨_, h⟩ := h.devices
    obtain ⟨ds, k⟩ := k.devices
    exact ⟨ds, by rw [k, h]⟩
  oneSync o := by
    obtain ⟨h₁, h₂⟩ := h.oneSync o
    obtain ⟨k₁, k₂⟩ := k.oneSync h₂
    exact ⟨k₁.trans h₁, k₂⟩

/-- An update that leaves the records, and the syncs or none running or waiting. -/
theorem Parts.ReadsAtMostDevices.of_eq {s t : Parts} (hs : t.store = s.store)
    (ho : s.paralleling.oneSync → t.paralleling.oneSync) : s.ReadsAtMostDevices t :=
  ⟨⟨s.store.devices, hs⟩, fun o => ⟨hs, ho o⟩⟩

/-- Levelling an island leaves the records, the Changeover Unit and the syncs. -/
theorem levelIsland_keeps (b : BusId) (s : Parts) :
    (levelIsland b s).store = s.store ∧ (levelIsland b s).changeover = s.changeover ∧
      ∃ v, (levelIsland b s).paralleling = { s.paralleling with generators := v } := by
  unfold levelIsland
  split
  · generalize onlineOf s _ = gs
    clear * -
    induction gs generalizing s with
    | nil => exact ⟨rfl, rfl, _, rfl⟩
    | cons g gs ih =>
      obtain ⟨h₁, h₂, v, h₃⟩ := ih (setGenerator g (s.gen g).level s)
      obtain ⟨w, h₄⟩ := setGenerator_paralleling g (s.gen g).level s
      exact ⟨by simpa using h₁, by simpa using h₂, v, by rw [List.foldl_cons, h₃, h₄]⟩
  · exact ⟨rfl, rfl, _, rfl⟩

/-- A read of a device record writes at most that record, its changed mark and the attention flags. -/
theorem useDevice_writes (d : DeviceId) (s : Parts) :
    ∃ ds a, (useDevice d s).1 = { s with store.devices := ds, attention := a } := by
  unfold useDevice useHeld checkHeld
  repeat' split
  all_goals exact ⟨_, _, rfl⟩

/-- The start of an island sync writes at most device records, by the reading of the closing time. -/
theorem startIslandSync_keeps (i : SideId) (d : DeviceId) (s : Parts) :
    (∃ ds, (startIslandSync i d s).store = { s.store with devices := ds }) ∧
      (startIslandSync i d s).changeover = s.changeover := by
  obtain ⟨ds, a, h⟩ := useDevice_writes d s
  rcases e : useDevice d s with ⟨t, _ | y⟩ <;> rw [e] at h <;> subst h <;>
    exact ⟨⟨ds, by simp [startIslandSync, readClosingTime, e]⟩, by simp [startIslandSync, readClosingTime, e]⟩

/-- The running sync taken away and its island levelled. -/
theorem islandSync_ended (y : IslandSync) (s : Parts) :
    let t := y.incoming.elim { s with paralleling.islandSync := none }
      fun b => levelIsland b { s with paralleling.islandSync := none }
    t.store = s.store ∧ t.changeover = s.changeover ∧ t.paralleling.islandSync = none ∧
      t.paralleling.waitingSync = s.paralleling.waitingSync := by
  cases y.incoming with
  | none => exact ⟨rfl, rfl, rfl, rfl⟩
  | some b =>
    obtain ⟨h₁, h₂, v, h₃⟩ := levelIsland_keeps b { s with paralleling.islandSync := none }
    exact ⟨h₁, h₂, (congrArg ParallelingUnit.islandSync h₃ :), (congrArg ParallelingUnit.waitingSync h₃ :)⟩

theorem endIslandSync_keeps (s : Parts) :
    s.ReadsAtMostDevices (endIslandSync s) ∧ (endIslandSync s).changeover = s.changeover := by
  rcases hy : s.paralleling.islandSync with _ | y
  · rw [show endIslandSync s = s by simp only [endIslandSync, hy]]
    exact ⟨.of_eq rfl id, rfl⟩
  · obtain ⟨h₁, h₂, h₃, h₄⟩ := islandSync_ended y s
    simp only [endIslandSync, hy]
    generalize y.incoming.elim _ _ = t at *
    rcases hw : t.paralleling.waitingSync with _ | ⟨i, d⟩ <;> dsimp only
    · exact ⟨.of_eq h₁ fun _ => .inl h₃, h₂⟩
    · obtain ⟨⟨ds, k₁⟩, k₂⟩ := startIslandSync_keeps i d { t with paralleling.waitingSync := none }
      refine ⟨⟨⟨ds, by rw [k₁]; simp [h₁]⟩, fun o => ?_⟩, k₂.trans h₂⟩
      rcases o with o | o
      · simp [o] at hy
      · simp [← h₄, hw] at o

/-- A side's withdrawal of its island sync. -/
theorem withdrawIslandSync_keeps (i : SideId) (s : Parts) :
    s.ReadsAtMostDevices (withdrawIslandSync i s) ∧ (withdrawIslandSync i s).changeover = s.changeover := by
  let dropped : Parts := match s.paralleling.waitingSync with
    | some (j, _) => if j = i then { s with paralleling.waitingSync := none } else s
    | none => s
  have h : s.ReadsAtMostDevices dropped ∧ dropped.changeover = s.changeover := by
    unfold dropped
    repeat' split
    · exact ⟨.of_eq rfl fun _ => .inr rfl, rfl⟩
    · exact ⟨.of_eq rfl id, rfl⟩
    · exact ⟨.of_eq rfl id, rfl⟩
  have e : withdrawIslandSync i s = match dropped.paralleling.islandSync with
    | some y => if y.side = i then endIslandSync dropped else dropped
    | none => dropped := rfl
  rw [e]
  generalize dropped = t at h ⊢
  obtain ⟨k₁, k₂⟩ := endIslandSync_keeps t
  repeat' split
  · exact ⟨h.1.trans k₁, k₂.trans h.2⟩
  · exact h
  · exact h

/-! ## Entries of a side (R124, R125) -/

/-- What a side withdraws as it leaves a state. -/
theorem withdrawOf_keeps (i : SideId) (st : SideState) (s : Parts) :
    s.ReadsAtMostDevices (withdrawOf i st s) ∧ (withdrawOf i st s).changeover = s.changeover := by
  unfold withdrawOf
  split
  · exact ⟨.of_eq rfl id, rfl⟩
  · exact ⟨.of_eq rfl id, rfl⟩
  · exact withdrawIslandSync_keeps i s
  · exact ⟨.of_eq rfl id, rfl⟩

/-- The claim and its notice are all that an entry writes by the claim. -/
theorem claimAfter_writes (i : SideId) (st : SideState) (s : Parts) :
    ∃ c ns, claimAfter i st s = { s with changeover.claim := c, notices := ns } := by
  unfold claimAfter
  repeat' split
  all_goals exact ⟨_, _, rfl⟩

/-- A supply request written writes its side, with no change of state, and sends its notice. -/
theorem putSupply_writes (i : SideId) (b : Bool) (s : Parts) :
    ∃ x ns, x.state = (s.side i).state ∧ putSupply i b s = { putSide i x s with notices := ns } := by
  unfold putSupply
  dsimp only
  split
  · exact ⟨s.side i, s.notices, rfl, by simp only [putSide, Parts.side, set_fin_getElem]⟩
  · exact ⟨{ s.side i with supply := b }, s.notices ++ [.supply], rfl, rfl⟩

/-- An entry of a side withdraws what it leaves and writes that side: the other side, the scheme and its mode stay. -/
theorem enterSide_keeps (i : SideId) (st : SideState) (s : Parts) :
    s.ReadsAtMostDevices (enterSide i st s) ∧ (enterSide i st s).changeover.scheme = s.changeover.scheme ∧
      (enterSide i st s).changeover.mode = s.changeover.mode ∧ (enterSide i st s).changeover.sides[i].state = st ∧
      ∀ j : SideId, j ≠ i → (enterSide i st s).changeover.sides[j] = s.changeover.sides[j] := by
  have written : ∃ x c ns a, x.state = st ∧ enterSide i st s =
      { putSide i x (withdrawOf i (s.side i).state s) with
        changeover.claim := c, notices := ns, attention := a } := by
    unfold enterSide
    dsimp only
    generalize withdrawOf i (s.side i).state s = t
    generalize hx : SideLive.mk st _ _ _ _ _ _ _ = x
    obtain ⟨c, ns, e₁⟩ := claimAfter_writes i st (putSide i x t)
    rw [e₁]
    generalize supplyAfter st (s.side i).supply = b
    obtain ⟨z, ms, hz, e₂⟩ := putSupply_writes i b { putSide i x t with changeover.claim := c, notices := ns }
    rw [e₂]
    obtain ⟨m, e₃⟩ := markIf_marks ((s.side i).state != st) schemeIndex
      { putSide i z { putSide i x t with changeover.claim := c, notices := ns } with notices := ms }
    rw [e₃]
    have hst : z.state = st := by rw [hz]; simp [Parts.side, putSide, ← hx]
    split <;> exact ⟨z, c, ms, _, hst, by simp [putSide, Parts.raise]; rfl⟩
  obtain ⟨h₁, h₂⟩ := withdrawOf_keeps i (s.side i).state s
  obtain ⟨x, c, ns, a, hx, e⟩ := written
  rw [e]
  refine ⟨h₁.trans (.of_eq rfl id), (congrArg ChangeoverUnit.scheme h₂ :), (congrArg ChangeoverUnit.mode h₂ :), ?_,
    fun j hj => ?_⟩
  · simp [putSide, hx]
  · simp only [putSide, h₂]
    exact getElem_set_fin_ne _ _ _ _ (Ne.symm hj)

/-- An entry of a side into MANUAL by SCHEME MODE (R124), with the notice of a changed state to the other side. -/
theorem onSide_sideManual_keeps (i : SideId) (s : Parts) :
    s.ReadsAtMostDevices (onSide i (sideManual i) s) ∧
      (onSide i (sideManual i) s).changeover.scheme = s.changeover.scheme ∧
      (onSide i (sideManual i) s).changeover.mode = s.changeover.mode ∧
      (onSide i (sideManual i) s).changeover.sides[i].state = .manual ∧
      ∀ j : SideId, j ≠ i → (onSide i (sideManual i) s).changeover.sides[j] = s.changeover.sides[j] := by
  obtain ⟨h₁, h₂⟩ := withdrawIslandSync_keeps i (withdrawPreShed i s)
  obtain ⟨k₁, k₂, k₃, k₄, k₅⟩ := enterSide_keeps i .manual (withdrawIslandSync i (withdrawPreShed i s))
  have told : ∀ f, onSide i f s = f s ∨ ∃ n, onSide i f s = (f s).send n := fun f => by
    unfold onSide; dsimp only; split
    · exact .inl rfl
    · exact .inr ⟨_, rfl⟩
  have shed : s.ReadsAtMostDevices (withdrawPreShed i s) := .of_eq rfl id
  have kept : s.ReadsAtMostDevices (sideManual i s) := shed.trans (h₁.trans k₁)
  rw [h₂] at k₂ k₃ k₅
  rcases told (sideManual i) with e | ⟨n, e⟩ <;> rw [e]
  · exact ⟨kept, k₂, k₃, k₄, k₅⟩
  · exact ⟨kept.trans (.of_eq rfl id), k₂, k₃, k₄, k₅⟩

/-- Both sides put in MANUAL: the scheme and its mode stay, and of the records at most device records change. -/
theorem onSides_sideManual_keeps (s : Parts) :
    s.ReadsAtMostDevices (onSides sideManual s) ∧ (onSides sideManual s).changeover.scheme = s.changeover.scheme ∧
      (onSides sideManual s).changeover.mode = s.changeover.mode ∧
      ∀ i : SideId, (onSides sideManual s).changeover.sides[i].state = .manual := by
  have e : onSides sideManual s = onSide 1 (sideManual 1) (onSide 0 (sideManual 0) s) := by
    simp only [onSides, (by decide : allSides = [0, 1]), List.foldl_cons, List.foldl_nil]
  obtain ⟨h₁, h₂, h₃, h₄, -⟩ := onSide_sideManual_keeps 0 s
  obtain ⟨k₁, k₂, k₃, k₄, k₅⟩ := onSide_sideManual_keeps 1 (onSide 0 (sideManual 0) s)
  rw [e]
  refine ⟨h₁.trans k₁, k₂.trans h₂, k₃.trans h₃, fun i => ?_⟩
  rcases (by decide : ∀ i : SideId, i = 0 ∨ i = 1) i with rfl | rfl
  · rw [k₅ 0 (by decide), h₄]
  · exact k₄

end Sys2Proof.Machine
end

