-- ==== Sys2Proof/Laws/PerInstr.lean ====
section
/-!
SUPPORT. For every command: a host request that can be sent has a body of at most 1020 bytes (R178),
so its frame declares the length it has. The family is FitsFrame, one lemma per constructor.
-/

namespace Sys2Proof.Laws

open Sys2Proof.Machine

/-- A pair is five bytes (R178). -/
theorem pairBytes_length (p : FieldPair) : (pairBytes p).length = 5 := rfl

theorem pairs_length (ps : List FieldPair) : (ps.flatMap pairBytes).length = 5 * ps.length := by
  induction ps with
  | nil => rfl
  | cons p ps ih => simp only [List.flatMap_cons, List.length_append, pairBytes_length, ih, List.length_cons]; omega

theorem pairsFit_length {ps : List FieldPair} (h : pairsFit ps = true) : 2 + 5 * ps.length ≤ Config.maximumBody := by
  simp only [pairsFit, Bool.and_eq_true, decide_eq_true_eq] at h; exact h.2

theorem devicesFit_length {n : Nat} {ds : List Nat} (h : devicesFit n ds = true) :
    n + ds.length ≤ Config.maximumBody := by
  simp only [devicesFit, Bool.and_eq_true, decide_eq_true_eq] at h; exact h.2

namespace FitsFrame

/-- A command that can be sent as a host request has a code of one byte and a body that a frame may carry. -/
def Statement (i : Instr) : Prop :=
  i.wellFormed = true → ∀ r, bodyOf i = some r → r.1 < 256 ∧ r.2.2.length ≤ Config.maximumBody

/-- A command that is no host request has no body. -/
theorem of_none {i : Instr} (h : bodyOf i = none) : Statement i := by
  intro _ r hr; rw [h] at hr; cases hr

/-- A command whose body is known. -/
theorem of_some {i : Instr} {r : Nat × Byte × List Byte} (h : bodyOf i = some r) (hc : r.1 < 256)
    (hl : i.wellFormed = true → r.2.2.length ≤ Config.maximumBody) : Statement i := by
  intro hw q hq; rw [h] at hq; cases hq; exact ⟨hc, hl hw⟩

theorem powerOn (levels : InputLevels) : Statement (.powerOn levels) := of_none rfl
theorem resetAssert : Statement .resetAssert := of_none rfl
theorem resetRelease (levels : InputLevels) : Statement (.resetRelease levels) := of_none rfl
theorem deviceInputChange (device : DeviceId) (input : DeviceInput) (level : Bool) :
    Statement (.deviceInputChange device input level) :=
  of_none rfl
theorem authorityChange (authority : Authority) : Statement (.authorityChange authority) := of_none rfl
theorem spiTransaction (bytes : List Byte) : Statement (.spiTransaction bytes) := of_none rfl
theorem read (tag : Byte) (kind index : Nat) :
    Statement (.read tag kind index) :=
  of_some rfl (Nat.le_of_ble_eq_true rfl) fun _ => Nat.le_of_ble_eq_true rfl
theorem readChanged (tag : Byte) (kind : Nat) :
    Statement (.readChanged tag kind) :=
  of_some rfl (Nat.le_of_ble_eq_true rfl) fun _ => Nat.le_of_ble_eq_true rfl
theorem readIslands (tag : Byte) :
    Statement (.readIslands tag) :=
  of_some rfl (Nat.le_of_ble_eq_true rfl) fun _ => Nat.le_of_ble_eq_true rfl
theorem readSummary (tag : Byte) :
    Statement (.readSummary tag) :=
  of_some rfl (Nat.le_of_ble_eq_true rfl) fun _ => Nat.le_of_ble_eq_true rfl
theorem acknowledge (tag : Byte) (flags : Nat) :
    Statement (.acknowledge tag flags) :=
  of_some rfl (Nat.le_of_ble_eq_true rfl) fun _ => Nat.le_of_ble_eq_true rfl
theorem load (tag : Byte) (kind index : Nat) (pairs : List FieldPair) : Statement (.load tag kind index pairs) :=
  of_some rfl (Nat.le_of_ble_eq_true rfl) fun h => by
    have hp : pairsFit pairs = true := by simp only [Instr.wellFormed, Bool.and_eq_true] at h; exact h.2
    have hn := pairsFit_length hp
    simp only [List.length_cons, pairs_length]; omega
theorem amend (tag : Byte) (kind index : Nat) (pairs : List FieldPair) : Statement (.amend tag kind index pairs) :=
  of_some rfl (Nat.le_of_ble_eq_true rfl) fun h => by
    have hp : pairsFit pairs = true := by simp only [Instr.wellFormed, Bool.and_eq_true] at h; exact h.2
    have hn := pairsFit_length hp
    simp only [List.length_cons, pairs_length]; omega
theorem retire (tag : Byte) (kind index : Nat) :
    Statement (.retire tag kind index) :=
  of_some rfl (Nat.le_of_ble_eq_true rfl) fun _ => Nat.le_of_ble_eq_true rfl
theorem operate (tag : Byte) (device : Nat) (action : Action) :
    Statement (.operate tag device action) :=
  of_some rfl (Nat.le_of_ble_eq_true rfl) fun _ => Nat.le_of_ble_eq_true rfl
theorem syncClose (tag : Byte) (device : Nat) :
    Statement (.syncClose tag device) :=
  of_some rfl (Nat.le_of_ble_eq_true rfl) fun _ => Nat.le_of_ble_eq_true rfl
theorem acknowledgeFailure (tag : Byte) (device : Nat) :
    Statement (.acknowledgeFailure tag device) :=
  of_some rfl (Nat.le_of_ble_eq_true rfl) fun _ => Nat.le_of_ble_eq_true rfl
theorem releaseIntertrip (tag : Byte) (side : Nat) :
    Statement (.releaseIntertrip tag side) :=
  of_some rfl (Nat.le_of_ble_eq_true rfl) fun _ => Nat.le_of_ble_eq_true rfl
theorem placeLockout (tag : Byte) (reason : Nat) (devices : List Nat) : Statement (.placeLockout tag reason devices) :=
  of_some rfl (Nat.le_of_ble_eq_true rfl) fun h => by
    have hd := devicesFit_length (by simp only [Instr.wellFormed, Bool.and_eq_true] at h; exact h.2)
    simp only [bytes16, List.length_append, List.length_cons, List.length_nil, List.length_map]; omega
theorem addDevices (tag : Byte) (slot : Nat) (devices : List Nat) : Statement (.addDevices tag slot devices) :=
  of_some rfl (Nat.le_of_ble_eq_true rfl) fun h => by
    have hd := devicesFit_length (by simp only [Instr.wellFormed, Bool.and_eq_true] at h; exact h.2)
    simp only [List.length_cons, List.length_map]; omega
theorem dropDevices (tag : Byte) (slot : Nat) (devices : List Nat) : Statement (.dropDevices tag slot devices) :=
  of_some rfl (Nat.le_of_ble_eq_true rfl) fun h => by
    have hd := devicesFit_length (by simp only [Instr.wellFormed, Bool.and_eq_true] at h; exact h.2)
    simp only [List.length_cons, List.length_map]; omega
theorem releaseLockout (tag : Byte) (slot : Nat) :
    Statement (.releaseLockout tag slot) :=
  of_some rfl (Nat.le_of_ble_eq_true rfl) fun _ => Nat.le_of_ble_eq_true rfl
theorem resetElement (tag : Byte) (element : Nat) :
    Statement (.resetElement tag element) :=
  of_some rfl (Nat.le_of_ble_eq_true rfl) fun _ => Nat.le_of_ble_eq_true rfl
theorem testInject (tag : Byte) (point : Nat) (values : PointValues) (mode : TestMode) (duration : Nat) :
    Statement (.testInject tag point values mode duration) :=
  of_some rfl (Nat.le_of_ble_eq_true rfl) fun _ => Nat.le_of_ble_eq_true rfl
theorem endTest (tag : Byte) (point : Nat) :
    Statement (.endTest tag point) :=
  of_some rfl (Nat.le_of_ble_eq_true rfl) fun _ => Nat.le_of_ble_eq_true rfl
theorem schemeMode (tag : Byte) (mode : SchemeMode) :
    Statement (.schemeMode tag mode) :=
  of_some rfl (Nat.le_of_ble_eq_true rfl) fun _ => Nat.le_of_ble_eq_true rfl
theorem resetSide (tag : Byte) (side : Nat) :
    Statement (.resetSide tag side) :=
  of_some rfl (Nat.le_of_ble_eq_true rfl) fun _ => Nat.le_of_ble_eq_true rfl
theorem generatorStart (tag : Byte) (generator : Nat) :
    Statement (.generatorStart tag generator) :=
  of_some rfl (Nat.le_of_ble_eq_true rfl) fun _ => Nat.le_of_ble_eq_true rfl
theorem generatorStop (tag : Byte) (generator : Nat) :
    Statement (.generatorStop tag generator) :=
  of_some rfl (Nat.le_of_ble_eq_true rfl) fun _ => Nat.le_of_ble_eq_true rfl
theorem resetGenerator (tag : Byte) (generator : Nat) :
    Statement (.resetGenerator tag generator) :=
  of_some rfl (Nat.le_of_ble_eq_true rfl) fun _ => Nat.le_of_ble_eq_true rfl
theorem holdBlock (tag : Byte) (block : Nat) :
    Statement (.holdBlock tag block) :=
  of_some rfl (Nat.le_of_ble_eq_true rfl) fun _ => Nat.le_of_ble_eq_true rfl
theorem releaseBlock (tag : Byte) (block : Nat) :
    Statement (.releaseBlock tag block) :=
  of_some rfl (Nat.le_of_ble_eq_true rfl) fun _ => Nat.le_of_ble_eq_true rfl
theorem shedBlock (tag : Byte) (block : Nat) :
    Statement (.shedBlock tag block) :=
  of_some rfl (Nat.le_of_ble_eq_true rfl) fun _ => Nat.le_of_ble_eq_true rfl
theorem restoreBlock (tag : Byte) (block : Nat) :
    Statement (.restoreBlock tag block) :=
  of_some rfl (Nat.le_of_ble_eq_true rfl) fun _ => Nat.le_of_ble_eq_true rfl
theorem hold (tag : Byte) : Statement (.hold tag) :=
  of_some rfl (Nat.le_of_ble_eq_true rfl) fun _ => Nat.le_of_ble_eq_true rfl
theorem resume (tag : Byte) : Statement (.resume tag) :=
  of_some rfl (Nat.le_of_ble_eq_true rfl) fun _ => Nat.le_of_ble_eq_true rfl
theorem enterService (tag : Byte) :
    Statement (.enterService tag) :=
  of_some rfl (Nat.le_of_ble_eq_true rfl) fun _ => Nat.le_of_ble_eq_true rfl
theorem leaveService (tag : Byte) :
    Statement (.leaveService tag) :=
  of_some rfl (Nat.le_of_ble_eq_true rfl) fun _ => Nat.le_of_ble_eq_true rfl
theorem unknownRequest (frame : List Byte) : Statement (.unknownRequest frame) := of_none rfl
theorem laneCharacter (lane : LaneId) (character : LaneCharacter) :
    Statement (.laneCharacter lane character) :=
  of_none rfl
theorem laneBreak (lane : LaneId) : Statement (.laneBreak lane) := of_none rfl
theorem silenceTimerExpiry (lane : LaneId) : Statement (.silenceTimerExpiry lane) := of_none rfl
theorem setpointTransmitDone (lane : LaneId) : Statement (.setpointTransmitDone lane) := of_none rfl
theorem testIntervalExpiry (point : PointId) : Statement (.testIntervalExpiry point) := of_none rfl
theorem testDurationExpiry (point : PointId) : Statement (.testDurationExpiry point) := of_none rfl
theorem scrubStep (upsets : List Upset) : Statement (.scrubStep upsets) := of_none rfl
theorem closeLimitExpiry (device : DeviceId) : Statement (.closeLimitExpiry device) := of_none rfl
theorem openTimerExpiry (device : DeviceId) : Statement (.openTimerExpiry device) := of_none rfl
theorem persistenceTimerExpiry (device : DeviceId) : Statement (.persistenceTimerExpiry device) := of_none rfl
theorem blindTimerExpiry (element : ElementId) : Statement (.blindTimerExpiry element) := of_none rfl
theorem zoneTimerExpiry (element : ElementId) : Statement (.zoneTimerExpiry element) := of_none rfl
theorem lossTimerExpiry (utility : UtilityId) : Statement (.lossTimerExpiry utility) := of_none rfl
theorem returnTimerExpiry (utility : UtilityId) : Statement (.returnTimerExpiry utility) := of_none rfl
theorem deadTimerExpiry (side : SideId) : Statement (.deadTimerExpiry side) := of_none rfl
theorem retransferSyncTimerExpiry (side : SideId) : Statement (.retransferSyncTimerExpiry side) := of_none rfl
theorem overlapTimerExpiry (island : BusId) : Statement (.overlapTimerExpiry island) := of_none rfl
theorem startLimitExpiry (generator : GeneratorId) : Statement (.startLimitExpiry generator) := of_none rfl
theorem syncLimitExpiry (generator : GeneratorId) : Statement (.syncLimitExpiry generator) := of_none rfl
theorem hostTieSyncLimitExpiry : Statement .hostTieSyncLimitExpiry := of_none rfl
theorem unloadLimitExpiry (generator : GeneratorId) : Statement (.unloadLimitExpiry generator) := of_none rfl
theorem cooldownExpiry (generator : GeneratorId) : Statement (.cooldownExpiry generator) := of_none rfl
theorem addTimerExpiry (island : BusId) : Statement (.addTimerExpiry island) := of_none rfl
theorem removeTimerExpiry (island : BusId) : Statement (.removeTimerExpiry island) := of_none rfl
theorem restoreTimerExpiry : Statement .restoreTimerExpiry := of_none rfl
theorem sselAssertion : Statement .sselAssertion := of_none rfl
theorem lineReturnsToMarking (lane : LaneId) : Statement (.lineReturnsToMarking lane) := of_none rfl

end FitsFrame

end Sys2Proof.Laws
end

