-- ==== Sys2Proof/Tests/Slice0.lean ====
section
/-!
SUPPORT. Tests on small states: an ill-formed command for each check of WellFormed, the worked numbers of the spec, and for
every statement with hypotheses a state and operands that meet them, clause by clause.
-/

namespace Sys2Proof.Tests

/- One theorem after another: each decide +kernel waits for the kernel, and a thread for each would fill the memory. -/
set_option Elab.async false
/- The instances of a long conjunction over tuples. -/
set_option synthInstance.maxSize 1024

open Sys2Proof Sys2Proof.Machine

/-! ## Sample settings -/

def station : StationSettings :=
  { nominal := .hz50, interval := 10, liveThreshold := 800, deadThreshold := 200, scrubPeriod := 4, loadingLimit := 90,
    reserve := 10, addDelay := 10, removeDelay := 30, unloadLimit := 20, restoreMode := .stepped, restoreInterval := 5,
    restoreMargin := 100,
    lanes := Vector.ofFn fun f => ⟨true, if f.val < 8 then .sensing else .generator, 1, 4⟩ }

def deviceOf (a : BusId) (b : TerminalB) : DeviceSettings :=
  { terminalA := a, terminalB := b, closingTime := 60, closeLimit := 400, openLimit := 120, breakerFailureTime := 150,
    mask := .both, automatic := true }

def element : ElementSettings :=
  { kind := .overcurrent, point := 0, quantity := some .phase, pickup := 100, curve := .definite, a := 1, b := 50,
    timeDial := 10, resetMode := .instant, resetTime := 100, guarded := 4,
    actions := { trip := true, lockout := false, busLockout := false, alarm := false }, upstream := none,
    zoneFast := some 50, blindLimit := 4 }

def tag (ds : List DeviceId) : LockoutSettings := { kind := .tag, origin := .supervisor, devices := ds, reason := 1 }

def utility (p : PointId) : UtilitySettings :=
  { point := p, capacity := 5000, windowLow := 900, windowHigh := 1100, deviation := 500, lossDelay := 100,
    returnDelay := 10 }

def generator : GeneratorSettings :=
  { lane := 8, point := 32, device := 3, rating := 1000, startLimit := 30, cooldown := 60, voltageWindow := 50,
    slipMaximum := 200, slipTarget := 50, phaseWindow := 100, positiveSlipOnly := false, frequencyNudgeMaximum := 500,
    voltageNudgeMaximum := 50, unloadThreshold := 5, syncLimit := 60 }

def block : BlockSettings := { feeder := 4, point := 0, priority := 3, critical := false, demandFloor := 50 }

def scheme : SchemeSettings :=
  { sides := #v[⟨0, 0, 0, some 5⟩, ⟨1, 1, 1, none⟩], tie := some 2, generatorBus := some 2, style := .closed,
    retransfer := .auto, preferred := .tieFirst, minimumDead := 500, maximumOverlap := 300, syncLimit := 30 }

/-- The scheme without a tie, and also without a generator bus. -/
def islanded : SchemeSettings := { scheme with tie := none }
def alone : SchemeSettings := { islanded with sides := #v[⟨0, 0, 0, none⟩, ⟨1, 1, 1, none⟩], generatorBus := none }

/-! ## Sample states -/

def contactsOpen : Pattern := ⟨true, false, true, true⟩
def contactsClosed : Pattern := ⟨false, true, true, true⟩
def contactsTravel : Pattern := ⟨false, false, true, true⟩

def deviceAt (st : DeviceState) (p : Pattern) : DeviceLive := { DeviceLive.initial p with state := st }
def inFlight (st : DeviceState) (p : Pattern) (o : Requester) : DeviceLive :=
  { deviceAt st p with owner := some o, origin := some o, operateTimer := .running 1 }

/-- The part after power-on with its blocks put through a change. -/
def partOf (f : Parts → Parts) : State := { State.reset with parts := f State.reset.parts }

/-- In service with the Station values, and nothing else. -/
def inService (s : Parts) : Parts := { s with service := { s.service with inService := true, station := some station } }

/-- Authority REMOTE. -/
def remote (s : Parts) : Parts := { s with switching.authority := .remoteControl }

/-- A device record, its index entry and its live half. -/
def withDevice (d : DeviceId) (a : BusId) (b : TerminalB) (x : DeviceLive) (s : Parts) : Parts :=
  { s with
    store.devices := s.store.devices.set d (some (Held.fresh (deviceOf a b)))
    switching.devices := s.switching.devices.set d x
    topology.index := s.topology.index.set d (some ⟨a, b⟩)
    topology.conducting := s.topology.conducting.set d x.isConducting }

/-- Buses in use of a class, with the islands that the rest then forms. -/
def withBuses (bs : List BusId) (c : ThresholdClass) (s : Parts) : Parts :=
  let t := { s with
    topology.inUse := bs.foldl (fun v (b : BusId) => v.set b true) s.topology.inUse
    topology.classes := bs.foldl (fun v (b : BusId) => v.set b c) s.topology.classes }
  { t with topology.islands := computeIslands t }

/-- A feeder D4 of block L0 on bus B0. -/
def feeder (x : DeviceLive) (s : Parts) : Parts := withDevice 4 0 (.block 0) x s

/-- A TAG over devices, counted. -/
def withTag (k : SlotId) (ds : List DeviceId) (s : Parts) : Parts :=
  { s with
    store.lockouts := s.store.lockouts.set k (some (Held.fresh (tag ds)))
    lockouts.cover := ds.foldl (fun v (d : DeviceId) => v.set d (v[d] + 1)) s.lockouts.cover }

/-- A command carried out. -/
def after (i : Instr) (s : State) : State :=
  match exec i s with
  | .next t => t
  | _ => s

/-- The status and body of the prepared response. -/
def answerOf (s : State) : Option (Status × List Byte) := s.port.response.map fun r => (r.status, r.body)

/-- In service under REMOTE with the intake scheme: incomers D0 and D1, tie D2, generator tie D5 on bus B2. -/
def schemed (m : SchemeMode) (y : SchemeSettings) (x : DeviceId → DeviceLive) : State :=
  partOf fun p =>
    let q := remote (inService p)
    let q := withDevice 5 0 (.bus 2) (x 5) (withDevice 2 0 (.bus 1) (x 2)
      (withDevice 1 1 (.utility 1) (x 1) (withDevice 0 0 (.utility 0) (x 0) q)))
    let q := { q with
      store.scheme := some (Held.fresh y), changeover.scheme := some y, changeover.mode := m
      changeover.utilities := q.changeover.utilities.map fun u => { u with qualification := .qualified } }
    withBuses [2] .low (withBuses [1, 0] .high q)

def openAll (_ : DeviceId) : DeviceLive := deviceAt .open contactsOpen
def incomersClosed (d : DeviceId) : DeviceLive :=
  if d = 0 ∨ d = 1 then deviceAt .closed contactsClosed else deviceAt .open contactsOpen

/-- In service under REMOTE: generator G11 behind D3 on bus B2, with a tie D5 from bus B0. -/
def generating (x : GeneratorLive) (dev : DeviceLive) : State :=
  partOf fun p =>
    let q := withDevice 5 0 (.bus 2) (deviceAt .open contactsOpen)
      (withDevice 3 2 (.generator 11) dev (remote (inService p)))
    let q := { q with
      store.generators := q.store.generators.set 11 (some (Held.fresh generator))
      paralleling.generators := q.paralleling.generators.set 11 { x with settings := some generator } }
    withBuses [2, 0] .high q

def genAt (st : GeneratorState) : GeneratorLive := { GeneratorLive.initial with state := st }
def openGen : DeviceLive := deviceAt .open contactsOpen
def closedGen : DeviceLive := deviceAt .closed contactsClosed
def g11 (s : State) : GeneratorLive := s.parts.paralleling.generators[(11 : GeneratorId)]
def runningGen : State := generating { genAt .online with run := .run, sequence := some 1 } closedGen

/-- In service under REMOTE: bus B0 fed by U1 through D0, and block L23 behind feeder D4. -/
def loaded (x : BlockLive) (dev : DeviceLive) : State :=
  partOf fun p =>
    let q := withDevice 4 0 (.block 23) dev
      (withDevice 0 0 (.utility 1) (deviceAt .closed contactsClosed) (remote (inService p)))
    let q := { q with
      store.blocks := q.store.blocks.set 23 (some (Held.fresh block))
      load.blocks := q.load.blocks.set 23 { x with settings := some block }
      changeover.utilities := q.changeover.utilities.set 1
        { UtilityLive.initial with qualification := .qualified, settings := some (utility 32) } }
    withBuses [0] .high q

def blockAt (st : BlockState) : BlockLive := { BlockLive.initial with state := st, demand := some 50 }
def shedAt (n : Nat) : BlockLive := { blockAt .shed with shedSequence := some n }
def l23 (s : State) : BlockLive := s.parts.load.blocks[(23 : BlockId)]

/-- In service with element E63 on point P0, guarding the closed feeder D4. -/
def guarded (f : ElementSettings → ElementSettings) (x : ElementLive) : State :=
  partOf fun p =>
    let q := feeder (deviceAt .closed contactsClosed) (remote (inService p))
    { q with
      store.elements := q.store.elements.set 63 (some (Held.fresh (f element)))
      protection.elements := q.protection.elements.set 63 x
      protection.watch := q.protection.watch.set 63 (some 0)
      protection.guards := q.protection.guards.set 63 (some 4) }

def elementAt (st : ElementState) (n : Nat) : ElementLive := { ElementLive.initial with state := st, accumulator := n }

/-! ## Ill-formed commands, which the check refuses -/

theorem test_illformed_port :
    Instr.wellFormed (.read 0 256 0) = false ∧ Instr.wellFormed (.read 0 0 256) = false ∧
    Instr.wellFormed (.readChanged 0 256) = false ∧ Instr.wellFormed (.acknowledge 0 65536) = false ∧
    Instr.wellFormed (.unknownRequest [0x03, 0, 0, 0, 0x21, 0x21]) = true ∧
    Instr.wellFormed (.unknownRequest ((frameOf (.readIslands 0)).getD [])) = false ∧
    Instr.wellFormed (.unknownRequest [0x03, 0, 0, 0, 0x21]) = false := by decide +kernel

theorem test_illformed_records :
    Instr.wellFormed (.load 0 256 0 []) = false ∧ Instr.wellFormed (.load 0 0 256 []) = false ∧
    Instr.wellFormed (.load 0 0 0 [⟨256, 0⟩]) = false ∧ Instr.wellFormed (.load 0 0 0 [⟨1, 2147483648⟩]) = false ∧
    Instr.wellFormed (.load 0 0 0 (List.replicate 204 ⟨1, 0⟩)) = false ∧
    Instr.wellFormed (.load 0 0 0 (List.replicate 203 ⟨1, -2147483648⟩)) = true ∧
    Instr.wellFormed (.amend 0 256 0 []) = false ∧ Instr.wellFormed (.amend 0 0 256 []) = false ∧
    Instr.wellFormed (.amend 0 0 0 [⟨1, -2147483649⟩]) = false ∧ Instr.wellFormed (.retire 0 256 0) = false ∧
    Instr.wellFormed (.retire 0 0 256) = false ∧
    Instr.wellFormed (.scrubStep [⟨0, .point ⟨.bus⟩, true⟩]) = false := by decide +kernel

theorem test_illformed_requests :
    Instr.wellFormed (.operate 0 256 .open) = false ∧ Instr.wellFormed (.syncClose 0 256) = false ∧
    Instr.wellFormed (.acknowledgeFailure 0 256) = false ∧ Instr.wellFormed (.releaseIntertrip 0 256) = false ∧
    Instr.wellFormed (.placeLockout 0 65536 [1]) = false ∧ Instr.wellFormed (.placeLockout 0 0 [256]) = false ∧
    Instr.wellFormed (.placeLockout 0 0 (List.replicate 1019 0)) = false ∧
    Instr.wellFormed (.addDevices 0 256 []) = false ∧ Instr.wellFormed (.addDevices 0 0 [256]) = false ∧
    Instr.wellFormed (.dropDevices 0 256 []) = false ∧ Instr.wellFormed (.dropDevices 0 0 (List.replicate 1020 0)) = false ∧
    Instr.wellFormed (.releaseLockout 0 256) = false ∧ Instr.wellFormed (.resetElement 0 256) = false ∧
    Instr.wellFormed (.endTest 0 256) = false ∧ Instr.wellFormed (.resetSide 0 256) = false ∧
    Instr.wellFormed (.generatorStart 0 256) = false ∧ Instr.wellFormed (.generatorStop 0 256) = false ∧
    Instr.wellFormed (.resetGenerator 0 256) = false ∧ Instr.wellFormed (.holdBlock 0 256) = false ∧
    Instr.wellFormed (.releaseBlock 0 256) = false ∧ Instr.wellFormed (.shedBlock 0 256) = false ∧
    Instr.wellFormed (.restoreBlock 0 256) = false := by decide +kernel

theorem test_illformed_test_values :
    Instr.wellFormed (.testInject 0 256 ⟨0, 0, 0, 0, 0, 0, 0, 0⟩ .live 1) = false ∧
    Instr.wellFormed (.testInject 0 0 ⟨65536, 0, 0, 0, 0, 0, 0, 0⟩ .live 1) = false ∧
    Instr.wellFormed (.testInject 0 0 ⟨0, 0, 0, 0, 0, 0, 32768, 0⟩ .live 1) = false ∧
    Instr.wellFormed (.testInject 0 0 ⟨0, 0, 0, 0, 0, 0, 0, 2147483648⟩ .live 1) = false ∧
    Instr.wellFormed (.testInject 0 0 ⟨0, 0, 0, 0, 0, 0, 0, 0⟩ .live 65536) = false := by decide +kernel

def mark : BitSample := ⟨true, true, true⟩
def space : BitSample := ⟨false, false, false⟩

/-- A character of a byte with a marker bit, even parity and no error. -/
def character (b : Byte) (marker : Bool) : LaneCharacter :=
  let bits : Vector Bool 8 := Vector.ofFn fun k => b.toNat.testBit k.val
  let odd := bits.toList.foldl xor marker
  { start := space, data := bits.map fun x => if x then mark else space, marker := if marker then mark else space,
    parity := if odd then mark else space, stop := mark }

theorem test_illformed_character :
    Instr.wellFormed (.laneCharacter 0 { character 0 true with start := mark }) = false ∧
    Instr.wellFormed (.laneCharacter 0 { character 0 true with start := ⟨true, false, true⟩ }) = false ∧
    Instr.wellFormed (.laneCharacter 0 { character 0 true with start := ⟨false, true, false⟩ }) = true := by
  decide +kernel

/-! ## The conditions of the statements are met: the queue, reset and the inputs -/

def base : State := partOf inService

theorem test_met_StepOnAnEmptyQueue :
    base.pending = [] ∧ base.inReset = false ∧ base.port.request = none ∧
    ({ base with inReset := true }).inReset = true ∧
    ({ base with port.request := some [0x04, 1, 0, 0, 0x12, 0x34] }).port.request = some [0x04, 1, 0, 0, 0x12, 0x34] :=
  ⟨rfl, rfl, rfl, rfl, rfl⟩

/-- The state a step answers. -/
def stepped (s : State) : State :=
  match step s with
  | .next t => t
  | _ => s

/-- Timers of each form before one ms and after it: RUNNING, at 0, EXPIRED, FROZEN, and overlap timers below their maximum
and at it. -/
theorem test_met_StepOnAnEmptyQueue_ms :
    let s := partOf fun p => { inService p with
      store.scrubTimer := .running 500
      switching.devices := p.switching.devices.set 47 { deviceAt .closed contactsTravel with persistence := .running 1 }
      protection.elements := p.protection.elements.set 63 { ElementLive.initial with zone := .running 0, blind := .ended }
      changeover.utilities := #v[{ UtilityLive.initial with timer := .loss true 5 },
        { UtilityLive.initial with timer := .back false 5 }]
      changeover.overlaps := [⟨0, 4⟩, ⟨7, Config.defaultMaximumOverlap⟩]
      paralleling.generators := p.paralleling.generators.set 11
        { GeneratorLive.initial with startTimer := .running 30000, syncTimer := .ended } }
    let t := (stepped s).parts
    s.pending = [] ∧ s.inReset = false ∧ s.port.request = none ∧ t.store.scrubTimer = .running 468 ∧
    t.switching.devices[(47 : DeviceId)].persistence = .running 0 ∧
    t.switching.devices[(47 : DeviceId)].operateTimer = .stopped ∧
    (t.protection.elements[(63 : ElementId)].zone, t.protection.elements[(63 : ElementId)].blind) = (.running 0, .ended) ∧
    t.changeover.utilities.toList.map UtilityLive.timer = [.loss true 5, .back false 4] ∧
    t.changeover.overlaps = [⟨0, 5⟩, ⟨7, Config.defaultMaximumOverlap⟩] ∧
    (t.paralleling.generators[(11 : GeneratorId)].startTimer, t.paralleling.generators[(11 : GeneratorId)].syncTimer) =
      (.running 29999, .ended) := by decide +kernel

theorem test_met_ResetReleasesTheLinesAndTakesNothing :
    (after .resetAssert base).inReset = true ∧ after (.readIslands 0) (after .resetAssert base) = after .resetAssert base ∧
    (∀ lv, Instr.readIslands 0 ≠ .powerOn lv) ∧ (∀ lv, Instr.readIslands 0 ≠ .resetRelease lv) :=
  ⟨rfl, rfl, by simp, by simp⟩

theorem test_met_PowerOnAndResetReleaseStartAfresh :
    (after .resetAssert base).inReset = true ∧
    (after (.resetRelease InputLevels.low) (after .resetAssert base)).parts.service.station = some station := by
  decide +kernel

theorem test_met_InputsMoveThePatternAndTheAuthority :
    State.reset.live ∧ State.reset.parts.switching.devices[(47 : DeviceId)].state = .unset ∧
    (partOf (withDevice 0 0 (.bus 7) (deviceAt .retired contactsOpen))).live ∧
    (partOf (withDevice 0 0 (.bus 7) (deviceAt .retired contactsOpen))).parts.switching.devices[(0 : DeviceId)].state =
      .retired := by
  simp only [State.live, Parts.calm]; decide +kernel

/-! ## The port -/

def selected : State := after .sselAssertion State.reset
def busy : State := { base with port := { PortBuffers.initial with response := none, request := some [4, 1, 0, 0, 0, 0],
                                                                   transaction := some .busy } }

theorem test_met_TransactionsRunFromSelectToRelease :
    State.reset.inReset = false ∧ State.reset.port.transaction = none ∧ State.reset.port.response.isSome = true ∧
    ({ busy with port.transaction := none }).port.response = none ∧ selected.port.transaction.isSome = true := by
  decide +kernel

theorem test_met_TransactionsRunFromSelectToRelease_lengths :
    selected.port.transaction = some (.response false false false) ∧ declaredLength [4, 1, 0, 0, 0, 0] = some 6 ∧
    declaredLength [4, 1, 3, 0xFC] = some 1026 ∧ declaredLength [4, 1, 3, 0xFD] = some 4 ∧
    declaredLength [4, 1, 0] = none ∧ busy.port.transaction = some .busy := by decide +kernel

/-- A request whose body is longer than 1020 bytes ends after byte 3, and one of 1020 bytes needs 1026. -/
theorem test_transactionLengths :
    (after (.spiTransaction [4, 1, 3, 0xFD]) selected).port.request = some [4, 1, 3, 0xFD] ∧
    (after (.spiTransaction [4, 1, 3, 0xFC]) selected).port.incomplete = true ∧
    (after (.spiTransaction [4, 1, 0, 0, 7, 8, 9]) selected).port.request = some [4, 1, 0, 0, 7, 8] ∧
    (after (.spiTransaction [4, 1, 3, 0xFD]) busy).port.collision = true := by decide +kernel

theorem test_met_HostRequestFramesRoundTrip :
    let i : Instr := .amend 7 4 47 [⟨4, 255⟩, ⟨6, -1⟩, ⟨12, -2147483648⟩, ⟨255, 2147483647⟩]
    i.wellFormed = true ∧ (frameOf i).isSome = true ∧ requestOf ((frameOf i).getD []) = i ∧
    ((frameOf i).getD []).length = 28 := by decide +kernel

theorem test_frameRoundTripOfTestInject :
    let i : Instr := .testInject 255 63 ⟨65535, 1, 256, 0, 12000, -1, -32768, -1048576⟩ .live 65535
    requestOf ((frameOf i).getD []) = i := by decide +kernel

theorem test_met_InquiriesAndAcknowledge_unknown :
    base.inReset = false ∧
    answerOf (after (.unknownRequest [0x06, 1, 0, 0, 0, 0]) base) = some (.badCheck, []) ∧
    answerOf (after (.unknownRequest ([0x06, 1, 0, 0] ++ crcBytes [0x06, 1, 0, 0])) base) = some (.badRequest, []) := by
  decide +kernel

theorem test_met_ReadReturnsTheRecord :
    base.inReset = false ∧ RecordKind.all[9]? = some .point ∧ RecordKind.all[0]? = some .station ∧
    recordNamed .point 64 = none ∧ recordNamed .station 1 = none ∧ recordNamed .point 63 = some (.point 63) ∧
    recordNamed .station 0 = some .station ∧ recordNamed .scheme 0 = some .scheme := by decide +kernel

/-- A READ of a CORRECTED record makes it SOUND and answers with what it found. -/
theorem test_readOfACorrectedRecord :
    let held : Held PointSettings := { Held.fresh ⟨.bus⟩ with integrity := .corrected }
    let s := partOf fun p => (p.putPoint 63 (some held)).mark (pointIndex 63)
    ((after (.read 5 9 63) s).parts.store.points[(63 : PointId)].map Held.integrity) = some .sound ∧
    (after (.read 5 9 63) s).parts.attention.changed[(255 : StoreIndex)] = false ∧
    (answerOf (after (.read 5 9 63) s)).map (fun x => (x.1, x.2.take 4)) = some (.ok, [9, 63, 1, 1]) := by decide +kernel

theorem test_met_InquiriesAndAcknowledge :
    base.inReset = false ∧ RecordKind.all[6]? = some .element ∧
    answerOf (after (.readChanged 0 7) (partOf fun p => (p.mark (lockoutIndex 31)).mark (lockoutIndex 0))) =
      some (.ok, [7, 0, 31]) ∧
    answerOf (after (.readIslands 0) base) = some (.ok, [0, 0]) := by decide +kernel

theorem test_met_InquiriesAndAcknowledge_flags :
    State.reset.inReset = false ∧ answerOf (after (.acknowledge 1 0) State.reset) = some (.badRequest, []) ∧
    answerOf (after (.acknowledge 1 512) State.reset) = some (.badRequest, []) ∧
    (after (.acknowledge 1 256) (partOf fun p => (p.raise .hold).raise .device)).parts.attention.flags.mask = 1 := by
  decide +kernel

/-! ## The Record Store -/

def held : Held PointSettings := Held.fresh ⟨.bus⟩
/-- A stored record whose settings have become other ones. -/
def upsetPoint (r : Bool) : State :=
  partOf fun p => (inService p).putPoint 0 (some { held with settings := ⟨.feeder⟩, code := ⟨⟨.bus⟩, r⟩ })

theorem test_met_CheckOutcomes :
    let of (s : State) := s.parts.record (.point 0)
    of (partOf fun p => p.putPoint 0 (some held)) = some (held.map .point) ∧ held.integrity ≠ .damaged ∧
    held.settings = held.code.covers ∧
    (of (upsetPoint true)).map (fun h => (h.integrity, decide (h.settings = h.code.covers), h.code.restores)) =
      some (.sound, false, true) ∧
    (of (upsetPoint false)).map (fun h => (h.integrity, decide (h.settings = h.code.covers), h.code.restores)) =
      some (.sound, false, false) := by decide +kernel

def scrubbing (i : StoreIndex) (s : State) : State :=
  { s with parts.store.scrubPosition := i, parts.store.scrubTimer := .running 0 }

theorem test_met_ScrubStepChecksOneRecord :
    let s := scrubbing 192 (upsetPoint true)
    let t := scrubbing 192 (upsetPoint false)
    let v := scrubbing 255 base
    s.live ∧ s.parts.service.inService = true ∧ s.parts.service.station = some station ∧
    s.parts.store.scrubTimer.isRunning = true ∧ recordAt s.parts.store.scrubPosition = .point 0 ∧
    t.live ∧ t.parts.store.scrubTimer.isRunning = true ∧ recordAt t.parts.store.scrubPosition = .point 0 ∧
    v.live ∧ v.parts.record (recordAt v.parts.store.scrubPosition) = none ∧
    (after (.scrubStep []) v).parts.store.scrubPosition = 0 := by
  simp only [State.live, Parts.calm]; decide +kernel

/-- A state whose scrub step finds a record with other settings than were written. -/
def spoiled (n : RecordName) (x : AnySettings) (s : State) : State :=
  scrubbing n.position { s with parts := applyUpset { s.parts with service.station := some station } ⟨n.position, x, false⟩ }

/-- The fallbacks of the owners of records found INVALID. -/
theorem test_met_ScrubStepChecksOneRecord_fallbacks :
    let scrubbed (s : State) : Parts := (after (.scrubStep []) s).parts
    let bus := spoiled (.bus 7) (.bus ⟨none⟩)
      (partOf fun p => withBuses [7] .high (inService (p.putBus 7 (some (Held.fresh ⟨some 63⟩)))))
    let source := spoiled (.utility 1) (.utility (utility 5)) (partOf fun p => { inService p with
      store.utilities := p.store.utilities.set 1 (some (Held.fresh (utility 33)))
      changeover.utilities := p.changeover.utilities.set 1 { UtilityLive.initial with
        qualification := .qualified, underlying := some .qualified, settings := some (utility 33), measured := true } })
    let gen (x : GeneratorLive) (v : DeviceLive) := spoiled (.generator 11) (.generator { generator with rating := 5 })
      (generating x v)
    let blk (x : BlockLive) := spoiled (.block 23) (.block { block with priority := 9 }) (loaded x openGen)
    let elem := spoiled (.element 63) (.element { element with pickup := 7 }) (guarded id (elementAt .tripped 1048576))
    let lock := spoiled (.lockout 31) (.lockout (tag [5])) (partOf fun p => withTag 31 [3, 47] (inService p))
    let sch := spoiled .scheme (.scheme islanded) (schemed .auto scheme incomersClosed)
    (∀ s ∈ [bus, source, gen (genAt .ready) openGen, gen (genAt .failed) openGen, gen (genAt .online) closedGen,
        gen (genAt .disconnecting) closedGen, gen (genAt .deadClosing) (inFlight .closing contactsOpen .paralleling),
        blk (shedAt 1), blk (blockAt .held), elem, lock, sch],
      s.live ∧ s.parts.service.inService = true ∧ s.parts.service.station = some station ∧
      s.parts.store.scrubTimer.isRunning = true ∧
      ((s.parts.record (recordAt s.parts.store.scrubPosition)).map fun h =>
        (h.integrity, decide (h.settings = h.code.covers), h.code.restores, h.retired)) = some (.sound, false, false, false)) ∧
    bus.parts.topology.inUse[(7 : BusId)] = true ∧ (scrubbed bus).service.hold.busDamaged = true ∧
    (scrubbed source).changeover.utilities[(1 : UtilityId)].qualification = .unknown ∧
    [gen (genAt .ready) openGen, gen (genAt .failed) openGen, gen (genAt .online) closedGen,
      gen (genAt .disconnecting) closedGen, gen (genAt .deadClosing) (inFlight .closing contactsOpen .paralleling)].map
        (fun s => (scrubbed s).paralleling.generators[(11 : GeneratorId)].state) =
      [.failed, .failed, .unloading, .disconnecting, .disconnecting] ∧
    (scrubbed (blk (shedAt 1))).load.blocks[(23 : BlockId)].state = .held ∧
    (scrubbed elem).protection.elements[(63 : ElementId)].state = .damaged ∧
    (scrubbed elem).protection.unprotected[(4 : DeviceId)] = true ∧
    (writtenSet (Held.fresh (tag [3, 47]))).Nodup ∧ (scrubbed lock).lockouts.cover[(47 : DeviceId)] = 0 ∧
    (scrubbed lock).service.hold.lockoutDamaged = true ∧ (scrubbed sch).changeover.mode = .manual := by
  simp only [State.live, Parts.calm]; decide +kernel

theorem test_scrubRestoresAndDamages :
    ((after (.scrubStep []) (scrubbing 192 (upsetPoint true))).parts.store.points[(0 : PointId)]) =
      some { held with integrity := .corrected } ∧
    (((after (.scrubStep []) (scrubbing 192 (upsetPoint false))).parts.store.points[(0 : PointId)]).map Held.integrity) =
      some .damaged := by decide +kernel

/-- The pairs of settings, in field order. -/
def pairsOf (x : AnySettings) : List FieldPair := settingsPairs x

theorem test_met_LoadAndAmendWriteARecordInConfiguring :
    State.reset.live ∧ State.reset.parts.service.inService = false ∧
    [AnySettings.station station, .utility (utility 0), .generator generator, .block block, .scheme scheme,
      .bus ⟨none⟩, .point ⟨.bus⟩].all (fun x =>
        RecordKind.all[codeIn RecordKind.all (kindOf x)]? == some (kindOf x) && (recordNamed (kindOf x) 0).isSome &&
        fieldsFit (kindOf x) (pairsOf x) && fieldsComplete (kindOf x) (pairsOf x) &&
        readSettings (kindOf x) (pairsOf x) == some x) = true := by
  simp only [State.live, Parts.calm]; decide +kernel

theorem test_met_LoadRebuildsIndicesAndRecountsLockouts :
    let s := State.reset
    let d := deviceOf 0 (.bus 7)
    s.live ∧ s.parts.service.inService = false ∧ (∀ e : DeviceId, s.parts.store.devices[e] = none) ∧
    (∀ e : ElementId, s.parts.store.elements[e] = none) ∧ (∀ b : BusId, s.parts.topology.inUse[b] = false) ∧
    s.parts.topology.islands = [] ∧ fieldsFit .device (pairsOf (.device d)) = true ∧
    fieldsComplete .device (pairsOf (.device d)) = true ∧ readDevice (pairsOf (.device d)) = some d ∧
    fieldsFit .element (pairsOf (.element element)) = true ∧
    fieldsComplete .element (pairsOf (.element element)) = true ∧
    readElement (pairsOf (.element element)) = some element ∧
    closesCycle (.element 0) (.element element) s.parts = false := by
  simp only [State.live, Parts.calm]; decide +kernel

theorem test_loadsFillTheIndices :
    (after (.load 1 4 47 (pairsOf (.device (deviceOf 0 (.bus 7))))) State.reset).parts.topology.index[(47 : DeviceId)] =
      some ⟨0, .bus 7⟩ ∧
    (after (.load 1 6 63 (pairsOf (.element element))) State.reset).parts.protection.guards[(63 : ElementId)] = some 4 := by
  decide +kernel

theorem test_met_LoadRebuildsIndicesAndRecountsLockouts_lockout :
    let s := partOf (withTag 31 [3, 47])
    let x := tag [0, 47]
    s.live ∧ s.parts.service.inService = false ∧ s.parts.service.hold.lockoutDamaged = false ∧
    (∀ d : DeviceId, s.parts.switching.devices[d].state ≠ .closing) ∧
    s.parts.store.lockouts[(31 : SlotId)] = some (Held.fresh (tag [3, 47])) ∧ (Held.fresh (tag [3, 47])).valid ∧
    (writtenSet { Held.fresh (tag [3, 47]) with integrity := .damaged }).Nodup ∧ fieldsFit .lockout (pairsOf (.lockout x)) = true ∧
    fieldsComplete .lockout (pairsOf (.lockout x)) = true ∧ readLockout (pairsOf (.lockout x)) = some x := by
  simp only [State.live, Parts.calm, Held.valid]; decide +kernel

theorem test_loadOfALockout :
    let s := after (.load 1 7 31 (pairsOf (.lockout (tag [0, 47])))) (partOf (withTag 31 [3, 47]))
    (s.parts.lockouts.cover[(0 : DeviceId)], s.parts.lockouts.cover[(3 : DeviceId)],
      s.parts.lockouts.cover[(47 : DeviceId)]) = (1, 0, 1) := by decide +kernel

/-- A LOAD of a DAMAGED lockout record takes none of its former devices out of the counts. -/
theorem test_loadOfADamagedLockout :
    let lost : Held LockoutSettings := { Held.fresh (tag [3, 47]) with integrity := .damaged }
    let s := partOf fun p => { p with store.lockouts := p.store.lockouts.set 31 (some lost), lockouts.cover := p.lockouts.cover.set 3 1 }
    let t := after (.load 1 7 31 (pairsOf (.lockout (tag [0, 47])))) s
    s.live ∧ s.parts.store.lockouts[(31 : SlotId)] = some lost ∧
    (t.parts.lockouts.cover[(0 : DeviceId)], t.parts.lockouts.cover[(3 : DeviceId)],
      t.parts.lockouts.cover[(47 : DeviceId)]) = (1, 1, 1) := by
  simp only [State.live, Parts.calm]; decide +kernel

theorem test_met_RecordRequestsAreRefusedInOrder :
    State.reset.live ∧ recordNamed .point 64 = none ∧ fieldsFit .point [⟨2, 0⟩] = false ∧
    fieldsFit .point [⟨1, 4⟩] = true ∧ fieldsComplete .point [⟨1, 4⟩] = true ∧ readSettings .point [⟨1, 4⟩] = none ∧
    readSettings .point [⟨1, 3⟩] = some (.point ⟨.generator⟩) ∧
    closesCycle (.point 63) (.point ⟨.generator⟩) base.parts = false ∧ base.parts.service.inService = true ∧
    closesCycle (.element 5) (.element { element with upstream := some 5 }) State.reset.parts = true ∧ base.live := by
  simp only [State.live, Parts.calm]; decide +kernel

theorem test_loadRefusals :
    answerOf (after (.load 1 10 64 []) base) = some (.badKind, []) ∧
    answerOf (after (.load 1 9 64 []) base) = some (.badIndex, []) ∧
    answerOf (after (.load 1 9 63 []) base) = some (.badRequest, []) ∧
    answerOf (after (.load 1 9 63 [⟨1, 4⟩]) base) = some (.range, []) ∧
    answerOf (after (.load 1 9 63 [⟨1, 3⟩]) base) = some (.state, []) ∧
    answerOf (after (.load 1 6 5 (pairsOf (.element { element with upstream := some 5 }))) State.reset) =
      some (.range, []) := by decide +kernel

/-- LOAD, AMEND and RETIRE in service, by the state of what the record describes. -/
theorem test_met_RecordRequestsAreRefusedInOrder_inService :
    let closed := partOf fun p => feeder (deviceAt .closed contactsClosed) (inService p)
    let element (x : ElementLive) := guarded id x
    let statuses (is : List Instr) (s : State) := is.map fun i => (answerOf (after i s)).map (·.1)
    let loads (k n : Nat) (x : AnySettings) : Instr := .load 1 k n (pairsOf x)
    closed.live ∧ closed.parts.service.inService = true ∧ isActive closed.parts.store.devices[(4 : DeviceId)] = true ∧
    statuses [loads 4 4 (.device (deviceOf 0 (.block 0))), loads 1 7 (.bus ⟨none⟩), loads 7 0 (.lockout (tag [4])),
        .amend 1 4 4 [⟨4, 20⟩], .amend 1 4 4 [⟨8, 0⟩], .amend 1 4 4 [], .amend 1 4 47 [⟨4, 20⟩], .amend 1 7 0 [⟨4, 0⟩],
        .amend 1 10 0 [], .amend 1 4 48 [], .retire 1 4 4, .retire 1 4 47, .retire 1 4 48, .retire 1 10 0] closed =
      [some .state, some .state, some .state, some .state, some .state, some .badRequest, some .state, some .badKind,
       some .badKind, some .badIndex, some .state, some .state, some .badIndex, some .badKind] ∧
    (statuses [loads 6 63 (.element Tests.element), .amend 1 6 63 [⟨4, 4⟩], .amend 1 6 63 [⟨9, 0⟩], .retire 1 6 63]
      (element (elementAt .tripped 1048576))) = [some .state, some .range, some .state, some .state] ∧
    statuses [loads 3 11 (.generator generator)] runningGen = [some .state] ∧
    statuses [loads 5 23 (.block block)] (loaded (blockAt .restoring) openGen) = [some .state] ∧
    statuses [loads 8 0 (.scheme scheme)] (schemed .auto scheme openAll) = [some .state] := by
  simp only [State.live, Parts.calm]; decide +kernel

theorem test_met_LoadAndAmendWriteARecordInConfiguring_amend :
    let s := partOf fun p => p.putDevice 47 (some (Held.fresh (deviceOf 0 (.bus 7))))
    s.live ∧ s.parts.service.inService = false ∧ RecordKind.all[4]? = some .device ∧
    recordNamed .device 47 = some (.device 47) ∧
    (∀ u : UtilityId, s.parts.changeover.utilities[u].settings = none) ∧
    s.parts.record (.device 47) = some ((Held.fresh (deviceOf 0 (.bus 7))).map .device) ∧
    fieldsFit .device [⟨4, 20⟩] = true ∧
    readSettings .device (amendedPairs (settingsPairs (.device (deviceOf 0 (.bus 7)))) [⟨4, 20⟩]) =
      some (.device { deviceOf 0 (.bus 7) with closingTime := 20 }) ∧
    answerOf (after (.amend 1 4 47 [⟨4, 20⟩]) s) = some (.ok, []) := by
  simp only [State.live, Parts.calm]; decide +kernel

theorem test_met_RetireWithdrawsARecord :
    let s := partOf fun p => ((withDevice 47 0 (.bus 7) (deviceAt .unset contactsOpen) p).putElement 63
      (some (Held.fresh element))).putPoint 0 (some { held with retired := true })
    s.live ∧ s.parts.service.inService = false ∧
    answerOf (after (.retire 1 7 0) s) = some (.badKind, []) ∧ answerOf (after (.retire 1 9 1) s) = some (.state, []) ∧
    answerOf (after (.retire 1 9 0) s) = some (.already, []) ∧
    (∀ d : DeviceId, d ≠ 47 → s.parts.store.devices[d] = none) ∧ (∀ e : ElementId, e ≠ 63 → s.parts.store.elements[e] = none) ∧
    (∀ b : BusId, s.parts.topology.inUse[b] = false) ∧ s.parts.topology.islands = [] ∧
    s.parts.store.devices[(47 : DeviceId)] = some (Held.fresh (deviceOf 0 (.bus 7))) ∧
    s.parts.store.elements[(63 : ElementId)] = some (Held.fresh element) ∧
    (after (.retire 1 4 47) s).parts.topology.index[(47 : DeviceId)] = none ∧
    answerOf (after (.retire 1 6 63) s) = some (.ok, []) := by
  simp only [State.live, Parts.calm]; decide +kernel

/-! ## Switching devices -/

/-- In service under REMOTE, with buses B0 and B7 in use, HIGH and LOW, and a tie D47 between them. -/
def tied (x : DeviceLive) : State :=
  partOf fun p => withBuses [7] .low (withBuses [0] .high (withDevice 47 0 (.bus 7) x (remote (inService p))))

def openTie : State := tied (deviceAt .open contactsOpen)
def closedTie : State := tied (deviceAt .closed contactsClosed)
def storedTie : Held DeviceSettings := Held.fresh (deviceOf 0 (.bus 7))

theorem test_met_OperateIsRefusedAtTheFirstFailedCheck :
    openTie.live ∧ State.reset.live ∧ State.reset.parts.service.inService = false ∧
    (tied (deviceAt .retired contactsOpen)).live ∧
    (tied (deviceAt .retired contactsOpen)).parts.service.inService = true ∧
    (tied (deviceAt .retired contactsOpen)).parts.switching.devices[(47 : DeviceId)].state = .retired ∧
    answerOf (after (.operate 1 48 .close) openTie) = some (.badIndex, []) := by
  simp only [State.live, Parts.calm]; decide +kernel

/-- The reason a close of D47 is refused with. -/
def refusalOf (s : State) : Option Refused := (after (.operate 1 47 .close) s).parts.switching.devices[(47 : DeviceId)].lastRefusal

/-- The open tie with its blocks put through a change. -/
def tieWith (f : Parts → Parts) : State := { openTie with parts := f openTie.parts }

theorem test_met_OperateIsRefusedAtTheFirstFailedCheck_close :
    openTie.live ∧ openTie.parts.service.inService = true ∧
    openTie.parts.switching.devices[(47 : DeviceId)].state = .open ∧
    openTie.parts.store.devices[(47 : DeviceId)] = some storedTie ∧ storedTie.valid ∧
    { storedTie with integrity := .damaged }.integrity = .damaged := by
  simp only [State.live, Parts.calm, Held.valid]; decide +kernel

/-- An AMEND of a DAMAGED record and of one it finds INVALID is DAMAGED, and a RETIRE of a RETIRED device ALREADY. -/
theorem test_met_RecordRequestsAreRefusedInOrder_records :
    let lost := guarded id (elementAt .idle 0)
    let held63 (h : Held ElementSettings) : State :=
      { lost with parts.store.elements := lost.parts.store.elements.set 63 (some h) }
    let damaged := held63 { Held.fresh element with integrity := .damaged }
    let upset := held63 { Held.fresh element with code := ⟨{ element with pickup := 5 }, false⟩ }
    let out := tieWith fun p => p.putDevice 47 (some { storedTie with retired := true })
    damaged.live ∧ upset.live ∧ out.live ∧ out.parts.position 47 = .open ∧
    ([damaged, upset].map fun s => let t := after (.amend 1 6 63 [⟨4, 10⟩]) s
      ((answerOf t).map (·.1), (t.parts.store.elements[(63 : ElementId)]).map Held.integrity, t.parts.attention.flags.record,
        t.parts.protection.elements[(63 : ElementId)].state)) =
      [(some .damaged, some .damaged, false, .idle), (some .damaged, some .damaged, true, .damaged)] ∧
    answerOf (after (.retire 1 4 47) out) = some (.already, []) := by
  simp only [State.live, Parts.calm]; decide +kernel

theorem test_refusalsOfTheTie :
    [tieWith fun p => p.putDevice 47 (some { storedTie with integrity := .damaged }),
      tieWith fun p => { p with service.hold.supervisor := true },
      tied (deviceAt .failed contactsOpen), tied (deviceAt .uncertain contactsTravel), tied (deviceAt .open contactsTravel),
      tied (inFlight .closing contactsOpen .supervisor), tied (inFlight .opening contactsClosed .supervisor)].map refusalOf =
    [some ⟨.damaged, none⟩, some ⟨.hold, none⟩, some ⟨.failed, none⟩, some ⟨.uncertain, none⟩, some ⟨.uncertain, none⟩,
      some ⟨.busy, none⟩, some ⟨.busy, none⟩] := by decide +kernel

theorem test_laterRefusalsOfTheTie :
    [tieWith (withTag 0 [47]), tieWith fun p => { p with switching.authority := .localControl },
      tieWith fun p => { p with protection.unprotected := p.protection.unprotected.set 47 true },
      tied (deviceAt .open ⟨true, false, true, false⟩), tieWith (withBuses [7] .middle), tieWith (withBuses [7] .high)].map
        refusalOf =
    [some ⟨.locked, none⟩, some ⟨.authority, none⟩, some ⟨.unprotected, none⟩, some ⟨.notReady, none⟩,
      some ⟨.topology, some .residual⟩, some ⟨.topology, some .liveLive⟩] := by decide +kernel

theorem test_met_CloseThatPassesIsAccepted :
    openTie.parts.inHold = false ∧ openTie.parts.position 47 = .open ∧
    openTie.parts.lockouts.cover[(47 : DeviceId)] = 0 ∧ openTie.parts.isPending 47 = false ∧
    openTie.parts.switching.authority = .remoteControl ∧ openTie.parts.protection.unprotected[(47 : DeviceId)] = false ∧
    notReady storedTie.settings.mask contactsOpen = false ∧ openTie.parts.switching.devices[(47 : DeviceId)].pattern = contactsOpen ∧
    topologyCheck openTie.parts 0 (.bus 7) ⟨false, false⟩ = none ∧
    fitsHeadroom openTie.parts storedTie.settings = true ∧
    closedTie.live ∧ closedTie.parts.inHold = false ∧ closedTie.parts.switching.devices[(47 : DeviceId)].state = .closed := by
  simp only [State.live, Parts.calm]; decide +kernel

theorem test_closeOfTheTie :
    answerOf (after (.operate 1 47 .close) openTie) = some (.accepted, []) ∧
    (after (.operate 1 47 .close) openTie).closeLine 47 = true ∧
    ((after (.operate 1 47 .close) openTie).parts.topology.islands.map Island.members) = [[0, 7]] ∧
    answerOf (after (.operate 1 47 .close) closedTie) = some (.already, []) := by decide +kernel

theorem test_met_OpenIsAcceptedInEveryOtherState :
    let closing := tied (inFlight .closing contactsOpen .changeover)
    let opening := tied (inFlight .opening contactsClosed .supervisor)
    openTie.live ∧ openTie.parts.position 47 = .open ∧ opening.live ∧
    opening.parts.switching.devices[(47 : DeviceId)].state = .opening ∧
    closing.live ∧ closing.parts.switching.devices[(47 : DeviceId)].state = .closing ∧
    closing.parts.switching.devices[(47 : DeviceId)].owner = some .changeover ∧
    closing.parts.switching.authority = .remoteControl ∧ closedTie.live ∧
    closing.parts.store.devices[(47 : DeviceId)] = some storedTie ∧
    (after (.operate 1 47 .open) closedTie).tripLine 47 = true ∧
    (after (.operate 1 47 .open) closing).parts.switching.devices[(47 : DeviceId)].abortedClose = true ∧
    answerOf (after (.operate 1 47 .open) { closedTie with parts.switching.authority := .localControl }) =
      some (.refused, [14, 0]) := by
  simp only [State.live, Parts.calm]; decide +kernel

/-- An open tie whose open contact has gone low, and a closed one whose closed contact has. -/
def nearlyClosed : State := tied (deviceAt .open contactsTravel)
def nearlyOpen : State := tied (deviceAt .closed contactsTravel)

theorem test_met_UncommandedChangesAreTaken :
    nearlyClosed.live ∧ nearlyOpen.live ∧
    positionOf (putInput contactsTravel .closedContact true) = .closed ∧
    positionOf (putInput contactsTravel .openContact true) = .open ∧ positionOf contactsTravel = .travel ∧
    (after (.deviceInputChange 47 .closedContact true) nearlyClosed).parts.switching.devices[(47 : DeviceId)].discrepancy =
      true ∧
    (after (.deviceInputChange 47 .openContact true) nearlyOpen).parts.switching.devices[(47 : DeviceId)].state = .open := by
  simp only [State.live, Parts.calm]; decide +kernel

theorem test_met_ObservationsEndOperationsAndMoveTimers :
    let late (p : Pattern) := tied { deviceAt .failed p with failure := some .failedOpen }
    let states : List State := [tied (inFlight .closing contactsTravel .changeover),
      tied (inFlight .opening contactsTravel .supervisor), tied (deviceAt .open contactsOpen),
      tied { deviceAt .open contactsTravel with persistence := .running 1 }, tied (deviceAt .uncertain contactsTravel),
      late contactsTravel, late contactsClosed, openTie]
    let inputs : List Instr := [.deviceInputChange 47 .closedContact true, .deviceInputChange 47 .openContact true,
      .deviceInputChange 47 .openContact false, .deviceInputChange 47 .openContact true,
      .deviceInputChange 47 .closedContact true, .deviceInputChange 47 .openContact true,
      .deviceInputChange 47 .openContact true, .deviceInputChange 47 .ready false]
    (∀ s ∈ states, s.live) ∧
    (List.zipWith after inputs states).map (fun s => let x := s.parts.switching.devices[(47 : DeviceId)]
      (x.state, x.owner, x.persistence, s.parts.attention.flags.device)) =
      [(.closed, none, .stopped, false), (.open, none, .stopped, false), (.open, none, .running 400, false),
       (.open, none, .stopped, false), (.closed, none, .stopped, false), (.failed, none, .stopped, false),
       (.failed, none, .stopped, false), (.open, none, .stopped, true)] := by
  simp only [State.live, Parts.calm]; decide +kernel

/-- A FAILED device tells the units LATE of a change to OPEN, and of none between CLOSED and DISAGREE. -/
theorem test_lateNotices :
    let shows (p q : Pattern) : List Notice :=
      let was := (tied { deviceAt .failed p with failure := some .failedOpen }).parts
      (takePosition was 47 (was.setDevice 47 { was.switching.devices[(47 : DeviceId)] with pattern := q })).notices
    shows contactsTravel contactsOpen = tellsPosition 47 .open .late ++ [.conducting 47] ∧
    shows contactsClosed ⟨true, true, true, true⟩ = [] := by decide +kernel

theorem test_met_AcknowledgeFailureFollowsTheDeviceState :
    let failed (p : Pattern) := tied { deviceAt .failed p with failure := some .failedClose }
    let marked := tied { deviceAt .closed contactsClosed with discrepancy := true }
    (failed contactsOpen).live ∧ (failed contactsClosed).live ∧ (failed contactsTravel).live ∧ marked.live ∧
    [failed contactsOpen, failed contactsClosed, failed contactsTravel, marked].map (fun s =>
      (s.parts.position 47, (after (.acknowledgeFailure 1 47) s).parts.switching.devices[(47 : DeviceId)].state)) =
      [(.open, .open), (.closed, .closed), (.travel, .uncertain), (.closed, .closed)] ∧
    answerOf (after (.acknowledgeFailure 1 47) closedTie) = some (.state, []) ∧
    answerOf (after (.acknowledgeFailure 1 0) closedTie) = some (.state, []) ∧
    answerOf (after (.acknowledgeFailure 1 48) closedTie) = some (.badIndex, []) := by
  simp only [State.live, Parts.calm]; decide +kernel

theorem test_met_ReleaseIntertripIsJudgedByTheLine :
    let asserted (s : State) : State := { s with parts.switching.intertrips := #v[none, some 47] }
    (asserted openTie).live ∧ (asserted closedTie).live ∧ openTie.parts.switching.intertrips[(1 : SideId)] = none ∧
    (asserted openTie).parts.position 47 = .open ∧ (asserted closedTie).parts.position 47 ≠ .open ∧
    (asserted openTie).intertripLine 1 = true ∧
    answerOf (after (.releaseIntertrip 1 1) (asserted openTie)) = some (.ok, []) ∧
    answerOf (after (.releaseIntertrip 1 1) (asserted closedTie)) = some (.state, []) ∧
    answerOf (after (.releaseIntertrip 1 0) (asserted closedTie)) = some (.already, []) := by
  simp only [State.live, Parts.calm]; decide +kernel

theorem test_met_DeviceTimersExpire :
    let closing := tied (inFlight .closing contactsOpen .changeover)
    let failing := tied (inFlight .opening contactsClosed .protection)
    let ending := tied (inFlight .opening contactsOpen .supervisor)
    let doubtful := tied { deviceAt .closed contactsTravel with persistence := .running 0 }
    closing.live ∧ failing.live ∧ ending.live ∧ doubtful.live ∧
    [closing, failing, ending].map (fun s => let x := s.parts.switching.devices[(47 : DeviceId)]
      (x.state, x.operateTimer.isRunning, s.parts.position 47, x.origin)) =
      [(.closing, true, .open, some .changeover), (.opening, true, .closed, some .protection),
       (.opening, true, .open, some .supervisor)] ∧
    doubtful.parts.switching.devices[(47 : DeviceId)].persistence.isRunning = true ∧
    [after (.closeLimitExpiry 47) closing, after (.openTimerExpiry 47) failing, after (.openTimerExpiry 47) ending,
      after (.persistenceTimerExpiry 47) doubtful].map (fun s => s.parts.switching.devices[(47 : DeviceId)].state) =
      [.failed, .failed, .open, .uncertain] := by
  simp only [State.live, Parts.calm]; decide +kernel

/-- A failed open under PROTECTION trips the devices that could feed the failed one, and keeps the record of it (R106). -/
theorem test_breakerFailureIsRecorded :
    (after (.openTimerExpiry 47) (tied (inFlight .opening contactsClosed .protection))).parts.protection.lastFailure.map
      BreakerFailureRecord.device = some 47 := by decide +kernel

/-- The tie of a state with a close of the Changeover Unit in flight. -/
def closingTie (s : State) : State :=
  { s with
    parts.switching.devices := s.parts.switching.devices.set 47 (inFlight .closing contactsOpen .changeover) }

/-- Records counted as R64 says give the premise on the cover counts. -/
theorem coversCounted_of {s : Parts}
    (sound : ∀ k : SlotId, (s.store.lockouts[k].all fun h => !h.retired && decide (writtenSet h).Nodup) = true)
    (counted : ∀ d : DeviceId, s.lockouts.cover[d] = allSlots.countP (s.slotCovers d)) : s.coversCounted :=
  ⟨fun k h e => by simpa [e] using sound k, counted⟩

/-- The blocks with D47 FAILED between two closed devices: a tie, a generator's device or an incomer, and an incomer D0. -/
def failedBetween (t : TerminalB) : Parts :=
  let s := (schemed .auto { scheme with sides := #v[⟨47, 0, 0, some 5⟩, ⟨1, 1, 1, none⟩] } openAll).parts
  let s := withDevice 0 0 (.utility 0) (deviceAt .closed contactsClosed)
    (withDevice 47 0 t { deviceAt .failed contactsClosed with failure := some .failedOpen } s)
  let s := withTag 31 [0] { s with
    paralleling.generators := s.paralleling.generators.set 11 (genAt .online) }
  withBuses [7] .low s

theorem test_met_BreakerFailureTripsTheBackups :
    (∀ t ∈ ([.bus 7, .generator 11, .utility 0] : List TerminalB),
      (∀ k : SlotId, ((failedBetween t).store.lockouts[k].all fun h => !h.retired && decide (writtenSet h).Nodup) = true) ∧
      (∀ d : DeviceId, (failedBetween t).lockouts.cover[d] = allSlots.countP ((failedBetween t).slotCovers d)) ∧
      (failedBetween t).noLockedClose ∧ (failedBetween t).switching.devices[(47 : DeviceId)].state = .failed) ∧
    ([.bus 7, .generator 11, .utility 0] : List TerminalB).map (fun t =>
      let u := takeNotice (.breakerFailure 47 .protection) (failedBetween t)
      (u.protection.lastFailure, u.isLocked 47, u.switching.devices[(0 : DeviceId)].state, u.switching.intertrips.toList)) =
      [(some ⟨47, .protection, [0], .nothing⟩, true, .opening, [none, none]),
       (some ⟨47, .protection, [], .stopNow⟩, true, .closed, [none, none]),
       (some ⟨47, .protection, [0], .intertrip⟩, true, .opening, [some 47, none])] := by
  simp only [Parts.noLockedClose]; decide +kernel

/-! ## Lockouts -/

theorem test_met_PlaceLockoutTakesTheLowestEmptySlot :
    let s := tieWith (withTag 0 [1])
    let lost : Held LockoutSettings := { Held.fresh (tag [1]) with integrity := .damaged }
    let t : State := { s with parts.store.lockouts := s.parts.store.lockouts.set 0 (some lost) }
    let closing := closingTie t
    t.live ∧ closing.live ∧ ([47, 5] : List DeviceId).Nodup ∧
    (∀ d : DeviceId, t.parts.switching.devices[d].state ≠ .closing) ∧
    closing.parts.switching.devices[(47 : DeviceId)].state = .closing ∧ closing.parts.isLocked 47 = false ∧
    closing.parts.store.devices[(47 : DeviceId)] = some storedTie ∧ storedTie.valid ∧
    (after (.placeLockout 1 255 [47, 5]) closing).parts.switching.devices[(47 : DeviceId)] =
      (inFlight .closing contactsOpen .changeover).openedBy .lockout 150 ∧
    t.parts.store.lockouts[(0 : SlotId)].map (fun h => (h.settings.kind, h.integrity)) = some (.tag, .damaged) ∧
    (∀ j : SlotId, j ≠ 0 → t.parts.store.lockouts[j] = none) ∧
    answerOf (after (.placeLockout 1 255 [47, 5]) t) = some (.ok, [1, 1]) ∧
    (after (.placeLockout 1 255 [47, 5]) t).parts.isLocked 47 = true := by
  simp only [State.live, Parts.calm, Held.valid]; decide +kernel

/-- A TAG with room takes what it does not have; refusals stand in the order of R62. -/
theorem test_met_PlaceLockoutTakesTheLowestEmptySlot_merge :
    let s := tieWith (withTag 31 [1, 2, 3, 4, 5, 6, 46])
    s.live ∧ s.parts.store.lockouts[(31 : SlotId)] = some (Held.fresh (tag [1, 2, 3, 4, 5, 6, 46])) ∧
    (Held.fresh (tag [1, 2, 3, 4, 5, 6, 46])).valid ∧ (∀ j : SlotId, j ≠ 31 → s.parts.store.lockouts[j] = none) ∧
    (∀ d : DeviceId, s.parts.switching.devices[d].state ≠ .closing) ∧
    answerOf (after (.placeLockout 1 0 [47, 46]) s) = some (.ok, [31, 31]) ∧
    (after (.placeLockout 1 0 [47, 46]) s).parts.lockouts.cover[(46 : DeviceId)] = 1 ∧
    (after (.placeLockout 1 0 [47, 46]) s).parts.attention.changed[(lockoutIndex 31 : StoreIndex)] = true ∧
    (after (.placeLockout 1 0 [46]) s).parts = s.parts ∧
    answerOf (after (.placeLockout 1 256 [0, 0]) s) = some (.badRequest, []) ∧
    answerOf (after (.placeLockout 1 256 [48]) s) = some (.badIndex, []) ∧
    answerOf (after (.placeLockout 1 256 [47]) s) = some (.range, []) ∧
    answerOf (after (.placeLockout 1 0 [0, 1, 2, 3, 4, 5, 6, 7, 8]) s) = some (.badRequest, []) := by
  simp only [State.live, Parts.calm, Held.valid]; decide +kernel

/-- In service a LOAD of a lockout that locks a CLOSING device opens it, and one that locks an OPEN one opens none. -/
theorem test_met_LoadRebuildsIndicesAndRecountsLockouts_inService :
    let s := tieWith (withTag 31 [1, 46])
    let load : Instr := .load 1 7 31 (pairsOf (.lockout (tag [46, 47])))
    let closing := closingTie s
    s.live ∧ closing.live ∧ s.parts.service.inService = true ∧ s.parts.service.hold.lockoutDamaged = false ∧
    (∀ d : DeviceId, s.parts.switching.devices[d].state ≠ .closing) ∧
    closing.parts.switching.devices[(47 : DeviceId)].state = .closing ∧
    closing.parts.store.devices[(47 : DeviceId)] = some storedTie ∧ storedTie.valid ∧
    (after load closing).parts.switching.devices[(47 : DeviceId)] =
      (inFlight .closing contactsOpen .changeover).openedBy .lockout 150 ∧
    ([1, 46, 47] : List DeviceId).map (fun d => ((after load s).parts.lockouts.cover[d])) = [0, 1, 1] ∧
    (after load s).parts.switching = s.parts.switching := by
  simp only [State.live, Parts.calm, Held.valid]; decide +kernel

/-- A TAG record whose origin is upset still bars its devices from another TAG (R68). -/
theorem test_tagOfAnotherOrigin :
    let s := tieWith fun p =>
      let q := withTag 0 [1] (withTag 31 [47] p)
      { q with store.lockouts := q.store.lockouts.set 31 (some (Held.fresh { tag [47] with origin := .device 3 })) }
    answerOf (after (.addDevices 1 0 [47]) s) = some (.state, []) ∧
    answerOf (after (.addDevices 1 0 [46]) s) = some (.ok, []) := by decide +kernel

theorem test_met_AddAndDropDevicesRewriteTheSet :
    let s := tieWith (withTag 31 [1, 2, 3, 4, 5, 6, 46])
    let closing := closingTie s
    s.live ∧ closing.live ∧ (∀ d : DeviceId, s.parts.switching.devices[d].state ≠ .closing) ∧
    closing.parts.store.devices[(47 : DeviceId)] = some storedTie ∧ storedTie.valid ∧
    (after (.addDevices 1 31 [47]) closing).parts.switching.devices[(47 : DeviceId)] =
      (inFlight .closing contactsOpen .changeover).openedBy .lockout 150 ∧
    s.parts.store.lockouts[(31 : SlotId)] = some (Held.fresh (tag [1, 2, 3, 4, 5, 6, 46])) ∧
    (Held.fresh (tag [1, 2, 3, 4, 5, 6, 46])).valid ∧ (∀ j : SlotId, j ≠ 31 → s.parts.store.lockouts[j] = none) ∧
    (after (.addDevices 1 31 [47]) s).parts.lockouts.cover[(47 : DeviceId)] = 1 ∧
    (after (.dropDevices 1 31 [46]) s).parts.lockouts.cover[(46 : DeviceId)] = 0 ∧
    ((after (.dropDevices 1 31 [46]) s).parts.store.lockouts[(31 : SlotId)].map fun h => h.settings.devices) =
      some [1, 2, 3, 4, 5, 6] := by
  simp only [State.live, Parts.calm, Held.valid]; decide +kernel

theorem test_met_ReleaseLockoutFreesTheSlot :
    let s := tieWith (withTag 31 [0, 47])
    s.live ∧ s.parts.store.lockouts[(0 : SlotId)] = none ∧
    s.parts.store.lockouts[(31 : SlotId)] = some (Held.fresh (tag [0, 47])) ∧ s.parts.lockouts.pending = [] ∧
    s.parts.service.hold.lockoutPending = false ∧ (∀ d : DeviceId, s.parts.switching.devices[d].state ≠ .closing) ∧
    (after (.releaseLockout 1 31) s).parts.isLocked 47 = false ∧
    (after (.releaseLockout 1 31) s).parts.store.lockouts[(31 : SlotId)] = none := by
  simp only [State.live, Parts.calm]; decide +kernel

/-- A PROTECTION lockout of an element over one device. -/
def tripLockout (e : ElementId) (d : DeviceId) : LockoutSettings :=
  { kind := .protection, origin := .element e, devices := [d], reason := 0 }

/-- The open tie with every slot held, by elements over D10 to D41, and an entry of E63 waiting for D47. -/
def fullTable (es : List PendingEntry) : State :=
  tieWith fun p => { p with
    store.lockouts := Vector.ofFn fun k => some (Held.fresh (tripLockout ⟨k.val, by omega⟩ ⟨k.val + 10, by omega⟩))
    lockouts.cover := Vector.ofFn fun d => if 10 ≤ d.val ∧ d.val < 42 then 1 else 0
    lockouts.pending := es
    service.hold.lockoutPending := !es.isEmpty }

def waiting (e : ElementId) : PendingEntry := { device := 47, kind := .protection, origin := .element e, reason := 0 }

theorem test_met_PendingLockoutsWaitForASlot :
    let s := fullTable []
    let closing := closingTie s
    let placed := after (.placeLockout 1 0 [47, 10]) s
    s.live ∧ closing.live ∧ ([47, 10] : List DeviceId).Nodup ∧ (∀ k : SlotId, s.parts.store.lockouts[k] ≠ none) ∧
    (∀ k : SlotId, (s.parts.store.lockouts[k].map fun h => h.settings.kind) = some .protection) ∧
    s.parts.isLocked 47 = false ∧ s.parts.isLocked 10 = true ∧ answerOf placed = some (.ok, [0xFE, 0xFF]) ∧
    placed.parts.lockouts.pending = [⟨47, .tag, .supervisor, 0⟩] ∧ placed.parts.inHold = true ∧
    closing.parts.store.devices[(47 : DeviceId)] = some storedTie ∧ storedTie.valid ∧
    (after (.placeLockout 1 0 [47]) closing).parts.switching.devices[(47 : DeviceId)] =
      (inFlight .closing contactsOpen .changeover).openedBy .lockout 150 := by
  simp only [State.live, Parts.calm, Held.valid]; decide +kernel

/-- A full table whose last record is DAMAGED. -/
def lostTable : State :=
  let s := fullTable []
  { s with
    parts.store.lockouts := s.parts.store.lockouts.set 31 (some { Held.fresh (tripLockout 31 41) with integrity := .damaged })
    parts.service.hold.lockoutDamaged := true }

/-- The premises of a release with an entry pending, that finds no record of its kind and origin or one with room, and of one
of a DAMAGED record. -/
theorem test_met_PendingLockoutsWaitForASlot_drain :
    (∀ s ∈ [fullTable [waiting 63], fullTable [waiting 0], lostTable], s.live ∧
      ∀ d : DeviceId, s.parts.switching.devices[d].state ≠ .closing) ∧
    (writtenSet (Held.fresh (tripLockout 31 41))).Nodup ∧
    (∀ j : SlotId, ((fullTable [waiting 63]).parts.store.lockouts[j].map fun h => h.settings.origin) ≠
      some (.element 63)) ∧
    (∀ j : SlotId, j ≠ 0 → ((fullTable [waiting 0]).parts.store.lockouts[j].map fun h => h.settings.origin) ≠
      some (.element 0)) := by
  simp only [State.live, Parts.calm]; decide +kernel

/-- What such releases leave: the entry takes the slot, or joins the record; the DAMAGED record's counts stay. -/
theorem test_drains :
    let releases (s : State) := (after (.releaseLockout 1 31) s).parts
    ([fullTable [waiting 63], fullTable [waiting 0], lostTable].map fun s =>
      ((releases s).lockouts.pending.length, (releases s).service.hold.mask, (releases s).lockouts.cover[(41 : DeviceId)])) =
      [(0, 0, 0), (0, 0, 0), (0, 0, 1)] ∧
    ([fullTable [waiting 63], fullTable [waiting 0], lostTable].map fun s => ([31, 0] : List SlotId).map fun k =>
      (releases s).store.lockouts[k].map fun h => h.settings.devices) =
      [[some [47], some [10]], [none, some [10, 47]], [none, some [10]]] := by
  decide +kernel

/-- A BUS placement with an empty list sets the flag, and neither reads nor places anything. -/
theorem test_emptyPlacement :
    let s := fullTable []
    placeAutomatic .bus (.element 0) [] s.parts = s.parts.raise .lockout := rfl

/-! ## Field lanes and points -/

def sensing : LaneLive :=
  { LaneLive.initial with state := .up, entry := some ⟨true, .sensing, 1, 4⟩, lastSequence := some 255,
                          silence := .running 40 }
def steering : LaneLive := { sensing with entry := some ⟨true, .generator, 8, 4⟩ }
def point (k : PointKind) (st : PointStatus) : PointLive := { PointLive.initial 50000 with kind := some k, status := st }

/-- In service with lane F15 and its points P60 to P63. -/
def laned (x : LaneLive) (st : PointStatus) : State :=
  partOf fun p =>
    let q := (inService p).setLane 15 x
    { q with lanes.points := [60, 61, 62, 63].foldl (fun v (k : PointId) => v.set k (point .feeder st)) q.lanes.points }

def lane15 (s : State) : LaneLive := s.parts.lanes.lanes[(15 : LaneId)]

theorem test_met_CharactersAssembleFrames :
    let idle := laned sensing .fresh
    let within := laned { sensing with assembly := some ⟨0x1F, 76, false, [1]⟩ } .fresh
    let off := laned LaneLive.initial .none
    let spacing := laned { sensing with spacing := true } .fresh
    idle.live ∧ within.live ∧ off.live ∧ spacing.live ∧ (lane15 off).state = .disabled ∧
    (lane15 spacing).spacing = true ∧ (lane15 idle).state = .up ∧ (lane15 idle).spacing = false ∧
    (lane15 idle).counts.character ≤ 65535 ∧ errorCount (character 0x1F true) = 0 ∧
    errorCount (character 0xFF false) = 0 ∧ majority (character 0x1F true).marker = true ∧
    headerLength (characterByte (character 0x1F true)) = some 76 ∧ (lane15 idle).assembly = none ∧
    majority (character 0xFF false).marker = false ∧ characterByte (character 0xFF false) = 0xFF ∧
    (lane15 within).assembly = some ⟨0x1F, 76, false, [1]⟩ ∧
    (lane15 (after (.laneCharacter 15 (character 0x1F true)) within)).counts.truncated = 1 := by
  simp only [State.live, Parts.calm]; decide +kernel

/-- Characters with errors, headers that give no length, the last character of a bad frame and of one of another kind. -/
theorem test_met_CharactersAssembleFrames_errors :
    let odd (b : Byte) (m : Bool) : LaneCharacter := { character b m with stop := space }
    let idle := laned sensing .fresh
    let within := laned { sensing with assembly := some ⟨0x1F, 76, false, [1]⟩ } .fresh
    let ending (h : Byte) (bad : Bool) := laned { sensing with assembly := some ⟨h, 22, bad, List.replicate 20 0⟩ } .fresh
    let shown (i : LaneCharacter) (s : State) := let x := lane15 (after (.laneCharacter 15 i) s)
      (x.counts.character, x.counts.truncated, x.counts.kind, x.assembly.map fun a => (a.bytes.length, a.bad))
    errorCount (odd 0x1F true) = 1 ∧ headerLength 0x10 = none ∧ headerLength 0x40 = none ∧
    headerKind 0x20 = some .genstate ∧ kindMatches .genstate (lane15 idle) = false ∧
    [shown (odd 0x1F true) idle, shown (odd 0x1F true) within, shown (character 0x10 true) within,
      shown (character 0x40 true) idle, shown (odd 7 false) idle, shown (odd 7 false) within] =
      [(1, 0, 0, none), (1, 1, 0, none), (0, 1, 1, none), (0, 0, 1, none), (1, 0, 0, none), (1, 0, 0, some (2, true))] ∧
    [shown (character 0 false) (ending 0x18 true), shown (odd 0 false) (ending 0x18 false),
      shown (character 0 false) (ending 0x20 false)] = [(0, 0, 0, none), (1, 0, 0, none), (0, 0, 1, none)] := by
  decide +kernel

/-- A group of 18 bytes: currents 1 to 4, 1000, 50.000 Hz, −1 and −2, quality valid. -/
def group : List Byte := [0, 1, 0, 2, 0, 3, 0, 4, 3, 0xE8, 0x4E, 0x20, 0xFF, 0xFF, 0xFF, 0xFF, 0xFE, 1]
/-- A MEASURE frame of slot 3 with a sequence number, after its header and without its last byte. -/
def measured (q : Byte) : List Byte := ((q :: group) ++ crcBytes (q :: group)).take 20
def lastByte (q : Byte) : Byte := ((crcBytes (q :: group)).getLast?).getD 0
def receiving (q last : Byte) : State :=
  laned { sensing with lastSequence := some last, assembly := some ⟨0x18, 22, false, measured q⟩ } .fresh

theorem test_met_FramesAreJudgedBySequence :
    let s := receiving 3 255
    let x := lane15 s
    s.live ∧ x.state = .up ∧ x.spacing = false ∧ errorCount (character (lastByte 3) false) = 0 ∧
    x.counts.character ≤ 65535 ∧ x.assembly = some ⟨0x18, 22, false, measured 3⟩ ∧
    22 = (measured 3 ++ [characterByte (character (lastByte 3) false)]).length + 1 ∧ headerKind 0x18 = some .measure ∧
    kindMatches .measure x = true ∧
    measured 3 ++ [characterByte (character (lastByte 3) false)] = 3 :: group ++ crcBytes (3 :: group) ∧
    inMask 0x18 3 = true ∧ (readGroup (groupAt group (slotsBelow 0x18 3))).map (fun y => y.2.toNat.testBit 0) = some true ∧
    s.parts.lanes.points[slotPoint 15 3].kind.isSome = true ∧ s.parts.lanes.points[slotPoint 15 3].status ≠ .test := by
  simp only [State.live, Parts.calm]; decide +kernel

/-- The same with a GENSTATE frame on a GENERATOR lane: ready, no fault. -/
theorem test_met_FramesAreJudgedBySequence_genstate :
    let body := group.take 17 ++ [3]
    let bytes := 3 :: body ++ crcBytes (3 :: body)
    let last := (bytes.getLast?).getD 0
    let s := laned { steering with assembly := some ⟨0x20, 22, false, bytes.take 20⟩ } .fresh
    let x := lane15 s
    s.live ∧ x.state = .up ∧ x.spacing = false ∧ errorCount (character last false) = 0 ∧ x.counts.character ≤ 65535 ∧
    majority (character last false).marker = false ∧
    22 = (bytes.take 20 ++ [characterByte (character last false)]).length + 1 ∧ headerKind 0x20 = some .genstate ∧
    kindMatches .genstate x = true ∧ bytes.take 20 ++ [characterByte (character last false)] = bytes ∧
    x.lastSequence = some 255 ∧ (readGroup (groupAt body 0)).map (fun y => y.2) = some 3 ∧
    (lane15 (after (.laneCharacter 15 (character last false)) s)).counts.accepted = 1 := by
  simp only [State.live, Parts.calm]; decide +kernel

/-- The first frame of a DOWN or SILENT lane, a slot of invalid quality, and slots that a frame leaves out. -/
theorem test_met_FramesAreJudgedBySequence_others :
    let first (st : LaneState) (x : LaneLive) : State :=
      laned { x with state := st, silence := .stopped, assembly := some ⟨0x18, 22, false, measured 3⟩ } .stale
    let takes (s : State) : State := after (.laneCharacter 15 (character (lastByte 3) false)) s
    let missing (n : Nat) : State := let s := receiving 3 2
      { s with parts.lanes.points := s.parts.lanes.points.set 60 { point .feeder .fresh with missed := n } }
    let poor := group.take 17 ++ [0]
    let bytes := 3 :: poor ++ crcBytes (3 :: poor)
    let invalid := laned { sensing with assembly := some ⟨0x18, 22, false, bytes.take 20⟩ } .fresh
    [first .down sensing, first .silent sensing].map (fun s => let t := takes s
      ((lane15 s).state, (lane15 t).state, (lane15 t).lastSequence, (lane15 t).silence, (lane15 t).counts.accepted,
        t.parts.lanes.points[(63 : PointId)].status, t.parts.lanes.points[(63 : PointId)].delta,
        t.parts.lanes.points[(60 : PointId)].status)) =
      [(.down, .up, some 3, .running 40, 1, .fresh, 10, .stale), (.silent, .up, some 3, .running 40, 1, .fresh, 10, .stale)] ∧
    [missing 0, missing 3].map (fun s => let q := (takes s).parts.lanes.points[(60 : PointId)]; (q.status, q.missed)) =
      [(.fresh, 1), (.stale, 4)] ∧
    (let q := (after (.laneCharacter 15 (character ((bytes.getLast?).getD 0) false)) invalid).parts.lanes.points[(63 : PointId)]
     (q.status, q.missed, q.values)) = (.stale, 0, (point .feeder .fresh).values) := by decide +kernel

/-- Gaps of 0, 128, 127 and 4 and a wrong CRC: DUPLICATE, OLD, accepted at four intervals twice, CHECK. -/
theorem test_framesJudged :
    [(3, 3), (3, 131), (3, 132), (3, 255)].map (fun (q, last) =>
      let s := after (.laneCharacter 15 (character (lastByte q) false)) (receiving q last)
      ((lane15 s).counts.duplicate, (lane15 s).counts.old, (lane15 s).counts.accepted,
        s.parts.lanes.points[(63 : PointId)].delta)) =
      [(1, 0, 0, 0), (0, 1, 0, 0), (0, 0, 1, 40), (0, 0, 1, 40)] ∧
    (lane15 (after (.laneCharacter 15 (character (lastByte 3 + 1) false)) (receiving 3 255))).counts.check = 1 := by
  decide +kernel

/-- The values of an accepted slot. -/
theorem test_measuredValues :
    (after (.laneCharacter 15 (character (lastByte 0) false)) (receiving 0 255)).parts.lanes.points[(63 : PointId)] =
      { kind := some .feeder, status := .fresh, values := ⟨1, 2, 3, 4, 1000, 50000, -1, -2⟩, delta := 10, missed := 0,
        test := none } := by decide +kernel

theorem test_met_BreakAndSilenceDropTheLane :
    let up := laned sensing .fresh
    let silent := laned { steering with state := .silent, silence := .stopped } .stale
    let down := laned { sensing with state := .down, silence := .stopped } .none
    up.live ∧ silent.live ∧ down.live ∧ (lane15 up).spacing = false ∧ (lane15 silent).state = .silent ∧
    (lane15 silent).isGeneratorLane = true ∧ (lane15 down).state = .down ∧ (lane15 up).silence.isRunning = true ∧
    (after (.laneBreak 15) up).parts.lanes.points[(63 : PointId)].status = .stale ∧
    (lane15 (after (.laneBreak 15) silent)).state = .down ∧ (lane15 (after (.laneBreak 15) down)).counts.breaks = 1 ∧
    (lane15 (after (.silenceTimerExpiry 15) up)).state = .silent ∧
    (lane15 (after (.lineReturnsToMarking 15) (after (.laneBreak 15) up))).spacing = false := by
  simp only [State.live, Parts.calm]; decide +kernel

def content : Content := { run := .run, target := 500, frequencyNudge := -5, voltageNudge := 5 }

theorem test_met_TransmissionsFollowOneAnother :
    let sending := laned { steering with sending := some ⟨255, content⟩, outbound := 0 } .fresh
    let waiting := laned { steering with sending := some ⟨254, content⟩, waiting := some content, outbound := 255 } .fresh
    (laned steering .fresh).live ∧ sending.live ∧ waiting.live ∧ (lane15 (laned steering .fresh)).sending = none ∧
    (lane15 sending).sending.isSome = true ∧ (lane15 sending).waiting = none ∧
    (lane15 waiting).waiting = some content ∧
    (lane15 (after (.setpointTransmitDone 15) waiting)).sending = some ⟨255, content⟩ ∧
    (lane15 (after (.setpointTransmitDone 15) waiting)).outbound = 0 ∧
    (waiting.transmitLine 15).map characterByte = Sending.bytes ⟨254, content⟩ ∧
    ((waiting.transmitLine 15).map fun w => (majority w.marker, errorCount w)) = (true, 0) :: List.replicate 10 (false, 0) := by
  simp only [State.live, Parts.calm]; decide +kernel

/-- The bytes of a SETPOINT frame before its CRC. -/
theorem test_setpointBytes :
    (Sending.bytes ⟨7, content⟩).take 8 = [0x30, 7, 1, 0x01, 0xF4, 0xFF, 0xFB, 0x00] ∧
    (Sending.bytes ⟨7, content⟩).length = 11 := by decide +kernel

def testValues : PointValues := ⟨65535, 0, 0, 0, 2000, 40000, -1800, -8388607⟩
def testing (st : PointStatus) : State := after (.testInject 1 63 testValues .blocked 600) (laned sensing st)

theorem test_met_TestsSubstituteAndReturnAPoint :
    let s := laned sensing .fresh
    s.live ∧ s.parts.service.inService = true ∧ s.parts.lanes.points[(63 : PointId)].kind = some .feeder ∧
    s.parts.lanes.points[(63 : PointId)].status ≠ .test ∧ valuesInRange testValues = true ∧
    (testing .fresh).live ∧ (testing .fresh).parts.service.inService = true ∧
    (testing .fresh).parts.lanes.points[(63 : PointId)].status = .test ∧
    ((testing .fresh).parts.lanes.points[(63 : PointId)].test.map fun h =>
      (h.heldStatus, h.interval.isRunning, h.duration.isRunning, h.duration)) =
      some (.fresh, true, true, .running 600000) ∧
    (after (.testIntervalExpiry 63) (testing .fresh)).parts.lanes.points[(63 : PointId)].delta = 10 ∧
    [PointStatus.fresh, .stale, .none].map (fun st =>
      (after (.endTest 1 63) (testing st)).parts.lanes.points[(63 : PointId)].status) = [.fresh, .stale, .none] ∧
    (after (.testDurationExpiry 63) (testing .fresh)).parts.lanes.testCount = 0 := by
  simp only [State.live, Parts.calm]; decide +kernel

/-! ## Protection elements -/

def feed (n : Nat) : PointValues := { PointValues.initial 50000 with ia := n }

theorem test_met_MultipleAndOperateTimeOfEachCurve :
    0 < element.pickup ∧ pickedUp element (feed 100) = true ∧ pickedUp { element with curve := .inv1 } (feed 65535) = true ∧
    pickedUp element (feed 99) = false ∧ element.curve = .definite ∧
    [100, 106, 107, 3999, 4000, 65535].map (fun n => multiple { element with curve := .inv2 } (feed n)) =
      [17, 17, 17, 639, 640, 640] ∧ multiple element (feed 100) = 16 := by decide +kernel

theorem test_met_MultipleAndOperateTimeOfEachCurve_times :
    let widest : ElementSettings := { element with a := 65535, b := 10000, timeDial := 100 }
    let least : ElementSettings := { element with a := 1, b := 0, timeDial := 1 }
    widest.a ≤ 65535 ∧ widest.b ≤ 10000 ∧ widest.timeDial ≤ 100 ∧
    [Curve.inv1, .inv2, .definite].map (fun k => operateTime { widest with curve := k } 17) =
      [10585600, 5183920, 100000] ∧
    [Curve.inv1, .inv2, .definite].map (fun k => operateTime { least with curve := k } 640) = [1, 1, 1] ∧
    operateTime { least with curve := .definite, timeDial := 9, b := 1 } 16 = 1 := by decide +kernel

/-- E63 after an update of 10 ms. -/
def updated (f : ElementSettings → ElementSettings) (x : ElementLive) (n : Nat) : ElementState × Nat × Bool :=
  let y := (updateElement (feed n) 10 (guarded f x).parts 63).protection.elements[(63 : ElementId)]
  (y.state, y.accumulator, y.target)

theorem test_met_UpdatesMoveTheAccumulator :
    let s := guarded id (elementAt .idle 0)
    s.parts.store.elements[(63 : ElementId)] = some (Held.fresh element) ∧ (Held.fresh element).valid ∧
    s.parts.protection.elements[(63 : ElementId)].state = .idle ∧ pickedUp element (feed 100) = true ∧
    pickedUp element (feed 99) = false ∧
    updated id (elementAt .idle 0) 100 = (.pickedUp, 209715, false) ∧
    updated id (elementAt .pickedUp 838861) 100 = (.tripped, 1048576, true) ∧
    updated id (elementAt .pickedUp 838860) 100 = (.pickedUp, 1048575, false) ∧
    updated id (elementAt .tripped 1048576) 100 = (.tripped, 1048576, false) ∧
    updated id (elementAt .tripped 1048576) 99 = (.idle, 0, false) ∧
    updated id (elementAt .pickedUp 5) 99 = (.idle, 0, false) ∧
    updated (fun x => { x with resetMode := .timed }) (elementAt .pickedUp 104857) 99 = (.idle, 0, false) ∧
    updated (fun x => { x with resetMode := .timed }) (elementAt .pickedUp 104858) 99 = (.resetting, 1, false) := by
  simp only [Held.valid]; decide +kernel

theorem test_met_ResetElementClearsTheTarget :
    let s := guarded id { elementAt .tripped 1048576 with target := true }
    s.live ∧ s.parts.store.elements[(0 : ElementId)] = none ∧ s.parts.store.elements[(63 : ElementId)].isSome = true ∧
    s.parts.protection.elements[(63 : ElementId)].target = true ∧
    (guarded id (elementAt .idle 0)).live ∧
    (guarded id (elementAt .idle 0)).parts.protection.elements[(63 : ElementId)].target = false ∧
    (after (.resetElement 1 63) s).parts.protection.elements[(63 : ElementId)].target = false ∧
    answerOf (after (.resetElement 1 64) s) = some (.badIndex, []) := by
  simp only [State.live, Parts.calm]; decide +kernel

theorem test_met_ElementTimersExpire :
    let blind := guarded id { elementAt .blind 0 with blind := .running 0 }
    let loose : State := { blind with parts.protection.guards := Vector.replicate 64 none }
    let zone := guarded id { elementAt .pickedUp 5 with zone := .running 0 }
    let blocked : State := { zone with parts.protection.testStanding := zone.parts.protection.testStanding.set 0 (some .blocked) }
    let trips (s : State) := (after (.zoneTimerExpiry 63) s).tripLine 4
    blind.live ∧ loose.live ∧ zone.live ∧ blocked.live ∧
    blind.parts.protection.elements[(63 : ElementId)].blind.isRunning = true ∧
    blind.parts.protection.guards[(63 : ElementId)] = some 4 ∧ loose.parts.protection.guards[(63 : ElementId)] = none ∧
    zone.parts.protection.elements[(63 : ElementId)].zone.isRunning = true ∧
    (Held.fresh element).valid ∧ element.actions.trip = true ∧
    zone.parts.switching.devices[(4 : DeviceId)].state = .closed ∧
    zone.parts.store.devices[(4 : DeviceId)] = some (Held.fresh (deviceOf 0 (.block 0))) ∧
    (after (.blindTimerExpiry 63) blind).parts.protection.unprotected[(4 : DeviceId)] = true ∧
    (after (.zoneTimerExpiry 63) zone).parts.protection.elements[(63 : ElementId)].target = true ∧
    trips zone = true ∧ trips blocked = false := by
  simp only [State.live, Parts.calm, Held.valid]; decide +kernel

/-! ## Intake changeover -/

/-- A side of a state put through a change. -/
def onSideOf (i : SideId) (f : SideLive → SideLive) (s : State) : State :=
  { s with parts.changeover.sides := s.parts.changeover.sides.set i (f s.parts.changeover.sides[i]) }

theorem test_met_SchemeModeIsTaken :
    let auto := schemed .auto scheme incomersClosed
    let manual := schemed .manual scheme incomersClosed
    State.reset.live ∧ State.reset.parts.service.inService = false ∧ base.live ∧ base.parts.changeover.scheme = none ∧
    auto.live ∧ auto.parts.service.inService = true ∧ auto.parts.changeover.scheme.isSome = true ∧
    auto.parts.changeover.mode = .auto ∧ manual.live ∧ manual.parts.changeover.mode = .manual ∧
    manual.parts.store.scheme = some (Held.fresh scheme) ∧ (Held.fresh scheme).valid ∧
    (∀ i : SideId, manual.parts.switching.devices[scheme.sides[i].incomer].state = .closed ∧
      manual.parts.changeover.utilities[scheme.sides[i].utility].qualification.isLive = true) ∧
    manual.parts.switching.devices[(5 : DeviceId)].state = .open ∧
    manual.parts.switching.devices[(2 : DeviceId)].state = .open ∧
    ((after (.schemeMode 1 .auto) manual).parts.changeover.sides.map SideLive.state) = #v[.normal, .normal] ∧
    ((after (.schemeMode 1 .manual) auto).parts.changeover.sides.map SideLive.state) = #v[.manual, .manual] := by
  simp only [State.live, Parts.calm, Held.valid]; decide +kernel

/-- MANUAL withdraws what stands at the other units, and AUTO of a damaged or an INVALID record is DAMAGED. -/
theorem test_met_SchemeModeIsTaken_requests :
    let auto := schemed .auto scheme incomersClosed
    let asking : State := { auto with
      parts.load.preSheds := #v[some { island := 0, remaining := 0, target := 0, outstanding := [] }, none]
      parts.paralleling.islandSync := some { side := 0, incomer := 0, closingTime := 60, incoming := none }
      parts.paralleling.waitingSync := some (1, 1) }
    let manual := schemed .manual scheme incomersClosed
    let stored (h : Held SchemeSettings) : State := { manual with parts.store.scheme := some h }
    let lost := stored { Held.fresh scheme with integrity := .damaged }
    let found := stored { Held.fresh scheme with settings := islanded, code := ⟨scheme, false⟩ }
    let quiet := after (.schemeMode 1 .manual) asking
    asking.live ∧ lost.live ∧ found.live ∧ quiet.parts.load.preSheds = #v[none, none] ∧
    quiet.parts.paralleling.islandSync = none ∧ quiet.parts.paralleling.waitingSync = none ∧
    ([lost, found].map fun s => answerOf (after (.schemeMode 1 .auto) s)) = List.replicate 2 (some (.damaged, [])) ∧
    isDamaged (after (.schemeMode 1 .auto) found).parts.store.scheme = true := by
  simp only [State.live, Parts.calm]; decide +kernel

theorem test_met_ResetSideTakesTheDerivedState :
    let lockedSide := onSideOf 1 (fun x => { x with state := .locked }) (schemed .auto scheme openAll)
    let held : State := { lockedSide with parts.lockouts.cover := lockedSide.parts.lockouts.cover.set 2 1 }
    lockedSide.live ∧ held.live ∧ lockedSide.parts.service.inService = true ∧ lockedSide.parts.changeover.mode = .auto ∧
    lockedSide.parts.changeover.scheme = some scheme ∧
    lockedSide.parts.changeover.sides[(1 : SideId)].state = .locked ∧
    lockedSide.parts.changeover.sides[(0 : SideId)].state ≠ .locked ∧
    (∀ d : DeviceId, lockedSide.parts.isLocked d = false) ∧ held.parts.isLocked 2 = true ∧
    (∀ d ∈ ([1, 2] : List DeviceId), lockedSide.parts.switching.devices[d].state = .open) ∧
    answerOf (after (.resetSide 1 1) held) = some (.state, []) ∧
    answerOf (after (.resetSide 1 2) held) = some (.badIndex, []) ∧
    (after (.resetSide 1 1) lockedSide).parts.changeover.sides[(1 : SideId)].state = .awaitSource := by
  simp only [State.live, Parts.calm]; decide +kernel

def withTimer (t : QualificationTimer) (q : Qualification) : State :=
  partOf fun p => { p with changeover.utilities := p.changeover.utilities.set 1 { UtilityLive.initial with
    qualification := q, underlying := some q, timer := t, settings := some (utility 33), measured := true } }

theorem test_met_ChangeoverTimersExpire :
    let loss := withTimer (.loss false 0) .failing
    let back := withTimer (.back false 0) .qualifying
    let frozen := withTimer (.loss true 7) .unknown
    loss.live ∧ back.live ∧ frozen.live ∧ loss.parts.changeover.scheme = none ∧
    loss.parts.changeover.utilities[(1 : UtilityId)].timer = .loss false 0 ∧
    back.parts.changeover.utilities[(1 : UtilityId)].timer = .back false 0 ∧
    (∀ n, frozen.parts.changeover.utilities[(1 : UtilityId)].timer ≠ .loss false n) ∧
    (∀ n, frozen.parts.changeover.utilities[(1 : UtilityId)].timer ≠ .back false n) ∧
    (after (.lossTimerExpiry 1) loss).parts.changeover.utilities[(1 : UtilityId)].qualification = .lost ∧
    (after (.returnTimerExpiry 1) back).parts.changeover.utilities[(1 : UtilityId)].qualification = .qualified := by
  refine ⟨⟨rfl, rfl, rfl⟩, ⟨rfl, rfl, rfl⟩, ⟨rfl, rfl, rfl⟩, rfl, rfl, rfl, ?_, ?_, ?_⟩
  · intro n h; exact absurd (show QualificationTimer.loss true 7 = .loss false n from h) (by simp)
  · intro n h; exact absurd (show QualificationTimer.loss true 7 = .back false n from h) (by simp)
  · decide +kernel

/-- Side S0 in DEAD_WAIT on a DEAD bus with its utility lost. -/
def deadWaiting (y : SchemeSettings) : State :=
  let s := schemed .auto y openAll
  let t : State := { s with parts := withBuses [0] .low { s.parts with
    changeover.utilities := s.parts.changeover.utilities.set 0 { UtilityLive.initial with qualification := .lost } } }
  onSideOf 0 (fun x => { x with state := .deadWait, dead := .running 0 }) t

/-- Side S0 in RT_SYNC with its generator tie CLOSED. -/
def resyncing : State :=
  onSideOf 0 (fun x => { x with state := .rtSync, sync := .running 0, feeding := some 5 })
    (schemed .auto scheme fun d => if d = 5 then deviceAt .closed contactsClosed else openAll d)

theorem test_met_ChangeoverTimersExpire_side :
    let waiting := deadWaiting islanded
    let lonely := deadWaiting alone
    let other := onSideOf 0 (fun x => { x with state := .awaitSource, dead := .running 0 }) (schemed .auto scheme openAll)
    waiting.live ∧ lonely.live ∧ other.live ∧ resyncing.live ∧ base.live ∧
    base.parts.changeover.sides[(0 : SideId)].dead.isRunning = false ∧
    base.parts.changeover.sides[(0 : SideId)].state ≠ .rtSync ∧
    [waiting, lonely].map (fun s => ((s.parts.islandOf 0).map Island.energisation,
      s.parts.changeover.utilities[(0 : UtilityId)].qualification, s.parts.changeover.scheme.bind SchemeSettings.tie)) =
      [(some .dead, .lost, none), (some .dead, .lost, none)] ∧
    resyncing.parts.sideGeneratorTie 0 = some 5 ∧ resyncing.parts.switching.devices[(5 : DeviceId)].state = .closed ∧
    (resyncing.parts.store.devices[(5 : DeviceId)].map fun h => (h.integrity, decide (h.settings = h.code.covers))) =
      some (.sound, true) ∧
    [waiting, lonely, other].map (fun s => (after (.deadTimerExpiry 0) s).parts.changeover.sides[(0 : SideId)].state) =
      [.genWait, .awaitSource, .awaitSource] ∧
    (after (.deadTimerExpiry 0) other).parts.changeover.sides[(0 : SideId)].dead = .ended ∧
    (after (.retransferSyncTimerExpiry 0) resyncing).tripLine 5 = true := by
  simp only [State.live, Parts.calm]; decide +kernel

/-- A close of ALT_TIE that fails takes a side to GEN_WAIT, and at once to RT_CLOSING where its own utility is QUALIFIED. -/
theorem test_genWaitReturns :
    let onBus (q : Qualification) : Parts :=
      let s := (onSideOf 0 (fun x => { x with state := .altTie }) (schemed .auto scheme openAll)).parts
      withBuses [0] .low { s with changeover.utilities :=
        s.changeover.utilities.set 0 { UtilityLive.initial with qualification := q } }
    ([Qualification.qualified, .lost].map fun q => (altTieFails 0 (onBus q)).changeover.sides[(0 : SideId)].state) =
      [.rtClosing, .genWait] := by decide +kernel

/-- Overlapping sources on island B0: the generator tie D5 is closed and its timer has run out. -/
def overlapping : State :=
  let s := schemed .manual scheme fun d => if d = 5 then deviceAt .closed contactsClosed else incomersClosed d
  { s with parts.changeover.overlaps := [⟨0, 300⟩, ⟨1, 5⟩] }

theorem test_met_ChangeoverTimersExpire_overlap :
    overlapping.live ∧ (∀ o ∈ overlapping.parts.changeover.overlaps, o.island ≠ 7) ∧
    (∃ o ∈ overlapping.parts.changeover.overlaps, o.island = 0) ∧
    (overlapping.parts.island? 0).map (overlapOpens overlapping.parts) = some [5] ∧
    overlapping.parts.switching.devices[(5 : DeviceId)].state = .closed ∧
    (overlapping.parts.store.devices[(5 : DeviceId)].map fun h => (h.integrity, decide (h.settings = h.code.covers))) =
      some (.sound, true) ∧
    (after (.overlapTimerExpiry 0) overlapping).parts.switching.devices[(5 : DeviceId)].operateTimer = .running 150 ∧
    (after (.overlapTimerExpiry 0) overlapping).parts.changeover.overlaps = [⟨0, 0⟩, ⟨1, 5⟩] := by
  simp only [State.live, Parts.calm]; decide +kernel

/-! ## Generator paralleling -/

/-- A host tie sync of D5 in progress. -/
def hostSyncing : State :=
  { runningGen with parts.paralleling.hostSync := some ⟨5, 2, 0, 60, .running 0⟩ }

theorem test_met_SyncCloseAndItsLimit :
    let starting := generating (genAt .starting) openGen
    let stopped := generating (genAt .stopped) openGen
    let lost : State := { stopped with parts.store.generators :=
      stopped.parts.store.generators.set 11 (some { Held.fresh generator with integrity := .damaged }) }
    starting.live ∧ stopped.live ∧ lost.live ∧ runningGen.live ∧ hostSyncing.live ∧
    [starting, stopped, lost, runningGen].map (fun s => (s.parts.service.inService, s.parts.switching.authority)) =
      List.replicate 4 (true, .remoteControl) ∧
    runningGen.parts.topology.index[(3 : DeviceId)] = some ⟨2, .generator 11⟩ ∧
    runningGen.parts.topology.index[(5 : DeviceId)] = some ⟨0, .bus 2⟩ ∧
    ([0, 2].map fun b => (runningGen.parts.islandOf b).map Island.kind) = [some .dead, some .generator] ∧
    ((runningGen.parts.islandOf 2).bind fun i => i.generators.find? runningGen.parts.isOnline) = some 11 ∧
    (g11 starting).target = 0 ∧ (g11 starting).sequence = none ∧
    hostSyncing.parts.paralleling.hostSync = some ⟨5, 2, 0, 60, .running 0⟩ ∧
    [answerOf (after (.syncClose 1 3) starting), answerOf (after (.syncClose 1 3) stopped),
      answerOf (after (.syncClose 1 3) lost), answerOf (after (.syncClose 1 5) runningGen),
      answerOf (after (.syncClose 1 5) hostSyncing), answerOf (after (.syncClose 1 48) hostSyncing)] =
      [some (.ok, []), some (.state, []), some (.damaged, []), some (.ok, []), some (.state, []), some (.badIndex, [])] ∧
    (after (.syncClose 1 5) runningGen).parts.paralleling.hostSync = some ⟨5, 2, 0, 60, .running 60000⟩ ∧
    (after .hostTieSyncLimitExpiry hostSyncing).parts.paralleling.hostSync = none := by
  simp only [State.live, Parts.calm]; decide +kernel

/-- Under LOCAL, and of an incomer, SYNC CLOSE answers AUTHORITY and STATE. -/
theorem test_syncCloseTurnedAway :
    answerOf (after (.syncClose 1 3) { runningGen with parts.switching.authority := .localControl }) =
      some (.authority, []) ∧
    answerOf (after (.syncClose 1 0) (schemed .auto scheme openAll)) = some (.state, []) := by decide +kernel

/-- SYNC CLOSE of a READY generator on a DEAD island, on a LIVE one and on one with a utility. -/
theorem test_met_SyncCloseAndItsLimit_ready :
    let ready := generating (genAt .ready) openGen
    let queueing : Parts :=
      { ready.parts with paralleling.arbiters := ready.parts.paralleling.arbiters.set 2 (some ⟨[], none⟩) }
    let on (c : ThresholdClass) : State := { ready with parts := withBuses [2] c queueing }
    let lively : State := { on .high with parts.topology.islands :=
      (on .high).parts.topology.islands.map fun i => { i with energisation := .live } }
    let fed : State := { lively with parts.topology.islands :=
      lively.parts.topology.islands.map fun i => { i with utilities := [0] } }
    let shown (s : State) := let t := after (.syncClose 1 3) s
      (answerOf t, (g11 t).state, (g11 t).mark, isQueued t.parts 2 11)
    (∀ s ∈ [on .low, lively, fed], s.live ∧ (g11 s).state = .ready ∧ (g11 s).target = 0 ∧ (g11 s).sequence = none ∧
      s.parts.generatorBus 11 = some 2) ∧
    ([on .low, lively, fed].map fun s => (s.parts.islandOf 2).map fun i => (i.energisation, i.utilities.length)) =
      [some (.dead, 0), some (.live, 0), some (.live, 1)] ∧
    [shown lively, shown fed] = [(some (.ok, []), .syncing, .run, false), (some (.ok, []), .ready, .run, false)] ∧
    (after (.syncClose 1 3) (on .low)).parts.switching.devices[(3 : DeviceId)].owner = some .paralleling ∧
    (g11 (after (.syncClose 1 3) lively)).syncTimer = .running 60000 := by
  simp only [State.live, Parts.calm]; decide +kernel

/-- An UNAVAILABLE generator whose lane is UP is judged at its own CLOSED notice too (R139). -/
theorem test_judgedAtItsOwnClose :
    let s := generating { genAt .unavailable with mark := .run } closedGen
    let t := s.parts.setLane 8 steering
    ((generatorPosition .closed (.origin .paralleling) 11 t).gen 11).state = .online ∧
    ((generatorPosition .closed (.origin .paralleling) 11 s.parts).gen 11).state = .unavailable := by decide +kernel

theorem test_met_GeneratorRequestsAreJudged :
    let stopped := generating (genAt .stopped) openGen
    let heldGen := generating { genAt .stopped with mark := .held } openGen
    let asked := generating { genAt .stopped with mark := .run } openGen
    let starting := generating { genAt .starting with run := .run, startTimer := .running 5 } openGen
    let failed := generating { genAt .failed with failure := some .startTimeout } openGen
    let joined := generating { genAt .failed with failure := some .open } closedGen
    let failedUp : State := { failed with parts := failed.parts.setLane 8 steering }
    stopped.live ∧ heldGen.live ∧ asked.live ∧ starting.live ∧ failedUp.live ∧ joined.live ∧ runningGen.live ∧
    stopped.parts.store.generators[(11 : GeneratorId)] = some (Held.fresh generator) ∧ (Held.fresh generator).valid ∧
    generator.cooldown ≠ 0 ∧ failedUp.parts.laneUp 11 = true ∧ failedUp.parts.supplyWanted = false ∧
    failedUp.parts.generatorDevice 11 = some 3 ∧ failedUp.parts.isConducting 3 = false ∧
    joined.parts.isConducting 3 = true ∧
    [after (.generatorStart 1 11) stopped, after (.generatorStart 1 11) asked, after (.generatorStart 1 11) failed,
      after (.generatorStop 1 11) runningGen, after (.generatorStop 1 11) starting, after (.generatorStop 1 11) heldGen,
      after (.resetGenerator 1 11) failedUp, after (.resetGenerator 1 11) joined, after (.resetGenerator 1 11) heldGen,
      after (.resetGenerator 1 11) stopped].map (fun s => ((answerOf s).map (·.1), (g11 s).state)) =
      [(some .ok, .starting), (some .already, .stopped), (some .state, .failed), (some .ok, .unloading),
       (some .ok, .cooldown), (some .already, .stopped), (some .ok, .stopped), (some .state, .failed),
       (some .ok, .stopped), (some .state, .stopped)] ∧
    (after (.generatorStart 1 12) stopped).port.response.map Response.status = some .badIndex ∧
    (after (.generatorStart 1 0) stopped).port.response.map Response.status = some .state := by
  simp only [State.live, Parts.calm, Held.valid]; decide +kernel

theorem test_met_ParallelingTimersExpire :
    let starting := generating { genAt .starting with startTimer := .running 0 } openGen
    let syncing := generating { genAt .syncing with syncTimer := .running 0 } openGen
    let closing := generating { genAt .syncClosing with syncTimer := .running 0 } (inFlight .closing contactsOpen .paralleling)
    let unloading := generating { genAt .unloading with unloadTimer := .running 0 } closedGen
    let cooling := generating { genAt .cooldown with cooldownTimer := .running 0 } openGen
    let coolingUp : State := { cooling with parts := cooling.parts.setLane 8 steering }
    starting.live ∧ syncing.live ∧ closing.live ∧ unloading.live ∧ cooling.live ∧ coolingUp.live ∧
    unloading.parts.switching.devices[generator.device].state = .closed ∧
    (unloading.parts.store.devices[generator.device].map fun h => (h.integrity, decide (h.settings = h.code.covers))) =
      some (.sound, true) ∧
    cooling.parts.laneUp 11 = false ∧ coolingUp.parts.laneUp 11 = true ∧ coolingUp.parts.supplyWanted = false ∧
    [after (.startLimitExpiry 11) starting, after (.syncLimitExpiry 11) syncing, after (.syncLimitExpiry 11) closing,
      after (.unloadLimitExpiry 11) unloading, after (.cooldownExpiry 11) cooling, after (.cooldownExpiry 11) coolingUp].map
        (fun s => ((g11 s).state, (g11 s).failure)) =
      [(.failed, some .startTimeout), (.failed, some .syncTimeout), (.syncClosing, none), (.disconnecting, none),
       (.unavailable, none), (.stopped, none)] := by
  simp only [State.live, Parts.calm]; decide +kernel

/-- G11 ONLINE and G0 STOPPED behind D6 on bus B2, with the timers of island B2 run out. -/
def paired (st : GeneratorState) : State :=
  let s := { runningGen with parts := withDevice 6 2 (.generator 0) openGen runningGen.parts }
  { s with
    parts.store.generators := s.parts.store.generators.set 0 (some (Held.fresh { generator with device := 6 }))
    parts.paralleling.generators := s.parts.paralleling.generators.set 0
      { genAt st with settings := some { generator with device := 6 } }
    parts.paralleling.islandTimers := [⟨2, .running 0, .running 0⟩] }

theorem test_met_ParallelingTimersExpire_island :
    (paired .stopped).live ∧ (paired .failed).live ∧ ((paired .stopped).parts.island? 2).isSome = true ∧
    (paired .stopped).parts.timersOf 2 = ⟨2, .running 0, .running 0⟩ ∧
    ((runningGen.parts.island? 2).isSome, runningGen.parts.timersOf 2) = (true, ⟨2, .stopped, .stopped⟩) ∧
    ((paired .stopped).parts.island? 2).bind (removeCandidate (paired .stopped).parts) = some 11 ∧
    (paired .stopped).parts.generatorBus 0 = some 2 ∧
    (∀ g : GeneratorId, (paired .failed).parts.paralleling.generators[g].state ≠ .stopped) ∧
    ((after (.addTimerExpiry 2) (paired .stopped)).parts.paralleling.generators[(0 : GeneratorId)].state,
      (after (.addTimerExpiry 2) (paired .failed)).parts.attention.flags.generator,
      (g11 (after (.removeTimerExpiry 2) (paired .stopped))).state) = (.starting, true, .unloading) := by
  simp only [State.live, Parts.calm]; decide +kernel

/-- The room of GEN_WAIT is what the Load Unit holds: none in the event of an entry into ONLINE before it has worked the values
out again, and 900 kW once it has. -/
theorem test_generatorRoomIsHeld :
    let waiting := keepBalances { (generating (genAt .ready) closedGen).parts with changeover.scheme := some scheme }
    let now := setGenerator 11 { waiting.gen 11 with state := .online } waiting
    ((now.islandOf 2).map Island.kind, generatorRoom now, generatorRoom (loadReview now)) = (some .generator, none, some 900) := by
  decide +kernel

/-- An ONLINE generator that no island lists any more loses its target, and a listed one takes its share. -/
theorem test_unlistedGeneratorLosesItsTarget :
    let left (dev : DeviceLive) : Nat :=
      let s := generating { genAt .online with target := 700, sequence := some 1 } dev
      let ns := (s.parts.topology.islands.filter (·.id == 2)).map fun i => IslandNotice.mk [2] i ⟨false, true, false, false, true⟩
      let powered := s.parts.setPoint 32 { point .generator .fresh with values := { testValues with p := 300 } }
      ((parallelingIslands ns powered).gen 11).target
    (left openGen, left closedGen) = (0, 300) := by decide +kernel

/-- The end of an island sync levels the incoming island also where its incomer has left the index. -/
theorem test_islandSyncEndsWithoutItsIncomer :
    let s : Parts := { (generating { genAt .online with frequencyNudge := 40, voltageNudge := 4 } closedGen).parts with
      paralleling.islandSync := some { side := 0, incomer := 0, closingTime := 60, incoming := some 2 } }
    let x := (withdrawIslandSync 0 s).gen 11
    (s.terminalA 0, x.frequencyNudge, x.voltageNudge) = (none, 0, 0) := by decide +kernel

/-- The worked shares of chapter 9: a basis of 4,321 kW over ratings of 2,000, 2,000 and 1,500. -/
theorem test_met_ShareTargetsSumToTheBasis :
    (∀ r ∈ ([2000, 2000, 1500] : List Nat), 0 < r) ∧ 4321 ≤ ([2000, 2000, 1500] : List Nat).sum ∧
    shareTargets 4321 [2000, 2000, 1500] = [1572, 1571, 1178] := by decide +kernel

/-! ## Load blocks -/

theorem test_met_BlockRequestsMoveABlock :
    let shed := loaded (shedAt 1) openGen
    let heldBlock := loaded (blockAt .held) openGen
    let served := loaded (blockAt .served) closedGen
    let dark := loaded (blockAt .dark) closedGen
    shed.live ∧ heldBlock.live ∧ served.live ∧ dark.live ∧
    isDamaged heldBlock.parts.store.blocks[(23 : BlockId)] = false ∧ heldBlock.parts.feederOf 23 = some 4 ∧
    heldBlock.parts.position 4 = .open ∧ served.parts.switching.authority = .remoteControl ∧
    served.parts.switching.devices[(4 : DeviceId)].state = .closed ∧
    (served.parts.store.devices[(4 : DeviceId)].map fun h => (h.integrity, decide (h.settings = h.code.covers))) =
      some (.sound, true) ∧
    [shed, heldBlock].map (fun s => (closeRequest 4 .supervisor ⟨false, false⟩ s.parts).2) = [.accepted, .accepted] ∧
    (l23 State.reset).state = .unset ∧
    [after (.holdBlock 1 23) shed, after (.releaseBlock 1 23) heldBlock, after (.shedBlock 1 23) served,
      after (.shedBlock 1 23) dark, after (.restoreBlock 1 23) shed, after (.restoreBlock 1 23) heldBlock].map
        (fun s => (l23 s).state) = [.held, .restoring, .shed, .shed, .restoring, .restoring] ∧
    answerOf (after (.holdBlock 1 24) shed) = some (.badIndex, []) ∧
    answerOf (after (.restoreBlock 1 0) shed) = some (.state, []) := by
  simp only [State.live, Parts.calm]; decide +kernel

/-- A position notice of a feeder that two blocks name reaches both. -/
theorem test_blocksOfOneFeeder :
    let s := (loaded (blockAt .served) closedGen).parts
    let t := { s with load.blocks := s.load.blocks.set 22 { blockAt .dark with settings := some block } }
    let u := loadPosition 4 .open .external t
    ([22, 23] : List BlockId).map (fun l => u.load.blocks[l].state) = [.held, .held] := by decide +kernel

/-- A host restore of a block that the bus-to-device index does not name for its feeder goes on while the feeder is CLOSING,
and ends SHED where the feeder has ceased to conduct. -/
theorem test_restoringWithoutAnEntry :
    let at22 (dev : DeviceLive) : BlockState :=
      let s := (loaded (blockAt .held) dev).parts
      let x : BlockLive := { blockAt .restoring with settings := some block, restorer := some .supervisor }
      let t : Parts := { s with load.blocks := s.load.blocks.set 22 x }
      ((t.islandOf 0).map fun i => (blockAtIsland i t 22).load.blocks[(22 : BlockId)].state).getD .unset
    (at22 (inFlight .closing contactsOpen .supervisor), at22 openGen) = (.restoring, .shed) := by decide +kernel

/-- A LOAD that makes a DAMAGED block sound sheds it in an overloaded island, though the demand has not moved. -/
theorem test_loadOfABlockRunsTheShedStep :
    let s := (loaded (blockAt .served) closedGen).parts
    let small : UtilityLive :=
      { s.changeover.utilities[1] with settings := some { utility 32 with capacity := 40 } }
    let kept := keepBalances { s with changeover.utilities := s.changeover.utilities.set 1 small }
    (kept.topology.islands.map (balanceMoved kept), (blockLoaded 23 kept).load.blocks[(23 : BlockId)].state,
      kept.load.blocks[(23 : BlockId)].state) = ([false], .shed, .served) := by decide +kernel

/-- A DARK block without demand that becomes SERVED in an overloaded island brings the shed step. -/
theorem test_wakingRunsTheShedStep :
    let s := (loaded { blockAt .dark with demand := some 0 } closedGen).parts
    let small : UtilityLive := { s.changeover.utilities[1] with settings := some { utility 32 with capacity := 40 } }
    let t := { s with
      changeover.utilities := s.changeover.utilities.set 1 small
      load.blocks := s.load.blocks.set 22 { blockAt .restoring with settings := some block }
      topology.islands := s.topology.islands.map fun i => { i with blocks := [22, 23] } }
    let kept := keepBalances t
    let ns := (kept.topology.islands.filter fun i => i.id == 0).map fun i => IslandNotice.mk [0] i ⟨false, false, false, true, false⟩
    (kept.topology.islands.map (balanceMoved kept)).all (· == false) ∧
    (loadIslands ns kept).load.blocks[(23 : BlockId)].state = .shed := by decide +kernel

/-- L23 queued for restoration and the restore timer run out. -/
def queued : State :=
  let s := loaded (shedAt 1) openGen
  { s with parts.load.queue := [23], parts.load.restoreTimer := .running 0 }

theorem test_met_RestoreTimerMakesAnAttempt :
    let stopped : Parts := { queued.parts with load.restoreTimer := .stopped }
    let inHold : State := { queued with parts.service.hold.supervisor := true }
    queued.live ∧ queued.parts.load.restoreTimer.isRunning = true ∧ queued.parts.inHold = false ∧
    queued.parts.service.station = some station ∧ station.restoreMode ≠ .held ∧
    (∀ j : BlockId, queued.parts.load.blocks[j].restorer ≠ some .loadUnit) ∧ queued.parts.load.queue = [23] ∧
    queued.parts.feederOf 23 = some 4 ∧
    ((queued.parts.islandOfBlock 23).map fun i => (i.energisation, i.kind, queued.parts.headroomOf i)) =
      some (.live, .utility, some 5000) ∧
    queued.parts.blockDemand 23 + station.restoreMargin ≤ 5000 ∧
    (closeRequest 4 .loadUnit ⟨false, false⟩ stopped).2 = .accepted ∧ inHold.live ∧ inHold.parts.inHold = true ∧
    (l23 (after .restoreTimerExpiry queued)).state = .restoring ∧
    (after .restoreTimerExpiry queued).parts.load.restoreTimer = .running 5000 ∧
    (l23 (after .restoreTimerExpiry inHold)).state = .shed := by
  simp only [State.live, Parts.calm]; decide +kernel

/-! ## Records loaded, amended and retired in service -/

/-- Pairs that carry settings whole. -/
def carries (x : AnySettings) : Bool :=
  fieldsFit (kindOf x) (pairsOf x) && fieldsComplete (kindOf x) (pairsOf x) && readSettings (kindOf x) (pairsOf x) == some x

theorem test_met_LoadInServiceIsTakenByItsOwner :
    let blank (p : Pattern) := partOf fun q =>
      { remote (inService q) with switching.devices := q.switching.devices.set 47 (deviceAt .retired p) }
    let tie := deviceOf 0 (.bus 7)
    let load : Instr := .load 1 4 47 (pairsOf (.device tie))
    (∀ s ∈ [blank contactsOpen, blank contactsClosed, blank contactsTravel], s.live ∧ s.parts.service.inService = true ∧
      isActive s.parts.store.devices[(47 : DeviceId)] = false ∧
      s.parts.switching.devices[(47 : DeviceId)].state = .retired) ∧ carries (.device tie) ∧
    ([blank contactsOpen, blank contactsClosed, blank contactsTravel].map fun s => let u := (after load s).parts
      (u.switching.devices[(47 : DeviceId)].state, u.topology.index[(47 : DeviceId)], u.topology.conducting[(47 : DeviceId)])) =
      [(.open, some ⟨0, .bus 7⟩, false), (.closed, some ⟨0, .bus 7⟩, true), (.uncertain, some ⟨0, .bus 7⟩, true)] := by
  simp only [State.live, Parts.calm]; decide +kernel

theorem test_met_LoadInServiceIsTakenByItsOwner_element :
    let fallen : ElementLive := { elementAt .damaged 0 with blind := .ended }
    let base := guarded id fallen
    let s (st : PointStatus) : State := { base with parts := { base.parts with
      protection.unprotected := base.parts.protection.unprotected.set 4 true
      lanes.points := base.parts.lanes.points.set 9 (point .feeder st) } }
    let x : ElementSettings := { element with point := 9, guarded := 5, upstream := some 62 }
    let shown (u : Parts) := (u.protection.elements[(63 : ElementId)], u.protection.guards[(63 : ElementId)],
      u.protection.watch[(63 : ElementId)], u.protection.upstream[(63 : ElementId)],
      [u.protection.unprotected[(4 : DeviceId)], u.protection.unprotected[(5 : DeviceId)]])
    (s .fresh).live ∧ (s .stale).live ∧ carries (.element x) ∧ closesCycle (.element 63) (.element x) (s .fresh).parts = false ∧
    (∀ f : ElementId, f ≠ 63 → (s .fresh).parts.store.elements[f] = none) ∧
    shown (after (.load 1 6 63 (pairsOf (.element x))) (s .fresh)).parts =
      (ElementLive.initial, some 5, some 9, some 62, [false, false]) ∧
    shown (after (.load 1 6 63 (pairsOf (.element x))) (s .stale)).parts =
      ({ ElementLive.initial with state := .blind, blind := .running 40 }, some 5, some 9, some 62, [false, false]) := by
  simp only [State.live, Parts.calm]; decide +kernel

def larger : GeneratorSettings := { generator with rating := 1500 }
/-- G11 FAILED, by its device and its lane, with supply wanted or not. -/
def failedGen (dev : DeviceLive) (st : LaneState) (wanted : Bool) : State :=
  let s := generating { genAt .failed with failure := some .open, mark := .held } dev
  { s with parts := { s.parts.setLane 8 { steering with state := st } with
    changeover.sides := s.parts.changeover.sides.map fun y => { y with supply := wanted } } }
def failedGens : List State :=
  [failedGen openGen .down false, failedGen openGen .up false, failedGen closedGen .down false, failedGen closedGen .up true]

theorem test_met_LoadInServiceIsTakenByItsOwner_generator :
    (∀ s ∈ failedGens, s.live ∧ s.parts.service.inService = true ∧ (g11 s).state = .failed) ∧ carries (.generator larger) ∧
    (failedGens.map fun s => (s.parts.isConducting 3, s.parts.lanes.lanes[(8 : LaneId)].state, s.parts.supplyWanted)) =
      [(false, .down, false), (false, .up, false), (true, .down, false), (true, .up, true)] := by
  simp only [State.live, Parts.calm]; decide +kernel

theorem test_loadsOfAGenerator :
    (failedGens.map fun s =>
      let u := (loadRequest 3 11 (pairsOf (.generator larger)) s.parts).1
      let x := u.paralleling.generators[(11 : GeneratorId)]
      (x.state, x.run, x.failure, x.mark, x.sequence, x.settings == some larger,
        ([2, 0] : List BusId).map fun b => u.paralleling.arbiters[b].isSome)) =
      [(.unavailable, .stop, none, .none, none, true, [true, false]), (.stopped, .stop, none, .none, none, true, [true, false]),
       (.unavailable, .run, none, .none, none, true, [true, false]),
       (.online, .run, none, .none, some 1, true, [true, false])] := by decide +kernel

theorem test_met_LoadInServiceIsTakenByItsOwner_block :
    let x (n : Nat) : BlockSettings := { block with demandFloor := n }
    let load (n : Nat) : Instr := .load 1 5 23 (pairsOf (.block (x n)))
    let alive := loaded (blockAt .held) closedGen
    let dark : State := { alive with parts.topology.islands :=
      alive.parts.topology.islands.map fun i => { i with energisation := .dead } }
    let apart : State := let s := loaded (shedAt 1) openGen
      { s with parts.load.queue := [23] }
    (∀ s ∈ [alive, dark, apart], s.live ∧ s.parts.service.inService = true ∧ (l23 s).state ≠ .restoring ∧
      (s.parts.islandOfDevice 4).isSome = true) ∧ carries (.block (x 60)) ∧ carries (.block (x 6000)) ∧
    ([(alive, load 60), (alive, load 6000), (dark, load 60), (apart, load 60)].map fun (s, i) => let t := after i s
      ((l23 t).state, (l23 t).demand, (l23 t).servedSequence, t.parts.load.queue)) =
      [(.served, some 60, some 1, []), (.shed, some 6000, some 1, [23]), (.dark, some 60, none, []),
       (.held, some 60, none, [])] := by
  simp only [State.live, Parts.calm]; decide +kernel

theorem test_met_LoadInServiceIsTakenByItsOwner_scheme :
    let held := schemed .manual scheme incomersClosed
    let none : State := { held with parts.changeover := { held.parts.changeover with scheme := .none } }
    let load : Instr := .load 1 8 0 (pairsOf (.scheme alone))
    held.live ∧ none.live ∧ held.parts.changeover.mode = .manual ∧ carries (.scheme alone) ∧
    (after load held).parts.changeover = { held.parts.changeover with scheme := some alone } ∧
    (after load none).parts.changeover.scheme = some alone ∧
    (∀ i : SideId, (after load none).parts.changeover.sides[i].state = .manual) ∧
    (after load none).parts.store = { none.parts.store with scheme := some (Held.fresh alone) } := by
  simp only [State.live, Parts.calm]; decide +kernel

/-- A state no run reaches: no scheme, S0's island sync running, S1's waiting, and the record of its incomer D1 INVALID. -/
theorem test_met_LoadInServiceIsTakenByItsOwner_syncs :
    let held := schemed .manual scheme incomersClosed
    let unsound : Held DeviceSettings := { Held.fresh (deviceOf 1 (.utility 1)) with code := ⟨deviceOf 0 (.utility 1), false⟩ }
    let syncing (w : Option (SideId × DeviceId)) : State := { held with parts := { held.parts with
      changeover := { held.parts.changeover with scheme := .none }
      store.devices := held.parts.store.devices.set 1 (some unsound)
      paralleling.islandSync := some { side := 0, incomer := 0, closingTime := 60, incoming := .none }
      paralleling.waitingSync := w } }
    let load : Instr := .load 1 8 0 (pairsOf (.scheme alone))
    let stored (s : State) : RecordStore := { s.parts.store with scheme := some (Held.fresh alone) }
    let behind := syncing (some (1, 1))
    let single := syncing .none
    behind.live ∧ single.live ∧ behind.parts.service.inService = true ∧ behind.parts.changeover.mode = .manual ∧
    (after load single).parts.store = stored single ∧ (after load behind).parts.store ≠ stored behind ∧
    (after load behind).parts.store = { stored behind with devices := (after load behind).parts.store.devices } ∧
    (∀ i : SideId, (after load behind).parts.changeover.sides[i].state = .manual) := by
  simp only [State.live, Parts.calm]; decide +kernel

theorem test_met_AmendAndRetireInServiceAreTakenByTheOwner :
    let source := partOf fun p => { inService p with
      store.utilities := p.store.utilities.set 1 (some (Held.fresh (utility 33)))
      changeover.utilities := p.changeover.utilities.set 1 { UtilityLive.initial with
        qualification := .qualified, underlying := some .qualified, settings := some (utility 33), measured := true } }
    let watch := guarded id (elementAt .pickedUp 7)
    let reads (x : AnySettings) (ps : List FieldPair) : Bool :=
      fieldsFit (kindOf x) ps && (readSettings (kindOf x) (amendedPairs (settingsPairs x) ps)).isSome
    source.live ∧ watch.live ∧ openTie.live ∧ runningGen.live ∧
    reads (.utility (utility 33)) [⟨3, 700⟩, ⟨7, 5⟩] ∧ reads (.generator generator) [⟨7, 5⟩, ⟨15, 300⟩] ∧
    reads (.device (deviceOf 0 (.bus 7))) [⟨4, 20⟩, ⟨7, 500⟩] ∧ reads (.element element) [⟨4, 5⟩, ⟨10, 10⟩] ∧
    (after (.amend 1 2 1 [⟨3, 700⟩, ⟨7, 5⟩]) source).parts.changeover.utilities[(1 : UtilityId)] =
      { source.parts.changeover.utilities[(1 : UtilityId)] with
        settings := some { utility 33 with windowLow := 700, returnDelay := 5 } } ∧
    g11 (after (.amend 1 3 11 [⟨7, 5⟩, ⟨15, 300⟩]) runningGen) =
      { g11 runningGen with settings := some { generator with voltageWindow := 5, syncLimit := 300 } } ∧
    (after (.amend 1 4 47 [⟨4, 20⟩, ⟨7, 500⟩]) openTie).parts.switching = openTie.parts.switching ∧
    (after (.amend 1 6 63 [⟨4, 5⟩, ⟨10, 10⟩]) watch).parts.protection = watch.parts.protection ∧
    (after (.amend 1 6 63 [⟨4, 5⟩, ⟨10, 10⟩]) watch).parts.store.elements[(63 : ElementId)] =
      some ((Held.fresh element).rewrite { element with pickup := 5, resetTime := 10 }) ∧
    openTie.parts.position 47 = .open ∧ (∀ e : DeviceId, e ≠ 47 → openTie.parts.store.devices[e] = none) ∧
    (after (.retire 1 4 47) openTie).parts.switching.devices[(47 : DeviceId)].state = .retired ∧
    (after (.retire 1 4 47) openTie).parts.topology.index[(47 : DeviceId)] = none := by
  simp only [State.live, Parts.calm]; decide +kernel

theorem test_met_AmendAndRetireInServiceAreTakenByTheOwner_block :
    let served := loaded (blockAt .served) closedGen
    let drawn : PointLive := { point .feeder .fresh with values := ⟨0, 0, 0, 0, 0, 50000, 0, 70⟩ }
    let measured : State := { served with parts.lanes.points := served.parts.lanes.points.set 0 drawn }
    let shed : State := let s := loaded (shedAt 1) openGen
      { s with parts.load.queue := [23] }
    let amend (f : Nat) (n : Int) : Instr := .amend 1 5 23 [⟨f, n⟩]
    served.live ∧ measured.live ∧ shed.live ∧ (l23 served).settings = some block ∧
    ([(served, amend 5 60), (served, amend 5 0), (served, amend 3 8), (measured, amend 5 60), (measured, amend 5 6000),
      (shed, amend 5 60)].map fun (s, i) => let t := after i s
      (answerOf t, (l23 t).state, (l23 t).demand, (l23 t).settings.map fun y => (y.priority, y.demandFloor))) =
      [(some (.ok, []), .served, some 60, some (3, 60)), (some (.ok, []), .served, some 50, some (3, 0)),
       (some (.ok, []), .served, some 50, some (8, 50)), (some (.ok, []), .served, some 70, some (3, 60)),
       (some (.ok, []), .shed, some 6000, some (3, 6000)), (some (.ok, []), .restoring, some 60, some (3, 60))] := by
  simp only [State.live, Parts.calm]; decide +kernel

/-! ## Service -/

theorem test_met_HoldAndResumeMoveTheSupervisorReason :
    let held : State := { base with parts.service.hold.supervisor := true }
    let both : State := { held with parts.service.hold.busDamaged := true }
    base.live ∧ held.live ∧ both.live ∧ State.reset.live ∧ base.parts.service.inService = true ∧
    base.parts.service.hold.supervisor = false ∧ held.parts.service.hold.supervisor = true ∧
    (held.parts.service.hold.lockoutPending || held.parts.service.hold.lockoutDamaged ||
      held.parts.service.hold.busDamaged) = false ∧ both.parts.service.hold.busDamaged = true ∧
    ([after (.hold 1) base, after (.hold 1) held, after (.resume 1) base, after (.resume 1) held, after (.resume 1) both,
      after (.hold 1) State.reset].map fun s => ((answerOf s).map (·.1), s.parts.inHold)) =
      [(some .ok, true), (some .already, true), (some .already, false), (some .ok, false), (some .ok, true),
       (some .state, false)] := by
  simp only [State.live, Parts.calm]; decide +kernel

/-- Records of a small station: two buses, a tie between them, a point, and a lockout of the tie with an entry pending. -/
def recorded : State :=
  partOf fun p =>
    let q := withTag 0 [47] (p.putStation (some (Held.fresh station)))
    let q := (q.putBus 0 (some (Held.fresh ⟨some 63⟩))).putBus 7 (some (Held.fresh ⟨none⟩))
    let q := (q.putDevice 47 (some (Held.fresh (deviceOf 0 (.bus 7))))).putPoint 63 (some (Held.fresh ⟨.bus⟩))
    { q with
      switching.devices := q.switching.devices.set 47 (DeviceLive.initial contactsTravel)
      lockouts.pending := [⟨47, .protection, .element 0, 1⟩] }

theorem test_met_EnterServiceChecksAndEnters :
    let unusable (f : Held StationSettings → Held StationSettings) : State :=
      { recorded with parts.store.station := some (f (Held.fresh station)) }
    recorded.live ∧ recorded.parts.service.inService = false ∧ base.live ∧ base.parts.service.inService = true ∧
    State.reset.parts.store.station = none ∧ recorded.parts.store.station = some (Held.fresh station) ∧
    (allRecords.all fun n => match recorded.parts.record n with
      | some x => decide (x.integrity ≠ .damaged ∧ x.settings = x.code.covers)
      | none => true) = true ∧
    judgeReferences recorded.parts = none ∧
    ([base, State.reset, unusable fun h => { h with retired := true }, unusable fun h => { h with integrity := .damaged }].map
      fun s => answerOf (after (.enterService 1) s)) =
      [some (.state, [1, 0]), some (.state, [2, 0]), some (.state, [2, 0]), some (.damaged, [2, 0])] := by
  simp only [State.live, Parts.calm]; decide +kernel

/-- A failure of each of the checks 3 to 6, at the record it concerns. -/
theorem test_met_EnterServiceChecksAndEnters_records :
    let changed (f : Parts → Parts) : State := { recorded with parts := f recorded.parts }
    let lost (r : Held PointSettings → Held PointSettings) : State :=
      changed fun p => p.putPoint 63 (some (r (Held.fresh ⟨.bus⟩)))
    let fed : Held DeviceSettings := Held.fresh (deviceOf 0 (.utility 1))
    let below (u : ElementId) : Held ElementSettings := Held.fresh { element with upstream := some u }
    let states : List State := [lost fun h => { h with integrity := .damaged },
      lost fun h => { h with settings := ⟨.feeder⟩, code := ⟨⟨.bus⟩, false⟩ }, lost fun h => { h with retired := true },
      changed fun p => ((p.putUtility 1 (some (Held.fresh (utility 33)))).putDevice 3 (some fed)).putDevice 47 (some fed),
      changed fun p => (p.putElement 5 (some (below 63))).putElement 63 (some (below 5))]
    (∀ s ∈ states, s.live ∧ s.parts.service.inService = false) ∧
    (states.map fun s => answerOf (after (.enterService 1) s)) =
      [some (.damaged, [3, 255]), some (.damaged, [3, 255]), some (.range, [4, 1]), some (.range, [5, 10]),
       some (.range, [6, 100])] := by
  simp only [State.live, Parts.calm]; decide +kernel

/-- Every kind of record, all VALID and consistent: the scheme's three buses, a generator, a block and an element. -/
def complete : State :=
  partOf fun p =>
    let q := (p.putStation (some (Held.fresh station))).putScheme (some (Held.fresh scheme))
    let q := { q with
      store.buses := q.store.buses.mapFinIdx fun b _ _ => if b < 3 then some (Held.fresh ⟨none⟩) else none
      store.utilities := #v[some (Held.fresh (utility 33)), some (Held.fresh (utility 34))]
      store.generators := q.store.generators.set 11 (some (Held.fresh generator))
      store.blocks := q.store.blocks.set 23 (some (Held.fresh block))
      store.elements := q.store.elements.set 63 (some (Held.fresh element)) }
    let put (d : DeviceId) (a : BusId) (b : TerminalB) (x : Pattern) (s : Parts) : Parts :=
      { s with
        store.devices := s.store.devices.set d (some (Held.fresh (deviceOf a b)))
        switching.devices := s.switching.devices.set d (DeviceLive.initial x) }
    put 0 0 (.utility 0) contactsOpen (put 1 1 (.utility 1) contactsClosed (put 2 0 (.bus 1) contactsOpen
      (put 3 2 (.generator 11) contactsClosed (put 4 0 (.block 23) contactsClosed (put 5 0 (.bus 2) contactsClosed q)))))

theorem test_met_EnterServiceChecksAndEnters_whole :
    let t := after (.enterService 1) complete
    complete.live ∧ complete.parts.service.inService = false ∧
    (∀ g : GeneratorId, complete.parts.paralleling.generators[g] = GeneratorLive.initial) ∧
    (allRecords.all fun n => match complete.parts.record n with
      | some x => decide (x.integrity ≠ .damaged ∧ x.settings = x.code.covers)
      | none => true) = true ∧
    judgeReferences complete.parts = none ∧ answerOf t = some (.ok, []) ∧
    t.parts.changeover.sides.map SideLive.state = #v[.onGen, .manual] ∧
    ((g11 t).state, (g11 t).run) = (.unavailable, .run) ∧ (l23 t).state = .dark ∧
    t.parts.protection.elements[(63 : ElementId)] = { ElementLive.initial with state := .blind, blind := .running 40 } ∧
    t.parts.protection.elements[(0 : ElementId)].state = .disabled ∧
    (t.parts.topology.islands.map fun i => (i.members, i.energisation)) =
      [([0, 2], .residual), ([1], .residual)] := by
  simp only [State.live, Parts.calm]; decide +kernel

theorem test_entry :
    let s := after (.enterService 1) recorded
    answerOf s = some (.ok, []) ∧ s.parts.service.inService = true ∧ s.parts.inHold = true ∧
    s.parts.switching.devices[(47 : DeviceId)].state = .uncertain ∧
    s.parts.switching.devices[(0 : DeviceId)].state = .retired ∧
    s.parts.store.scrubTimer = .running 500 ∧ s.parts.topology.islands.map Island.members = [[0, 7]] ∧
    s.parts.lanes.points[(63 : PointId)].kind = some .bus ∧
    [deviceIndex 0, elementIndex 0, blockIndex 0, generatorIndex 0].map (fun i => s.parts.attention.changed[i]) =
      [false, true, true, true] := by decide +kernel

theorem test_met_LeaveServiceReturnsToConfiguring :
    let busy := tied (inFlight .opening contactsClosed .supervisor)
    let tested : State := { base with parts.lanes.testCount := 1 }
    closedTie.live ∧ closedTie.parts.service.inService = true ∧ closedTie.parts.lanes.testCount = 0 ∧
    (∀ d : DeviceId, closedTie.parts.switching.devices[d].state.inFlight = false) ∧ busy.live ∧ tested.live ∧
    State.reset.live ∧ busy.parts.switching.devices[(47 : DeviceId)].state = .opening ∧ 0 < tested.parts.lanes.testCount ∧
    (after (.leaveService 1) closedTie).parts.switching.devices[(47 : DeviceId)] = DeviceLive.initial contactsClosed ∧
    (after (.leaveService 1) closedTie).parts.attention.changed[deviceIndex 47] = true ∧
    (after (.leaveService 1) closedTie).parts.attention.changed[deviceIndex 46] = false ∧
    ([busy, tested, State.reset].map fun s => answerOf (after (.leaveService 1) s)) =
      List.replicate 3 (some (.state, [])) := by
  simp only [State.live, Parts.calm]; decide +kernel

/-- A step that answers next from a state with the invariant of the port. -/
theorem test_met_EveryStepKeepsThePortInvariant : State.reset.port.wf ∧ (match step State.reset with
    | .next t => t.port.response.isSome
    | _ => false) = true := by
  refine ⟨⟨?_, rfl, ?_⟩, by decide +kernel⟩
  · intro frame h; exact absurd (show (none : Option (List Byte)) = some frame from h) (by simp)
  · intro a b x h; exact absurd (show (none : Option Presented) = some (.response a b x) from h) (by simp)

/-- States with the other invariants that are not empty of what they speak of, from which a step answers next. -/
theorem test_met_EveryStepKeepsTheInvariants :
    (guarded id (elementAt .tripped 1048576)).parts.protection.accumulatorLaw ∧
    (fullTable [waiting 63]).parts.coversCounted ∧ (tied (inFlight .closing contactsOpen .supervisor)).parts.noLockedClose ∧
    (onSideOf 1 (fun x => { x with state := .onTie })
      { schemed .auto scheme openAll with parts.changeover.claim := some 1 }).parts.changeover.claimHeld ∧
    queued.parts.queueHoldsTheShed ∧
    ([guarded id (elementAt .tripped 1048576), fullTable [waiting 63], queued].all fun s => match step s with
      | .next _ => true
      | _ => false) = true := by
  refine ⟨?_, coversCounted_of ?_ ?_, ?_, ?_, ?_, ?_⟩ <;>
    (try simp only [ProtectionUnit.accumulatorLaw, Parts.noLockedClose, ChangeoverUnit.claimHeld,
      Parts.queueHoldsTheShed]) <;> decide +kernel

end Sys2Proof.Tests
end

/-!
PROOF. RELEASE INTERTRIP (R45): one equation for each state of a side's line, and the command assembled from them.
-/

namespace Sys2Proof.Machine

/-! ## A side's line -/

theorem releaseIntertripOf_released {i : SideId} {s : Parts} (h : s.switching.intertrips[i] = none) :
    releaseIntertripOf i s = (s, .already) := by simp only [releaseIntertripOf, h]

theorem releaseIntertripOf_notOpen {i : SideId} {d : DeviceId} {s : Parts}
    (h : s.switching.intertrips[i] = some d) (hp : s.position d ≠ .open) :
    releaseIntertripOf i s = (s, .state) := by simp only [releaseIntertripOf, h, if_neg hp]

theorem releaseIntertripOf_open {i : SideId} {d : DeviceId} {s : Parts}
    (h : s.switching.intertrips[i] = some d) (hp : s.position d = .open) :
    releaseIntertripOf i s =
      ({ s with switching.intertrips := s.switching.intertrips.set i none }, .ok) := by
  simp only [releaseIntertripOf, h, if_pos hp]

/-! ## The command -/

theorem exec_releaseIntertrip (t : Byte) (side : Nat) (s : State) :
    exec (.releaseIntertrip t side) s = taking 0x23 t (bare (releaseIntertripRequest side)) s := rfl

theorem releaseIntertripRequest_val (i : SideId) : releaseIntertripRequest i.val = releaseIntertripOf i := by
  funext s
  simp only [releaseIntertripRequest, index?_val]

/-- What the line's judgement answers is the response, where it sends no notice. -/
theorem exec_releaseIntertrip_judged (t : Byte) {i : SideId} {s : State} {u : Parts} {a : Status}
    (h : s.inReset = false) (hj : releaseIntertripOf i s.parts = (u, a)) (hu : u.calm) :
    exec (.releaseIntertrip t i.val) s = .next (s.answers 0x23 t a [] u) := by
  have owner : bare (releaseIntertripRequest i.val) s.parts = (u, a, []) := by
    simp only [bare, releaseIntertripRequest_val, hj]
  rw [exec_releaseIntertrip, taking_calm _ _ _ _ h (by rwa [owner]), owner]

/-- Settles O25: each row of R45's table is the line's equation, and none of them sends a notice. -/
theorem releaseIntertripIsJudgedByTheLine : Obligations.ReleaseIntertripIsJudgedByTheLine := by
  intro t i s ⟨hr, hc⟩
  refine ⟨fun released => ?_, fun d asserted => ⟨fun notOpen => ?_, fun isOpen => ?_⟩⟩
  · exact exec_releaseIntertrip_judged t hr (releaseIntertripOf_released released) hc
  · exact exec_releaseIntertrip_judged t hr (releaseIntertripOf_notOpen asserted notOpen) hc
  · exact exec_releaseIntertrip_judged t hr (releaseIntertripOf_open asserted isOpen) (hc.of_eq rfl rfl)

end Sys2Proof.Machine

/-!
PROOF. Protection elements: the multiple and the operate time of each curve (R89, R90), and RESET ELEMENT (R104).
-/

namespace Sys2Proof.Machine

/-! ## The multiple (R89) -/

theorem pickedUp_iff {x : ElementSettings} {v : PointValues} : pickedUp x v = true ↔ x.pickup ≤ quantityOf x v := by
  simp only [pickedUp, decide_eq_true_eq, ge_iff_le]

theorem multiple_inverse {x : ElementSettings} (v : PointValues) (h : x.curve ≠ .definite) :
    multiple x v = max 17 (min 640 (16 * quantityOf x v / x.pickup)) := by
  unfold multiple
  cases hc : x.curve with
  | inv1 => rfl
  | inv2 => rfl
  | definite => exact absurd hc h

theorem multiple_definite {x : ElementSettings} (v : PointValues) (h : x.curve = .definite) :
    multiple x v = min 640 (16 * quantityOf x v / x.pickup) := by simp only [multiple, h]

/-- A quantity in sixteenths of a pickup, rounded down: 16 from the pickup to just below 17 ÷ 16 of it, and 640 or more
from 40 times it. -/
theorem sixteenths_ranges {p q : Nat} (hp : 0 < p) (hq : p ≤ q) :
    16 ≤ 16 * q / p ∧ (16 * q / p = 16 ↔ 16 * q < 17 * p) ∧ (640 ≤ 16 * q / p ↔ 40 * p ≤ q) := by
  have atLeast16 : 16 ≤ 16 * q / p ↔ 16 * p ≤ 16 * q := Nat.le_div_iff_mul_le hp
  have below17 : 16 * q / p < 17 ↔ 16 * q < 17 * p := Nat.div_lt_iff_lt_mul hp
  have atLeast640 : 640 ≤ 16 * q / p ↔ 640 * p ≤ 16 * q := Nat.le_div_iff_mul_le hp
  refine ⟨?_, ?_, ?_⟩ <;> omega

/-! ## The operate time (R90) -/

theorem operateTime_inv1 {x : ElementSettings} (q : Nat) (h : x.curve = .inv1) :
    operateTime x q = max 1 (x.timeDial * (x.a * 16 / (q - 16) + x.b) / 10) := by simp only [operateTime, h]

theorem operateTime_inv2 {x : ElementSettings} (q : Nat) (h : x.curve = .inv2) :
    operateTime x q = max 1 (x.timeDial * (x.a * 256 / (q * q - 256) + x.b) / 10) := by simp only [operateTime, h]

theorem operateTime_definite {x : ElementSettings} (q : Nat) (h : x.curve = .definite) :
    operateTime x q = max 1 (x.timeDial * x.b / 10) := by simp only [operateTime, h]

theorem operateTime_pos (x : ElementSettings) (q : Nat) : 1 ≤ operateTime x q := le_max_left _ _

/-- The largest time dial bounds the time of a curve from a bound on the curve itself. -/
theorem dialledTime_le {dial time bound : Nat} (hd : dial ≤ 100) (ht : time ≤ bound) :
    dial * time / 10 ≤ 10 * bound := by
  have product : dial * time ≤ 100 * bound := Nat.mul_le_mul hd ht
  omega

/-- The division of INV1 only lowers A × 16; at q = 17 its divisor is 1. -/
theorem operateTime_inv1_le {x : ElementSettings} {q : Nat} (h : x.curve = .inv1) (ha : x.a ≤ 65535)
    (hb : x.b ≤ 10000) (hd : x.timeDial ≤ 100) : operateTime x q ≤ 10585600 := by
  have curve : x.a * 16 / (q - 16) ≤ x.a * 16 := Nat.div_le_self _ _
  rw [operateTime_inv1 q h]
  exact max_le (by omega) (dialledTime_le (bound := 1058560) hd (by omega))

/-- The divisor of INV2 is least at q = 17, where it is 33. -/
theorem operateTime_inv2_le {x : ElementSettings} {q : Nat} (h : x.curve = .inv2) (hq : 17 ≤ q) (ha : x.a ≤ 65535)
    (hb : x.b ≤ 10000) (hd : x.timeDial ≤ 100) : operateTime x q ≤ 5183920 := by
  have square : 17 * 17 ≤ q * q := Nat.mul_le_mul hq hq
  have curve : x.a * 256 / (q * q - 256) ≤ 65535 * 256 / 33 := Nat.div_le_div (by omega) (by omega) (by omega)
  rw [operateTime_inv2 q h]
  exact max_le (by omega) (dialledTime_le (bound := 518392) hd (by omega))

theorem operateTime_definite_le {x : ElementSettings} {q : Nat} (h : x.curve = .definite) (hb : x.b ≤ 10000)
    (hd : x.timeDial ≤ 100) : operateTime x q ≤ 100000 := by
  rw [operateTime_definite q h]
  exact max_le (by omega) (dialledTime_le hd hb)

theorem operateTime_definite_one {x : ElementSettings} (q : Nat) (h : x.curve = .definite)
    (hb : x.b = 0 ∨ x.timeDial * x.b < 10) : operateTime x q = 1 := by
  have product : x.timeDial * x.b < 10 := hb.elim (fun zero => by simp [zero]) id
  rw [operateTime_definite q h]
  omega

/-- The longest time of each curve, at the largest settings and the least multiple of the inverse curves. -/
theorem operateTime_longest {x : ElementSettings} (ha : x.a = 65535) (hb : x.b = 10000) (hd : x.timeDial = 100) :
    (x.curve = .inv1 → operateTime x 17 = 10585600) ∧ (x.curve = .inv2 → operateTime x 17 = 5183920) ∧
    (x.curve = .definite → operateTime x 17 = 100000) := by
  refine ⟨fun h => ?_, fun h => ?_, fun h => ?_⟩
  · simp [operateTime_inv1 17 h, ha, hb, hd]
  · simp [operateTime_inv2 17 h, ha, hb, hd]
  · simp [operateTime_definite 17 h, hb, hd]

/-- The shortest time, at the least settings and the largest multiple. -/
theorem operateTime_shortest {x : ElementSettings} (ha : x.a = 1) (hb : x.b = 0) (hd : x.timeDial = 1) :
    operateTime x 640 = 1 := by
  cases h : x.curve with
  | inv1 => simp [operateTime_inv1 640 h, ha, hb, hd]
  | inv2 => simp [operateTime_inv2 640 h, ha, hb, hd]
  | definite => exact operateTime_definite_one 640 h (.inl hb)

/-- Settles O38: the ranges of the multiple, the curves' own equations, and their bounds with the settings that reach
them. -/
theorem multipleAndOperateTimeOfEachCurve : Obligations.MultipleAndOperateTimeOfEachCurve := by
  refine ⟨fun x v positive up => ?_, fun x q => ?_, fun x => operateTime_longest, fun x => operateTime_shortest⟩
  · obtain ⟨least, lowest, limit⟩ := sixteenths_ranges positive (pickedUp_iff.mp up)
    refine ⟨least, lowest, limit, multiple_inverse v, fun h => ⟨multiple_definite v h, fun p q => ?_⟩⟩
    rw [operateTime_definite p h, operateTime_definite q h]
  · refine ⟨operateTime_inv1 q, operateTime_inv2 q, operateTime_definite q, fun hq ha hb hd => ?_,
      operateTime_definite_one q⟩
    exact ⟨operateTime_pos x q, fun h => operateTime_inv1_le h ha hb hd, fun h => operateTime_inv2_le h hq ha hb hd,
      fun h => operateTime_definite_le h hb hd⟩

/-! ## The target mark of an element (R104, R105) -/

/-- A write of an element that moves what its record shows sets the changed mark. -/
theorem Parts.setElement_moved {s : Parts} {e : ElementId} {x : ElementLive}
    (h : s.protection.elements[e].moved x = true) :
    s.setElement e x = { s with
      protection.elements := s.protection.elements.set e x
      attention.changed := s.attention.changed.set (elementIndex e) true } := by
  simp only [Parts.setElement, h, Parts.markIf, if_true, Parts.mark]

theorem ElementLive.moved_of_target {o x : ElementLive} (h : o.target ≠ x.target) : o.moved x = true := by
  simp [ElementLive.moved, h]

theorem resetElementRequest_badIndex {element : Nat} (h : 64 ≤ element) (s : Parts) :
    resetElementRequest element s = (s, .badIndex) := by simp only [resetElementRequest, index?_none h]

theorem resetElementRequest_empty {e : ElementId} {s : Parts} (h : s.store.elements[e] = none) :
    resetElementRequest e.val s = (s, .state) := by
  simp only [resetElementRequest, index?_val, h, Option.isNone_none, if_true]

theorem resetElementRequest_clear {e : ElementId} {s : Parts} (hs : s.store.elements[e].isSome = true)
    (ht : s.protection.elements[e].target = false) : resetElementRequest e.val s = (s, .already) := by
  obtain ⟨h, stored⟩ := Option.isSome_iff_exists.mp hs
  simp [-Fin.getElem_fin, resetElementRequest, index?_val, stored, ht]

theorem resetElementRequest_set {e : ElementId} {s : Parts} (hs : s.store.elements[e].isSome = true)
    (ht : s.protection.elements[e].target = true) :
    resetElementRequest e.val s = ({ s with
      protection.elements := s.protection.elements.set e { s.protection.elements[e] with target := false }
      attention.changed := s.attention.changed.set (elementIndex e) true }, .ok) := by
  obtain ⟨h, stored⟩ := Option.isSome_iff_exists.mp hs
  have moved : s.protection.elements[e].moved { s.protection.elements[e] with target := false } = true :=
    ElementLive.moved_of_target (by simp [-Fin.getElem_fin, ht])
  rw [← Parts.setElement_moved moved]
  simp [-Fin.getElem_fin, resetElementRequest, index?_val, stored, ht]

/-! ## The command -/

/-- The taking of a request that is answered by a status alone, where its judgement sends no notice. -/
theorem taking_judged (code : Nat) (t : Byte) {owner : Parts → Parts × Status} {s : State} {u : Parts} {a : Status}
    (h : s.inReset = false) (hj : owner s.parts = (u, a)) (hu : u.calm) :
    taking code t (bare owner) s = .next (s.answers code t a [] u) := by
  have judged : bare owner s.parts = (u, a, []) := by simp only [bare, hj]
  rw [taking_calm _ _ _ _ h (by rwa [judged]), judged]

theorem exec_resetElement (t : Byte) (element : Nat) (s : State) :
    exec (.resetElement t element) s = taking 0x40 t (bare (resetElementRequest element)) s := rfl

/-- Settles O40: each row of R104's table is an equation of the judgement, and none of them sends a notice. -/
theorem resetElementClearsTheTarget : Obligations.ResetElementClearsTheTarget := by
  intro t s ⟨hr, hc⟩
  simp only [exec_resetElement]
  refine ⟨fun element outside => ?_, fun e => ⟨fun empty => ?_, fun held clear => ?_, fun held marked => ?_⟩⟩
  · exact taking_judged 0x40 t hr (resetElementRequest_badIndex outside s.parts) hc
  · exact taking_judged 0x40 t hr (resetElementRequest_empty empty) hc
  · exact taking_judged 0x40 t hr (resetElementRequest_clear held clear) hc
  · exact taking_judged 0x40 t hr (resetElementRequest_set held marked) (hc.of_eq rfl rfl)

end Sys2Proof.Machine

/-!
PROOF. HOLD and RESUME (R172): the removal of a hold reason, one equation for each row of the two judgements, and the
commands assembled from them.
-/

namespace Sys2Proof.Machine

/-! ## The removal of a hold reason (R171) -/

/-- A reason removed beside another one changes the set alone. -/
theorem Parts.removeHold_kept {s : Parts} {r : HoldReason} (present : s.service.hold.has r = true)
    (other : (s.service.hold.put r false).isEmpty = false) :
    s.removeHold r = { s with service.hold := s.service.hold.put r false } := by
  simp [Parts.removeHold, Parts.inHold, present, other]

/-- The last reason removed ends the hold. -/
theorem Parts.removeHold_last {s : Parts} {r : HoldReason} (present : s.service.hold.has r = true)
    (last : (s.service.hold.put r false).isEmpty = true) :
    s.removeHold r = { s with service.hold := s.service.hold.put r false }.sendAll
      [.holdEnded .changeover, .holdEnded .paralleling, .holdEnded .load] := by
  simp [Parts.removeHold, Parts.inHold, present, last]

/-- With SUPERVISOR taken out, the set is empty where no other reason is in it. -/
theorem HoldSet.isEmpty_put_supervisor (h : HoldSet) :
    (h.put .supervisor false).isEmpty = !(h.lockoutPending || h.lockoutDamaged || h.busDamaged) := by
  simp only [HoldSet.isEmpty, HoldSet.put, Bool.or_false]

theorem HoldSet.put_supervisor_last {h : HoldSet}
    (others : (h.lockoutPending || h.lockoutDamaged || h.busDamaged) = false) :
    h.put .supervisor false = HoldSet.empty := by
  simp only [Bool.or_eq_false_iff] at others
  obtain ⟨⟨pending, damaged⟩, bus⟩ := others
  simp only [HoldSet.put, HoldSet.empty, pending, damaged, bus]

/-! ## The judgements -/

theorem holdRequest_configuring {s : Parts} (h : s.service.inService = false) :
    holdRequest s = (s, .state) := by simp [holdRequest, h]

theorem holdRequest_present {s : Parts} (h : s.service.inService = true) (hp : s.service.hold.supervisor = true) :
    holdRequest s = (s, .already) := by simp [holdRequest, h, hp]

theorem holdRequest_absent {s : Parts} (h : s.service.inService = true) (hp : s.service.hold.supervisor = false) :
    holdRequest s = ({ s with service.hold := { s.service.hold with supervisor := true },
                              attention.flags.hold := true }, .ok) := by
  have added := s.addHold_new .supervisor h hp
  simp only [holdRequest, h, hp, added]
  rfl

theorem resumeRequest_configuring {s : Parts} (h : s.service.inService = false) :
    resumeRequest s = (s, .state) := by simp [resumeRequest, h]

theorem resumeRequest_absent {s : Parts} (h : s.service.inService = true) (hp : s.service.hold.supervisor = false) :
    resumeRequest s = (s, .already) := by simp [resumeRequest, h, hp]

theorem resumeRequest_present {s : Parts} (h : s.service.inService = true) (hp : s.service.hold.supervisor = true) :
    resumeRequest s = (s.removeHold .supervisor, .ok) := by simp [resumeRequest, h, hp]

theorem resumeRequest_kept {s : Parts} (h : s.service.inService = true) (hp : s.service.hold.supervisor = true)
    (others : (s.service.hold.lockoutPending || s.service.hold.lockoutDamaged || s.service.hold.busDamaged) = true) :
    resumeRequest s = ({ s with service.hold := { s.service.hold with supervisor := false } }, .ok) := by
  have other : (s.service.hold.put .supervisor false).isEmpty = false := by
    rw [HoldSet.isEmpty_put_supervisor, others, Bool.not_true]
  rw [resumeRequest_present h hp, Parts.removeHold_kept (r := .supervisor) hp other]
  rfl

theorem resumeRequest_last {s : Parts} (h : s.service.inService = true) (hp : s.service.hold.supervisor = true)
    (others : (s.service.hold.lockoutPending || s.service.hold.lockoutDamaged || s.service.hold.busDamaged) = false)
    (calm : s.calm) :
    resumeRequest s = ({ s with
      service.hold := HoldSet.empty
      notices := [.holdEnded .changeover, .holdEnded .paralleling, .holdEnded .load] }, .ok) := by
  have last : (s.service.hold.put .supervisor false).isEmpty = true := by
    rw [HoldSet.isEmpty_put_supervisor, others, Bool.not_false]
  obtain ⟨noNotice, -⟩ := calm
  rw [resumeRequest_present h hp, Parts.removeHold_last (r := .supervisor) hp last, HoldSet.put_supervisor_last others]
  simp only [Parts.sendAll, noNotice, List.nil_append]

/-! ## The commands -/

theorem exec_hold (t : Byte) (s : State) : exec (.hold t) s = taking 0x80 t (bare holdRequest) s := rfl

theorem exec_resume (t : Byte) (s : State) : exec (.resume t) s = taking 0x81 t (bare resumeRequest) s := rfl

/-- Settles O51: each row of R172 is an equation of a judgement; the RESUME that leaves no reason is the only one that
sends notices. -/
theorem holdAndResumeMoveTheSupervisorReason : Obligations.HoldAndResumeMoveTheSupervisorReason := by
  intro t s ⟨hr, hc⟩
  simp only [exec_hold, exec_resume]
  refine ⟨fun configuring => ⟨?_, ?_⟩, fun inService =>
    ⟨fun present => ?_, fun absent => ?_, fun absent => ?_, fun present others => ?_, fun present noOther => ?_⟩⟩
  · exact taking_judged 0x80 t hr (holdRequest_configuring configuring) hc
  · exact taking_judged 0x81 t hr (resumeRequest_configuring configuring) hc
  · exact taking_judged 0x80 t hr (holdRequest_present inService present) hc
  · exact taking_judged 0x80 t hr (holdRequest_absent inService absent) (hc.of_eq rfl rfl)
  · exact taking_judged 0x81 t hr (resumeRequest_absent inService absent) hc
  · exact taking_judged 0x81 t hr (resumeRequest_kept inService present others) (hc.of_eq rfl rfl)
  · have owner := resumeRequest_last inService present noOther hc
    rw [taking_live _ _ _ _ hr, bare, owner]

end Sys2Proof.Machine

/-!
PROOF. The frame of the five invariants of the blocks: what an update of the blocks keeps of them. One lemma per function of
the model says that it keeps all five; the statements on steps are read off at the end.
-/

namespace Sys2Proof.Machine

/-- What an update keeps: each of the five invariants of the blocks that holds before it holds after it. -/
structure Parts.Keeps (s t : Parts) : Prop where
  accumulators : s.protection.accumulatorLaw → t.protection.accumulatorLaw
  covers : s.coversCounted → t.coversCounted
  closes : s.noLockedClose → t.noLockedClose
  claim : s.changeover.claimHeld → t.changeover.claimHeld
  queue : s.queueHoldsTheShed → t.queueHoldsTheShed

/-- The fields that the five invariants read. -/
def Parts.watched (s : Parts) :=
  (s.store.lockouts, s.lockouts, s.switching.devices, s.protection.elements, (s.changeover.claim, s.changeover.sides),
    (s.load.blocks, s.load.queue))

section
variable {r s t : Parts}

theorem Parts.Keeps.refl : s.Keeps s := ⟨id, id, id, id, id⟩

theorem Parts.Keeps.trans (h : r.Keeps s) (k : s.Keeps t) : r.Keeps t :=
  ⟨k.accumulators ∘ h.accumulators, k.covers ∘ h.covers, k.closes ∘ h.closes, k.claim ∘ h.claim, k.queue ∘ h.queue⟩

/-- An update of fields that no invariant reads. -/
theorem Parts.Keeps.frame (h : r.Keeps s) (e : t.watched = s.watched) : r.Keeps t := by
  refine h.trans ?_
  simp only [Parts.watched, Prod.mk.injEq] at e
  obtain ⟨records, table, devices, elements, ⟨claim, sides⟩, blocks, queue⟩ := e
  refine ⟨?_, ?_, ?_, ?_, ?_⟩
  · simp only [ProtectionUnit.accumulatorLaw, elements, imp_self]
  · have covered : t.slotCovers = s.slotCovers := by funext d k; simp only [Parts.slotCovers, records]
    simp only [Parts.coversCounted, covered, records, table, imp_self]
  · simp only [Parts.noLockedClose, Parts.isLocked, Parts.isPending, devices, table, imp_self]
  · simp only [ChangeoverUnit.claimHeld, claim, sides, imp_self]
  · simp only [Parts.queueHoldsTheShed, queueBefore, Parts.priorityOf, blocks, queue]
    exact id

theorem Parts.Keeps.ite {c : Prop} [Decidable c] (h : r.Keeps s) (k : r.Keeps t) : r.Keeps (if c then s else t) := by
  split
  · exact h
  · exact k

/-- A fold keeps what each of its steps keeps. -/
theorem Parts.Keeps.foldl {α : Type} {f : Parts → α → Parts} (step : ∀ {u} a, r.Keeps u → r.Keeps (f u a)) (l : List α)
    (h : r.Keeps s) : r.Keeps (l.foldl f s) := by
  induction l generalizing s with
  | nil => exact h
  | cons a l ih => exact ih (step a h)

/-- The blocks after an operation that answers something beside them. -/
theorem Parts.Keeps.fst {β : Type} {p : Parts × β} {x : β} (h : r.Keeps p.1) (e : p = (s, x)) : r.Keeps s := by
  subst e; exact h

theorem Parts.Keeps.elim {α : Type} {f : α → Parts} {o : Option α} (h : r.Keeps s) (k : ∀ a, r.Keeps (f a)) :
    r.Keeps (o.elim s f) := by
  cases o with
  | none => exact h
  | some a => exact k a

/-! ## Notices, marks, flags and the hold-reason set -/

theorem send_keeps (h : r.Keeps s) {n : Notice} : r.Keeps (s.send n) := h.frame rfl
theorem sendAll_keeps (h : r.Keeps s) {ns : List Notice} : r.Keeps (s.sendAll ns) := h.frame rfl
theorem mark_keeps (h : r.Keeps s) {i : StoreIndex} : r.Keeps (s.mark i) := h.frame rfl
theorem unmark_keeps (h : r.Keeps s) {i : StoreIndex} : r.Keeps (s.unmark i) := h.frame rfl
theorem raise_keeps (h : r.Keeps s) {f : AttentionFlag} : r.Keeps (s.raise f) := h.frame rfl
theorem markIf_keeps (h : r.Keeps s) {b : Bool} {i : StoreIndex} : r.Keeps (s.markIf b i) := .ite (mark_keeps h) h

theorem addHold_keeps (h : r.Keeps s) {x : HoldReason} : r.Keeps (s.addHold x) := .ite h (h.frame rfl)

theorem removeHold_keeps (h : r.Keeps s) {x : HoldReason} : r.Keeps (s.removeHold x) :=
  .ite h (.ite (h.frame rfl) (h.frame rfl))

/-! ## Checks of records -/

variable {α : Type} [DecidableEq α]

/-- A check on use keeps what its write, its flag and mark, and its owner's fallback keep. -/
theorem useHeld_preserves {P : Parts → Prop} {o : Option (Held α)} {put : Held α → Parts → Parts} {i : StoreIndex}
    {fallback : Parts → Parts} (written : ∀ {u} x, P u → P (put x u)) (told : ∀ {u}, P u → P ((u.raise .record).mark i))
    (falls : ∀ {u}, P u → P (fallback u)) (h : P s) : P (useHeld o put i fallback s).1 := by
  unfold useHeld checkHeld
  repeat' split
  · exact h
  · exact h
  · exact h
  · exact told (written _ h)
  · exact falls (told (written _ h))

theorem useHeld_keeps {o : Option (Held α)} {put : Held α → Parts → Parts} {i : StoreIndex} {fallback : Parts → Parts}
    (written : ∀ {u} x, r.Keeps u → r.Keeps (put x u)) (falls : ∀ {u}, r.Keeps u → r.Keeps (fallback u))
    (h : r.Keeps s) : r.Keeps (useHeld o put i fallback s).1 :=
  useHeld_preserves written (fun k => mark_keeps (raise_keeps k)) falls h

theorem useDevice_keeps (h : r.Keeps s) {d : DeviceId} : r.Keeps (useDevice d s).1 :=
  useHeld_keeps (fun _ k => k.frame rfl) id h

/-! ## The Topology Map -/

theorem recompute_keeps (h : r.Keeps s) : r.Keeps (recompute s) := .ite (h.frame rfl) (h.frame rfl)
theorem takeConducting_keeps (h : r.Keeps s) {d : DeviceId} : r.Keeps (takeConducting s d) := recompute_keeps (h.frame rfl)
theorem reviewClass_keeps (h : r.Keeps s) {b : BusId} : r.Keeps (reviewClass s b) :=
  .ite h (recompute_keeps (h.frame rfl))
theorem topologyPoint_keeps (h : r.Keeps s) {p : PointId} : r.Keeps (topologyPoint p s) :=
  .foldl (fun _ k => .ite (reviewClass_keeps k) k) _ h
theorem busDamaged_keeps (h : r.Keeps s) {b : BusId} : r.Keeps (busDamaged b s) :=
  .ite h (recompute_keeps ((addHold_keeps h).frame rfl))

end
end Sys2Proof.Machine

namespace Sys2Proof.Machine

/-! ## The Switching Unit -/

section
variable {r s t : Parts}

/-- A write of a device that does not make it CLOSING keeps the invariants. -/
theorem setDevice_keeps (h : r.Keeps s) {d : DeviceId} {x : DeviceLive}
    (hx : x.state = .closing → s.switching.devices[d].state = .closing ∨ s.isLocked d = false) :
    r.Keeps (s.setDevice d x) := by
  refine h.trans ⟨?_, ?_, fun free e => ?_, ?_, ?_⟩
  · simp only [Parts.setDevice_protection, imp_self]
  · have covered : (s.setDevice d x).slotCovers = s.slotCovers := by
      funext d k; simp only [Parts.slotCovers, Parts.setDevice_store]
    simp only [Parts.coversCounted, covered, Parts.setDevice_store, Parts.setDevice_lockouts, imp_self]
  · have locked : ∀ d', (s.setDevice d x).isLocked d' = s.isLocked d' := fun d' => by
      simp only [Parts.isLocked, Parts.isPending, Parts.setDevice_lockouts]
    rw [locked, Parts.setDevice_switching]
    intro closing
    by_cases he : d = e
    · subst he
      rw [getElem_set_fin_self] at closing
      exact (hx closing).elim (free d) id
    · rw [getElem_set_fin_ne _ _ _ _ he] at closing
      exact free e closing
  · simp only [Parts.setDevice_changeover, imp_self]
  · simp only [Parts.queueHoldsTheShed, queueBefore, Parts.priorityOf, Parts.setDevice_load]
    exact id

theorem setDevice_keeps_state (h : r.Keeps s) {d : DeviceId} {x : DeviceLive}
    (hx : x.state = s.switching.devices[d].state) : r.Keeps (s.setDevice d x) :=
  setDevice_keeps h fun e => .inl (hx ▸ e)

theorem setDevice_keeps_ne (h : r.Keeps s) {d : DeviceId} {x : DeviceLive} (hx : x.state ≠ .closing) :
    r.Keeps (s.setDevice d x) := setDevice_keeps h fun e => absurd e hx

theorem sendPosition_keeps (h : r.Keeps s) {d : DeviceId} {p : Position} {c : Cause} : r.Keeps (s.sendPosition d p c) :=
  sendAll_keeps h

theorem sendConducting_keeps (h : r.Keeps s) {before : Parts} {d : DeviceId} : r.Keeps (s.sendConducting before d) := by
  have told : r.Keeps (if allGenerators.any fun g => before.generatorLive g != s.generatorLive g then s.send .source else s) :=
    .ite (send_keeps h) h
  exact .ite (send_keeps told) told

theorem sendCompletion_keeps (h : r.Keeps s) {x : DeviceLive} {d : DeviceId} {w : Result} {a : Action} :
    r.Keeps (s.sendCompletion x d w a) := by
  unfold Parts.sendCompletion
  split
  · exact send_keeps h
  · exact h

theorem storeRefusal_keeps (h : r.Keeps s) {d : DeviceId} {w : Refused} : r.Keeps (storeRefusal s d w) :=
  setDevice_keeps_state h rfl

/-- The chain accepts no close of a locked device (R26 step 7). -/
theorem closeChain_accepted {d : DeviceId} {q : Requester} {au : Authorisations} {x : Option DeviceSettings}
    (h : closeChain s d q au x = .accepted) : s.isLocked d = false := by
  cases locked : s.isLocked d with
  | false => rfl
  | true =>
    simp only [closeChain, locked, if_true] at h
    repeat' split at h
    all_goals exact absurd h (by simp)

theorem acceptClose_keeps (h : r.Keeps s) {d : DeviceId} {q : Requester} {au : Authorisations} {n : Nat}
    (free : s.isLocked d = false) : r.Keeps (acceptClose s d q au n) :=
  takeConducting_keeps (setDevice_keeps h fun _ => .inr free)

theorem closeRequest_keeps (h : r.Keeps s) {d : DeviceId} {q : Requester} {au : Authorisations} :
    r.Keeps (closeRequest d q au s).1 := by
  have read := useDevice_keeps h (d := d)
  unfold closeRequest
  dsimp only
  split
  · exact storeRefusal_keeps h
  · split
    next accepted => exact acceptClose_keeps read (closeChain_accepted accepted)
    next => exact read
    next => exact storeRefusal_keeps read

theorem startOpening_keeps (h : r.Keeps s) {d : DeviceId} {q : Requester} {n : Nat} :
    r.Keeps (startOpening s d q n) :=
  .ite (sendCompletion_keeps (setDevice_keeps_ne h (by nofun))) (setDevice_keeps_ne h (by nofun))

theorem openRequest_keeps (h : r.Keeps s) {d : DeviceId} {q : Requester} : r.Keeps (openRequest d q s).1 := by
  have read := useDevice_keeps h (d := d)
  unfold openRequest
  dsimp only
  repeat' split
  · exact storeRefusal_keeps h
  · exact h
  · exact setDevice_keeps_state read rfl
  · exact h
  · exact storeRefusal_keeps h
  · exact startOpening_keeps read

theorem sendOpen_keeps (h : r.Keeps s) {d : DeviceId} {q : Requester} : r.Keeps (sendOpen d q s) := openRequest_keeps h

theorem endDone_keeps (h : r.Keeps s) {before : Parts} {d : DeviceId} {st : DeviceState} {p : Position} {a : Action}
    (hst : st ≠ .closing) : r.Keeps (endDone before s d st p a) := by
  have ended := sendCompletion_keeps (setDevice_keeps_ne h hst (d := d) (x := s.switching.devices[d].ended st))
    (x := s.switching.devices[d]) (d := d) (w := .done) (a := a)
  unfold endDone
  dsimp only
  refine sendConducting_keeps ?_
  split
  · exact sendPosition_keeps ended
  · exact ended

theorem closeLimitExpires_keeps (h : r.Keeps s) {d : DeviceId} : r.Keeps (closeLimitExpires d s) :=
  .ite (sendConducting_keeps (sendCompletion_keeps (raise_keeps (setDevice_keeps_ne h (by nofun))))) h

theorem openTimerExpires_keeps (h : r.Keeps s) {d : DeviceId} : r.Keeps (openTimerExpires d s) := by
  refine .ite (.ite (endDone_keeps h (by nofun)) ?_) h
  have failed := sendCompletion_keeps (x := s.switching.devices[d]) (d := d) (w := .failed) (a := .open)
    (raise_keeps (f := .device) (setDevice_keeps_ne h (by nofun) (d := d)
      (x := { s.switching.devices[d].ended .failed with failure := some .failedOpen })))
  refine sendConducting_keeps ?_
  split
  · exact .ite (send_keeps failed) failed
  · exact failed

theorem persistenceExpires_keeps (h : r.Keeps s) {d : DeviceId} : r.Keeps (persistenceExpires d s) :=
  .ite (raise_keeps (setDevice_keeps_ne h (by nofun))) h

theorem startPersistence_keeps (h : r.Keeps s) {d : DeviceId} : r.Keeps (startPersistence s d) :=
  .ite h (setDevice_keeps_state h rfl)

theorem takePosition_keeps (h : r.Keeps s) {before : Parts} {d : DeviceId} : r.Keeps (takePosition before d s) := by
  unfold takePosition
  generalize hv : s.switching.devices[d] = v
  generalize s.position d = p
  have same : v.state = s.switching.devices[d].state := by rw [hv]
  dsimp only
  split
  · exact endDone_keeps h nofun
  · exact endDone_keeps h nofun
  · exact sendConducting_keeps (setDevice_keeps_state h (by exact same))
  · exact sendConducting_keeps (setDevice_keeps_state h (by exact same))
  · have closed := setDevice_keeps_ne h (d := d) (x := { v with
      state := .closed, persistence := .stopped,
      discrepancy := v.discrepancy || s.switching.authority == .remoteControl }) nofun
    exact sendConducting_keeps (sendPosition_keeps (.ite (raise_keeps closed) closed))
  · exact sendConducting_keeps (sendPosition_keeps (setDevice_keeps_ne h (by nofun)))
  · exact sendConducting_keeps (startPersistence_keeps h)
  · exact sendConducting_keeps (startPersistence_keeps h)
  · exact sendConducting_keeps (.ite (sendPosition_keeps h) h)
  · exact sendConducting_keeps (sendPosition_keeps (setDevice_keeps_ne h (by nofun)))
  · exact sendConducting_keeps (sendPosition_keeps (setDevice_keeps_ne h (by nofun)))
  · exact sendConducting_keeps h

theorem takeInput_keeps (h : r.Keeps s) {d : DeviceId} {i : DeviceInput} {b : Bool} : r.Keeps (takeInput d i b s) := by
  have seen := setDevice_keeps_state h (d := d)
    (x := { s.switching.devices[d] with pattern := putInput s.switching.devices[d].pattern i b }) rfl
  have flagged : ∀ c : Prop, [Decidable c] → r.Keeps (if c then Parts.raise _ .device else _) := fun _ =>
    .ite (raise_keeps seen) seen
  exact .ite h (.ite seen (.ite (flagged _) (takePosition_keeps (flagged _))))

theorem stateOfPosition_ne_closing (p : Position) : stateOfPosition p ≠ .closing := by cases p <;> nofun

theorem placeDevice_keeps (h : r.Keeps s) {d : DeviceId} : r.Keeps (placeDevice d s) := by
  have placed := setDevice_keeps_ne h (d := d)
    (x := s.switching.devices[d].placed (stateOfPosition (s.position d))) (stateOfPosition_ne_closing _)
  exact .ite (.ite (raise_keeps placed) placed) (setDevice_keeps_ne h (by nofun))

theorem replaceDevice_keeps (h : r.Keeps s) {d : DeviceId} : r.Keeps (replaceDevice d s) :=
  .ite (sendConducting_keeps (placeDevice_keeps h)) h

theorem acknowledgeDevice_keeps (h : r.Keeps s) {d : DeviceId} : r.Keeps (acknowledgeDevice d s).1 := by
  have ended := setDevice_keeps_ne h (d := d)
    (x := { s.switching.devices[d] with
      state := stateOfPosition (s.position d), failure := none, discrepancy := false }) (stateOfPosition_ne_closing _)
  unfold acknowledgeDevice
  dsimp only
  split
  · refine sendConducting_keeps ?_
    split
    · exact sendPosition_keeps ended
    · exact sendPosition_keeps ended
    · exact ended
  · split
    · exact setDevice_keeps_state h rfl
    · exact h
  · split
    · exact setDevice_keeps_state h rfl
    · exact h
  · split
    · exact setDevice_keeps_state h rfl
    · exact h
  · exact h

theorem assertIntertrip_keeps (h : r.Keeps s) {i : SideId} {d : DeviceId} : r.Keeps (assertIntertrip i d s) :=
  .ite (h.frame rfl) (h.frame rfl)

theorem releaseIntertripOf_keeps (h : r.Keeps s) {i : SideId} : r.Keeps (releaseIntertripOf i s).1 := by
  unfold releaseIntertripOf
  repeat' split
  · exact h
  · exact h.frame rfl
  · exact h

end
end Sys2Proof.Machine

namespace Sys2Proof.Machine

/-! ## Cover counts (R64) -/

section

/-- A record counted against the devices of its set as last written. -/
def coversBy (o : Option (Held LockoutSettings)) (d : DeviceId) : Bool :=
  match o with
  | some h => !h.retired && h.integrity != .damaged && (writtenSet h).contains d
  | none => false

theorem Parts.slotCovers_eq (s : Parts) (d : DeviceId) (k : SlotId) : s.slotCovers d k = coversBy s.store.lockouts[k] d := rfl

/-- Two predicates that differ at most at one member of a list without repetition. -/
theorem countP_except {α : Type} {p q : α → Bool} {l : List α} {k : α} (nodup : l.Nodup) (mem : k ∈ l)
    (same : ∀ x, x ≠ k → p x = q x) : l.countP p + (q k).toNat = l.countP q + (p k).toNat := by
  induction l with
  | nil => cases mem
  | cons a l ih =>
    obtain ⟨fresh, nodup⟩ := List.nodup_cons.mp nodup
    have toNat : ∀ (f : α → Bool) x, (if f x = true then 1 else 0) = (f x).toNat := fun f x => by cases f x <;> rfl
    simp only [List.countP_cons, toNat]
    rcases List.mem_cons.mp mem with rfl | mem
    · have rest : l.countP p = l.countP q := List.countP_congr fun x hx => by
        rw [same x fun e => fresh (e ▸ hx)]
      omega
    · have other : a ≠ k := fun e => fresh (e ▸ mem)
      have := ih nodup mem
      rw [same a other]
      omega

/-- A count changed for each device of a list without repetition. -/
theorem foldl_set_getElem {f : Nat → Nat} {ds : List DeviceId} (nodup : ds.Nodup) (v : Vector Nat 48) (d : DeviceId) :
    (ds.foldl (fun counts (d : DeviceId) => counts.set d (f counts[d])) v)[d] =
      if ds.contains d then f v[d] else v[d] := by
  induction ds generalizing v with
  | nil => simp
  | cons a ds ih =>
    obtain ⟨fresh, nodup⟩ := List.nodup_cons.mp nodup
    rw [List.foldl_cons, ih nodup]
    by_cases e : a = d
    · subst e
      simp only [List.contains_cons, beq_self_eq_true, Bool.true_or, if_true, getElem_set_fin_self]
      simp [fresh]
    · have e' : (d == a) = false := by simpa using Ne.symm e
      simp only [List.contains_cons, e', Bool.false_or, getElem_set_fin_ne _ _ _ _ e]

theorem countIn_cover {ds : List DeviceId} (nodup : ds.Nodup) (s : Parts) (d : DeviceId) :
    (countIn ds s).lockouts.cover[d] = s.lockouts.cover[d] + (ds.contains d).toNat := by
  refine (foldl_set_getElem (f := (· + 1)) nodup _ d).trans ?_
  cases ds.contains d <;> rfl

theorem countOut_cover {ds : List DeviceId} (nodup : ds.Nodup) (s : Parts) (d : DeviceId) :
    (countOut ds s).lockouts.cover[d] = s.lockouts.cover[d] - (ds.contains d).toNat := by
  refine (foldl_set_getElem (f := (· - 1)) nodup _ d).trans ?_
  cases ds.contains d <;> rfl

/-- Counting out never covers a device. -/
theorem countOut_cover_le (ds : List DeviceId) (s : Parts) (d : DeviceId) :
    (countOut ds s).lockouts.cover[d] ≤ s.lockouts.cover[d] := by
  unfold countOut changeCover
  dsimp only
  generalize s.lockouts.cover = v
  induction ds generalizing v with
  | nil => exact le_rfl
  | cons a ds ih =>
    refine (ih _).trans ?_
    by_cases e : a = d
    · subst e; rw [getElem_set_fin_self]; omega
    · rw [getElem_set_fin_ne _ _ _ _ e]

/-- One record written and the counts moved by what it covers before and after: they stay the counts of the records. -/
theorem Parts.coversCounted.written {s t : Parts} {k : SlotId} {o : Option (Held LockoutSettings)} (h : s.coversCounted)
    (store : t.store.lockouts = s.store.lockouts.set k o)
    (sound : ∀ x, o = some x → x.retired = false ∧ (writtenSet x).Nodup)
    (moved : ∀ d, (coversBy s.store.lockouts[k] d).toNat ≤ s.lockouts.cover[d] →
      t.lockouts.cover[d] + (coversBy s.store.lockouts[k] d).toNat = s.lockouts.cover[d] + (coversBy o d).toNat) :
    t.coversCounted := by
  obtain ⟨records, counts⟩ := h
  have at_k : t.store.lockouts[k] = o := by rw [store, getElem_set_fin_self]
  have beside : ∀ j, j ≠ k → t.store.lockouts[j] = s.store.lockouts[j] := fun j hj => by
    rw [store, getElem_set_fin_ne _ _ _ _ (Ne.symm hj)]
  refine ⟨fun j x hx => ?_, fun d => ?_⟩
  · by_cases hj : j = k
    · subst hj; exact sound x (at_k ▸ hx)
    · exact records j x (beside j hj ▸ hx)
  · have counted := countP_except (p := t.slotCovers d) (q := s.slotCovers d) (l := allSlots) (k := k)
      (List.nodup_finRange 32) (List.mem_finRange k) fun j hj => by
        rw [Parts.slotCovers_eq, Parts.slotCovers_eq, beside j hj]
    rw [Parts.slotCovers_eq, Parts.slotCovers_eq, at_k, ← counts d] at counted
    have := moved d
    have least : (coversBy s.store.lockouts[k] d).toNat ≤ s.lockouts.cover[d] := by
      rw [counts d, ← Parts.slotCovers_eq]
      cases covers : s.slotCovers d k with
      | false => exact Nat.zero_le _
      | true => exact List.countP_pos_iff.mpr ⟨k, List.mem_finRange k, covers⟩
    have := moved d least
    omega

/-! ## Updates of the Lockout Table -/

/-- The watched fields beside the Lockout Table's. -/
def Parts.beside (s : Parts) :=
  (s.switching.devices, s.protection.elements, (s.changeover.claim, s.changeover.sides), (s.load.blocks, s.load.queue))

/-- An update of the Lockout Table and its records alone, that keeps the counts. -/
structure Parts.Locks (s t : Parts) : Prop where
  beside : t.beside = s.beside
  counted : s.coversCounted → t.coversCounted

variable {r s t : Parts}

theorem Parts.Locks.refl : s.Locks s := ⟨rfl, id⟩

theorem Parts.Locks.trans (h : r.Locks s) (k : s.Locks t) : r.Locks t :=
  ⟨k.beside.trans h.beside, k.counted ∘ h.counted⟩

/-- An update of the Lockout Table that locks no device. -/
theorem Parts.Locks.keeps (k : s.Locks t) (lower : ∀ d, t.isLocked d = true → s.isLocked d = true) : s.Keeps t := by
  obtain ⟨beside, counted⟩ := k
  simp only [Parts.beside, Prod.mk.injEq] at beside
  obtain ⟨devices, elements, ⟨claim, sides⟩, blocks, queue⟩ := beside
  refine ⟨?_, counted, fun free d closing => ?_, ?_, ?_⟩
  · simp only [ProtectionUnit.accumulatorLaw, elements, imp_self]
  · rw [devices] at closing
    have unlocked := free d closing
    cases locked : t.isLocked d with
    | false => rfl
    | true => rw [lower d locked] at unlocked; cases unlocked
  · simp only [ChangeoverUnit.claimHeld, claim, sides, imp_self]
  · simp only [Parts.queueHoldsTheShed, queueBefore, Parts.priorityOf, blocks, queue]
    exact id

/-! ## The abort of a locked close (R65) -/

theorem useDevice_switching (d : DeviceId) (s : Parts) : (useDevice d s).1.switching = s.switching := by
  obtain ⟨ds, a, e⟩ := useDevice_writes d s
  rw [e]

theorem useDevice_lockouts (d : DeviceId) (s : Parts) : (useDevice d s).1.lockouts = s.lockouts := by
  obtain ⟨ds, a, e⟩ := useDevice_writes d s
  rw [e]

@[simp] theorem sendCompletion_switching (s : Parts) (x : DeviceLive) (d : DeviceId) (w : Result) (a : Action) :
    (s.sendCompletion x d w a).switching = s.switching := by unfold Parts.sendCompletion; split <;> rfl
@[simp] theorem sendCompletion_lockouts (s : Parts) (x : DeviceLive) (d : DeviceId) (w : Result) (a : Action) :
    (s.sendCompletion x d w a).lockouts = s.lockouts := by unfold Parts.sendCompletion; split <;> rfl

theorem startOpening_lockouts (s : Parts) (d : DeviceId) (q : Requester) (n : Nat) :
    (startOpening s d q n).lockouts = s.lockouts := by
  simp only [startOpening, apply_ite Parts.lockouts, sendCompletion_lockouts, Parts.setDevice_lockouts, ite_self]

theorem startOpening_state (s : Parts) (d : DeviceId) (q : Requester) (n : Nat) :
    (startOpening s d q n).switching.devices[d].state = .opening := by
  simp only [startOpening, apply_ite Parts.switching, sendCompletion_switching, Parts.setDevice_switching, ite_self,
    getElem_set_fin_self]

theorem startOpening_other (s : Parts) {d e : DeviceId} (q : Requester) (n : Nat) (h : d ≠ e) :
    (startOpening s d q n).switching.devices[e] = s.switching.devices[e] := by
  simp only [startOpening, apply_ite Parts.switching, sendCompletion_switching, Parts.setDevice_switching, ite_self,
    getElem_set_fin_ne _ _ _ _ h]

/-- The open that LOCKOUT sends to a CLOSING device starts. -/
theorem sendOpen_closing {d : DeviceId} {s : Parts} (h : s.switching.devices[d].state = .closing) :
    sendOpen d .lockout s = startOpening (useDevice d s).1 d .lockout (openTime .lockout (useDevice d s).2) := by
  simp [-Fin.getElem_fin, sendOpen, openRequest, h]

/-- The abort of one device's close. -/
def abortOne (s : Parts) (d : DeviceId) : Parts :=
  if s.switching.devices[d].state = .closing ∧ s.isLocked d then sendOpen d .lockout s else s

theorem abortLocked_eq (s : Parts) : abortLocked s = allDevices.foldl abortOne s := rfl

theorem isLocked_congr (e : t.lockouts = s.lockouts) (d : DeviceId) : t.isLocked d = s.isLocked d := by
  simp only [Parts.isLocked, Parts.isPending, e]

/-- An abort leaves the table, makes no device CLOSING, and leaves its own CLOSING only where it is not locked. -/
theorem abortOne_closing (a : DeviceId) (s : Parts) :
    (abortOne s a).lockouts = s.lockouts ∧ ∀ d, (abortOne s a).switching.devices[d].state = .closing →
      s.switching.devices[d].state = .closing ∧ (d = a → s.isLocked d = false) := by
  unfold abortOne
  split
  next c =>
    rw [sendOpen_closing c.1]
    refine ⟨(startOpening_lockouts ..).trans (useDevice_lockouts a s), fun d closing => ?_⟩
    by_cases e : a = d
    · subst e; rw [startOpening_state] at closing; cases closing
    · rw [startOpening_other _ _ _ e, useDevice_switching] at closing
      exact ⟨closing, fun f => absurd f.symm e⟩
  next c =>
    refine ⟨rfl, fun d closing => ⟨closing, fun e => ?_⟩⟩
    subst e
    simpa [-Fin.getElem_fin, closing] using c

theorem foldl_abortOne_closing (l : List DeviceId) (s : Parts) :
    (l.foldl abortOne s).lockouts = s.lockouts ∧ ∀ d, (l.foldl abortOne s).switching.devices[d].state = .closing →
      s.switching.devices[d].state = .closing ∧ (d ∈ l → s.isLocked d = false) := by
  induction l generalizing s with
  | nil => exact ⟨rfl, fun d h => ⟨h, nofun⟩⟩
  | cons a l ih =>
    obtain ⟨table, before⟩ := abortOne_closing a s
    obtain ⟨table', after⟩ := ih (abortOne s a)
    refine ⟨table'.trans table, fun d closing => ?_⟩
    obtain ⟨closing', rest⟩ := after d closing
    obtain ⟨closing'', first⟩ := before d closing'
    rw [isLocked_congr table] at rest
    exact ⟨closing'', fun mem => (List.mem_cons.mp mem).elim first rest⟩

theorem abortLocked_free (s : Parts) : (abortLocked s).noLockedClose := fun d closing => by
  rw [abortLocked_eq] at closing ⊢
  obtain ⟨table, after⟩ := foldl_abortOne_closing allDevices s
  rw [isLocked_congr table]
  exact (after d closing).2 (List.mem_finRange d)

theorem abortLocked_keeps (h : r.Keeps s) : r.Keeps (abortLocked s) := .foldl (fun _ k => .ite (sendOpen_keeps k) k) _ h

/-- An update of the Lockout Table followed by the aborts of R65. -/
theorem Parts.Locks.aborted (k : s.Locks t) : s.Keeps (abortLocked t) := by
  have aborts : t.Keeps (abortLocked t) := abortLocked_keeps .refl
  obtain ⟨beside, counted⟩ := k
  simp only [Parts.beside, Prod.mk.injEq] at beside
  obtain ⟨-, elements, ⟨claim, sides⟩, blocks, queue⟩ := beside
  refine ⟨fun law => aborts.accumulators ?_, aborts.covers ∘ counted, fun _ => abortLocked_free t,
    fun held => aborts.claim ?_, fun holds => aborts.queue ?_⟩
  · simpa only [ProtectionUnit.accumulatorLaw, elements] using law
  · simpa only [ChangeoverUnit.claimHeld, claim, sides] using held
  · simp only [Parts.queueHoldsTheShed, queueBefore, Parts.priorityOf, blocks, queue]
    exact holds

end
end Sys2Proof.Machine

namespace Sys2Proof.Machine

/-! ## Sets in ascending order -/

theorem insertAscending_perm {n : Nat} {x : Fin n} {l : List (Fin n)} (h : x ∉ l) : (insertAscending x l).Perm (x :: l) := by
  induction l with
  | nil => exact .refl _
  | cons y l ih =>
    obtain ⟨other, rest⟩ := not_or.mp (mt List.mem_cons.mpr h)
    unfold insertAscending
    rw [if_neg other]
    split
    · exact .refl _
    · exact ((ih rest).cons y).trans (.swap x y l)

/-- Fresh members put into a list one by one. -/
theorem insertAll_perm {n : Nat} {xs l : List (Fin n)} (nodup : xs.Nodup) (fresh : ∀ x ∈ xs, x ∉ l) :
    (xs.foldl (fun acc x => insertAscending x acc) l).Perm (xs ++ l) := by
  induction xs generalizing l with
  | nil => exact .refl _
  | cons x xs ih =>
    obtain ⟨unique, nodup⟩ := List.nodup_cons.mp nodup
    have placed := insertAscending_perm (fresh x List.mem_cons_self)
    refine (ih nodup fun y hy => ?_).trans ((placed.append_left xs).trans List.perm_middle)
    rw [placed.mem_iff, List.mem_cons, not_or]
    exact ⟨fun e => unique (e ▸ hy), fresh y (List.mem_cons_of_mem x hy)⟩

theorem insertAscending_sorted {n : Nat} {x : Fin n} {l : List (Fin n)} (h : l.Pairwise (· < ·)) :
    (insertAscending x l).Pairwise (· < ·) ∧ ∀ y ∈ insertAscending x l, y = x ∨ y ∈ l := by
  induction l with
  | nil => simp [insertAscending]
  | cons a l ih =>
    obtain ⟨first, rest⟩ := List.pairwise_cons.mp h
    obtain ⟨sorted, members⟩ := ih rest
    unfold insertAscending
    split
    next before =>
      refine ⟨List.pairwise_cons.mpr ⟨fun y hy => ?_, h⟩, fun y hy => List.mem_cons.mp hy⟩
      rcases List.mem_cons.mp hy with rfl | hy
      · exact before
      · exact before.trans (first y hy)
    next after =>
      split
      next => exact ⟨h, fun y hy => .inr hy⟩
      next other =>
        refine ⟨List.pairwise_cons.mpr ⟨fun y hy => ?_, sorted⟩, fun y hy => ?_⟩
        · rcases members y hy with rfl | hy
          · exact lt_of_le_of_ne (not_lt.mp after) (Ne.symm other)
          · exact first y hy
        · rcases List.mem_cons.mp hy with rfl | hy
          · exact .inr List.mem_cons_self
          · exact (members y hy).imp_right (List.mem_cons_of_mem a)

theorem ascending_nodup {n : Nat} (xs : List (Fin n)) : (ascending xs).Nodup := by
  have sorted : ∀ l : List (Fin n), l.Pairwise (· < ·) →
      (xs.foldl (fun acc x => insertAscending x acc) l).Pairwise (· < ·) := by
    induction xs with
    | nil => exact fun _ h => h
    | cons x xs ih => exact fun l h => ih _ (insertAscending_sorted h).1
  exact (sorted [] .nil).imp fun h => h.ne

theorem nodup_of_distinct {α : Type} [DecidableEq α] {l : List α} (h : distinct l = true) : l.Nodup := by
  induction l with
  | nil => exact .nil
  | cons a l ih =>
    simp only [distinct, Bool.and_eq_true, Bool.not_eq_true', List.contains_eq_mem, decide_eq_false_iff_not] at h
    exact List.nodup_cons.mpr ⟨h.1, ih h.2⟩

/-- The devices a list of index bytes names have those bytes as their values. -/
theorem devicesNamed_map {ds : List Nat} {named : List DeviceId} (h : devicesNamed ds = some named) :
    named.map Fin.val = ds := by
  induction ds generalizing named with
  | nil => cases h; rfl
  | cons d ds ih =>
    simp only [devicesNamed, List.foldr_cons] at h
    obtain ⟨x, hx, h⟩ := Option.bind_eq_some_iff.mp h
    obtain ⟨xs, hxs, h⟩ := Option.bind_eq_some_iff.mp h
    cases h
    have value : x.val = d := by
      unfold index? at hx
      split at hx
      · cases hx; rfl
      · cases hx
    rw [List.map_cons, value, ih hxs]

theorem devicesNamed_nodup {ds : List Nat} {named : List DeviceId} (h : devicesNamed ds = some named)
    (unique : distinct ds = true) : named.Nodup :=
  .of_map Fin.val (by rw [devicesNamed_map h]; exact nodup_of_distinct unique)

/-! ## Reading and writing lockout records -/

section
variable {r s t : Parts}

theorem coversBy_active {x : Held LockoutSettings} (live : x.retired = false) (d : DeviceId) :
    coversBy (some x) d = (x.integrity != .damaged && (writtenSet x).contains d) := by
  simp only [coversBy, live, Bool.not_false, Bool.true_and]

/-- A record written over another that covers the same devices. -/
theorem putLockout_locks {k : SlotId} {h x : Held LockoutSettings} (stored : s.store.lockouts[k] = some h)
    (life : x.retired = h.retired) (set : writtenSet x = writtenSet h)
    (covers : (x.integrity != .damaged) = (h.integrity != .damaged)) : s.Locks (s.putLockout k (some x)) := by
  refine ⟨rfl, fun counted => counted.written rfl (fun y e => ?_) fun d _ => ?_⟩
  · cases e
    rw [life, set]
    exact counted.1 k h stored
  · simp only [stored, coversBy, life, set, covers, Parts.putLockout_lockouts]

theorem sendLockoutNotices_frame (before s : Parts) :
    (sendLockoutNotices before s).watched = s.watched ∧ (sendLockoutNotices before s).store = s.store := by
  unfold sendLockoutNotices
  split <;> exact ⟨rfl, rfl⟩

theorem addHold_frame (s : Parts) (x : HoldReason) : (s.addHold x).watched = s.watched ∧ (s.addHold x).store = s.store := by
  unfold Parts.addHold
  split <;> exact ⟨rfl, rfl⟩

theorem removeHold_frame (s : Parts) (x : HoldReason) :
    (s.removeHold x).watched = s.watched ∧ (s.removeHold x).store = s.store := by
  unfold Parts.removeHold
  dsimp only
  repeat' split
  all_goals exact ⟨rfl, rfl⟩

/-- An update of fields that no invariant reads is one of the Lockout Table that changes nothing. -/
theorem Parts.Locks.frame (h : r.Locks s) (e : t.watched = s.watched) : r.Locks t := by
  refine h.trans ⟨?_, ((Parts.Keeps.refl (s := s)).frame e).covers⟩
  simp only [Parts.watched, Prod.mk.injEq] at e
  obtain ⟨-, -, devices, elements, sides, load⟩ := e
  simp only [Parts.beside, Prod.mk.injEq]
  exact ⟨devices, elements, sides, load⟩

theorem Parts.watched_lockouts (e : t.watched = s.watched) : t.lockouts = s.lockouts := by
  simp only [Parts.watched, Prod.mk.injEq] at e
  exact e.2.1

/-- A record found INVALID is counted out (R70). -/
theorem damage_locks {k : SlotId} {h : Held LockoutSettings} (stored : s.store.lockouts[k] = some h)
    (intact : h.integrity ≠ .damaged) :
    s.Locks (countOut (writtenSet h.damage) (((s.putLockout k (some h.damage)).raise .record).mark (lockoutIndex k))) := by
  refine ⟨rfl, fun counted => counted.written (k := k) (o := some h.damage) rfl (fun x e => ?_) fun d least => ?_⟩
  · cases e; exact counted.1 k h stored
  · obtain ⟨live, nodup⟩ := counted.1 k h stored
    have covered : coversBy s.store.lockouts[k] d = (writtenSet h.damage).contains d := by
      rw [stored, coversBy_active live, bne_iff_ne.mpr intact, Bool.true_and]; rfl
    have gone : coversBy (some h.damage) d = false := by rw [coversBy_active (x := h.damage) live]; rfl
    rw [covered] at least
    rw [countOut_cover (ds := writtenSet h.damage) nodup, covered, gone]
    exact Nat.sub_add_cancel least

/-- What a check on use of a lockout record does: the counts keep to the records, no device is locked, and the record read
stands as it was written, DAMAGED where the check failed (R70). -/
structure LockoutRead (k : SlotId) (s t : Parts) : Prop where
  locks : s.Locks t
  pending : t.lockouts.pending = s.lockouts.pending
  lower : ∀ d : DeviceId, t.lockouts.cover[d] ≤ s.lockouts.cover[d]
  others : ∀ j, j ≠ k → t.store.lockouts[j] = s.store.lockouts[j]
  read : ∀ h, t.store.lockouts[k] = some h → h.integrity ≠ .damaged → h.settings = h.code.covers
  empty : s.store.lockouts[k] = none → t.store.lockouts[k] = none

theorem LockoutRead.unlocked {k : SlotId} (h : LockoutRead k s t) (d : DeviceId) (locked : t.isLocked d = true) :
    s.isLocked d = true := by
  simp only [Parts.isLocked, Parts.isPending, h.pending, Bool.or_eq_true, bne_iff_ne] at locked ⊢
  exact locked.imp_left fun c e => c (Nat.le_zero.mp (e ▸ h.lower d))

theorem useLockout_read (k : SlotId) (s : Parts) : LockoutRead k s (useLockout k s).1 := by
  have stays : ∀ {t : Parts}, t = s → (∀ h, s.store.lockouts[k] = some h → h.integrity ≠ .damaged →
      h.settings = h.code.covers) → LockoutRead k s t := by
    rintro _ rfl valid
    exact ⟨.refl, rfl, fun _ => le_rfl, fun _ _ => rfl, valid, id⟩
  unfold useLockout useHeld
  split
  next none => exact stays rfl fun h e => by rw [none] at e; cases e
  next h stored =>
    split
    next damaged => exact stays rfl fun x e => by rw [stored] at e; cases e; exact fun c => absurd damaged c
    next intact =>
      have self : ∀ x, (s.putLockout k x).store.lockouts[k] = x := fun x => getElem_set_fin_self _ _ _
      have other : ∀ x j, j ≠ k → (s.putLockout k x).store.lockouts[j] = s.store.lockouts[j] := fun x j hj =>
        getElem_set_fin_ne _ _ _ _ (Ne.symm hj)
      unfold checkHeld Held.outcome
      split
      next valid =>
        refine stays rfl fun x e _ => ?_
        rw [stored] at e
        cases e
        by_contra differs
        simp only [differs, if_false] at valid
        split at valid <;> cases valid
      next =>
        refine ⟨(putLockout_locks (x := h.restore) stored rfl rfl ?_).frame rfl, rfl, fun _ => le_rfl, other _, fun x e _ => ?_,
          fun e => by rw [stored] at e; cases e⟩
        · exact (bne_iff_ne.mpr intact).symm
        · cases (self _).symm.trans e; rfl
      next =>
        have found : (((s.putLockout k (some h.damage)).raise .record).mark (lockoutIndex k)).store.lockouts[k] =
            some h.damage := self _
        simp only [lockoutDamaged, found]
        generalize hu : ((s.putLockout k (some h.damage)).raise .record).mark (lockoutIndex k) = u
        obtain ⟨notified, notifiedStore⟩ := sendLockoutNotices_frame u
          (((countOut (writtenSet h.damage) u).addHold .lockoutDamaged).raise .lockout)
        obtain ⟨held, heldStore⟩ := addHold_frame (countOut (writtenSet h.damage) u) .lockoutDamaged
        have frame := notified.trans held
        have store : (sendLockoutNotices u (((countOut (writtenSet h.damage) u).addHold .lockoutDamaged).raise
            .lockout)).store = u.store := notifiedStore.trans heldStore
        have table := Parts.watched_lockouts frame
        subst hu
        refine ⟨Parts.Locks.frame ?_ frame, ?_, fun d => ?_, fun j hj => ?_, fun x e intact' => ?_,
          fun e => by rw [stored] at e; cases e⟩
        · exact damage_locks stored intact
        · rw [table]; rfl
        · rw [table]; exact countOut_cover_le _ _ d
        · rw [store]; exact other _ j hj
        · rw [store] at e
          cases (self _).symm.trans e
          exact absurd rfl intact'

theorem useLockout_keeps (h : r.Keeps s) {k : SlotId} : r.Keeps (useLockout k s).1 :=
  h.trans ((useLockout_read k s).locks.keeps (useLockout_read k s).unlocked)

end
end Sys2Proof.Machine

namespace Sys2Proof.Machine

/-! ## Placement (R63) -/

section
variable {r s t : Parts} {kd : LockoutKind} {o : LockoutOrigin}

/-- The merge targets of a kind and origin read as they were last written: what the reads of R63 establish. -/
def Parts.targetsRead (s : Parts) (kd : LockoutKind) (o : LockoutOrigin) : Prop :=
  ∀ (k : SlotId) h, s.store.lockouts[k] = some h → h.integrity ≠ .damaged → h.settings.kind = kd →
    h.settings.origin = o → h.settings = h.code.covers

theorem Parts.soundOf_some {k : SlotId} {x : LockoutSettings} (h : s.soundOf k kd o = some x) :
    ∃ y, s.store.lockouts[k] = some y ∧ y.integrity ≠ .damaged ∧ y.settings.kind = kd ∧ y.settings.origin = o ∧
      y.settings = x := by
  unfold Parts.soundOf at h
  split at h
  next y stored =>
    split at h
    next c => cases h; exact ⟨y, stored, c.1, c.2.1, c.2.2, rfl⟩
    next => cases h
  next => cases h

/-- The read of one merge target. -/
def readTarget (kd : LockoutKind) (o : LockoutOrigin) (s : Parts) (k : SlotId) : Parts :=
  if (s.soundOf k kd o).isSome then (useLockout k s).1 else s

theorem readTargets_eq : readTargets kd o s = allSlots.foldl (readTarget kd o) s := rfl

theorem readTarget_keeps (h : r.Keeps s) {k : SlotId} : r.Keeps (readTarget kd o s k) := .ite (useLockout_keeps h) h

theorem readTarget_locks (h : r.Locks s) {k : SlotId} : r.Locks (readTarget kd o s k) := by
  unfold readTarget
  split
  · exact h.trans (useLockout_read k s).locks
  · exact h

theorem readTargets_locks (h : r.Locks s) : r.Locks (readTargets kd o s) := by
  rw [readTargets_eq]
  generalize allSlots = l
  induction l generalizing s with
  | nil => exact h
  | cons k l ih => exact ih (readTarget_locks h)

/-- After the read of a slot its record is no target, or reads as it was last written; another's read leaves it so. -/
theorem foldl_readTarget_read (l : List SlotId) (s : Parts) (k : SlotId)
    (h : k ∈ l ∨ ∀ x, s.store.lockouts[k] = some x → x.integrity ≠ .damaged → x.settings.kind = kd →
      x.settings.origin = o → x.settings = x.code.covers) :
    ∀ x, (l.foldl (readTarget kd o) s).store.lockouts[k] = some x → x.integrity ≠ .damaged → x.settings.kind = kd →
      x.settings.origin = o → x.settings = x.code.covers := by
  induction l generalizing s with
  | nil => exact h.resolve_left nofun
  | cons j l ih =>
    refine ih _ ?_
    by_cases mem : k ∈ l
    · exact .inl mem
    · refine .inr fun x stored intact kind origin => ?_
      have read := useLockout_read j s
      unfold readTarget at stored
      by_cases same : k = j
      · subst same
        split at stored
        next => exact read.read x stored intact
        next none =>
          refine absurd ?_ none
          simp [-Fin.getElem_fin, Parts.soundOf, stored, intact, kind, origin]
      · have before := h.resolve_left fun e => (List.mem_cons.mp e).elim same mem
        split at stored
        · exact before x (read.others k same ▸ stored) intact kind origin
        · exact before x stored intact kind origin

theorem readTargets_read : (readTargets kd o s).targetsRead kd o := by
  intro k
  rw [readTargets_eq]
  exact foldl_readTarget_read allSlots s k (.inl (List.mem_finRange k))

/-- A record's set rewritten, as the Store then holds it. -/
theorem rewriteSet_stored {k : SlotId} {h : Held LockoutSettings} (stored : s.store.lockouts[k] = some h)
    (ds : List DeviceId) :
    rewriteSet k ds s = (s.putLockout k (some (h.rewrite { h.settings with devices := ds }))).mark (lockoutIndex k) := by
  simp only [rewriteSet, stored]

/-- Devices added to a record's set and counted in. -/
theorem addToSet_locks {k : SlotId} {h : Held LockoutSettings} {ds fresh : List DeviceId}
    (stored : s.store.lockouts[k] = some h) (intact : h.integrity ≠ .damaged) (nodup : fresh.Nodup)
    (perm : ds.Perm (fresh ++ writtenSet h)) (apart : ∀ d ∈ fresh, d ∉ writtenSet h) :
    s.Locks (countIn fresh (rewriteSet k ds s)) := by
  rw [rewriteSet_stored stored]
  refine ⟨rfl, fun counted => counted.written (k := k) rfl (fun x e => ?_) fun d _ => ?_⟩
  · cases e
    obtain ⟨live, unique⟩ := counted.1 k h stored
    exact ⟨live, perm.nodup_iff.mpr (List.nodup_append'.mpr ⟨nodup, unique, fun _ => apart _⟩)⟩
  · obtain ⟨live, -⟩ := counted.1 k h stored
    rw [countIn_cover nodup, stored, coversBy_active live,
      coversBy_active (x := h.rewrite { h.settings with devices := ds }) live]
    have members : ds.contains d = (fresh.contains d || (writtenSet h).contains d) := by
      simp only [List.contains_eq_mem, perm.mem_iff, List.mem_append, Bool.decide_or]
    have written : (writtenSet (h.rewrite { h.settings with devices := ds })) = ds := rfl
    have kept : (h.rewrite { h.settings with devices := ds }).integrity = h.integrity := rfl
    have one : fresh.contains d = true → (writtenSet h).contains d = false := fun e => by
      simpa using apart d (by simpa using e)
    rw [written, kept, members, bne_iff_ne.mpr intact, Bool.true_and, Bool.true_and]
    simp only [Parts.mark_lockouts, Parts.putLockout_lockouts, Nat.add_assoc, Nat.add_left_cancel_iff]
    cases c : fresh.contains d with
    | false => simp
    | true => rw [one c]; rfl

theorem mergeDevice_locks {d : DeviceId} (read : s.targetsRead kd o) :
    s.Locks (mergeDevice kd o d s).1 ∧ (mergeDevice kd o d s).1.targetsRead kd o := by
  unfold mergeDevice
  dsimp only
  split
  · exact ⟨.refl, read⟩
  next absent =>
    split
    next k found =>
      obtain ⟨j, ds⟩ := k
      obtain ⟨slot, -, target⟩ := List.mem_filterMap.mp (List.mem_of_find?_eq_some found)
      obtain ⟨x, sound, e⟩ := Option.map_eq_some_iff.mp target
      cases e
      obtain ⟨h, stored, intact, kind, origin, rfl⟩ := Parts.soundOf_some sound
      have valid := read j h stored intact kind origin
      have set : writtenSet h = h.settings.devices := by rw [writtenSet, ← valid]
      have fresh : d ∉ h.settings.devices := fun mem => by
        refine absent (List.any_eq_true.mpr ⟨_, List.mem_of_find?_eq_some found, ?_⟩)
        simpa using mem
      have added : (insertAscending d h.settings.devices).Perm ([d] ++ writtenSet h) := by
        rw [set]; exact insertAscending_perm fresh
      refine ⟨addToSet_locks stored intact (List.nodup_singleton d) added fun a mem => ?_, ?_⟩
      · rw [List.mem_singleton.mp mem, set]; exact fresh
      · intro i y stored'
        rw [rewriteSet_stored stored] at stored'
        by_cases same : j = i
        · subst same
          cases (getElem_set_fin_self _ _ _).symm.trans stored'
          exact fun _ _ _ => rfl
        · exact read i y ((getElem_set_fin_ne _ _ _ _ same).symm.trans stored')
    next => exact ⟨.refl, read⟩

theorem mergeAll_locks {ds : List DeviceId} (read : s.targetsRead kd o) :
    s.Locks (mergeAll kd o ds s).1 ∧ (mergeAll kd o ds s).2.Sublist ds := by
  induction ds generalizing s with
  | nil => exact ⟨.refl, .refl _⟩
  | cons d ds ih =>
    obtain ⟨one, read'⟩ := mergeDevice_locks (d := d) read
    obtain ⟨rest, sub⟩ := ih read'
    refine ⟨one.trans rest, ?_⟩
    simp only [mergeAll]
    split
    · exact sub.cons d
    · exact sub.cons_cons d

theorem placeRecord_locks {k : SlotId} {x : LockoutSettings} (empty : s.store.lockouts[k] = none)
    (nodup : x.devices.Nodup) : s.Locks (placeRecord k x s) := by
  refine ⟨rfl, fun counted => counted.written (k := k) (o := some (Held.fresh x)) rfl (fun y e => ?_) fun d _ => ?_⟩
  · cases e; exact ⟨rfl, nodup⟩
  · rw [empty]
    exact countIn_cover nodup _ d

theorem emptySlot_empty {k : SlotId} (h : s.emptySlot = some k) : s.store.lockouts[k] = none := by
  have found := List.find?_some h
  simpa only [Option.isNone_iff_eq_none] using found

theorem placeNew_locks {reason n : Nat} {ds : List DeviceId} (nodup : ds.Nodup) :
    s.Locks (placeNew kd o reason n ds s).1 ∧ (placeNew kd o reason n ds s).2.Sublist ds := by
  induction n generalizing s ds with
  | zero => exact ⟨.refl, .refl _⟩
  | succ n ih =>
    unfold placeNew
    split
    · exact ⟨.refl, List.nil_sublist ds⟩
    · split
      next k found =>
        obtain ⟨rest, sub⟩ := ih (ds := ds.drop 8) (s := placeRecord k _ s) (nodup.sublist (List.drop_sublist 8 ds))
        exact ⟨(placeRecord_locks (emptySlot_empty found) (nodup.sublist (List.take_sublist 8 ds))).trans rest,
          sub.trans (List.drop_sublist 8 ds)⟩
      next => exact ⟨.refl, .refl _⟩

/-- An update of the pending list alone. -/
theorem Parts.Locks.pending (h : r.Locks s) {es : List PendingEntry} :
    r.Locks { s with lockouts.pending := es } := h.trans ⟨rfl, id⟩

theorem makePending_locks (h : r.Locks s) {reason : Nat} {d : DeviceId} : r.Locks (makePending kd o reason s d) := by
  unfold makePending
  split
  · exact h
  · exact Parts.Locks.frame (h.pending) (addHold_frame _ _).1

theorem placeLockouts_keeps (h : r.Keeps s) {reason : Nat} {ds : List DeviceId} (nodup : ds.Nodup) :
    r.Keeps (placeLockouts kd o reason ds s) := by
  obtain ⟨merged, sub⟩ := mergeAll_locks (ds := ds) (readTargets_read (kd := kd) (o := o) (s := s))
  obtain ⟨placed, sub'⟩ := placeNew_locks (s := (mergeAll kd o ds (readTargets kd o s)).1) (kd := kd) (o := o)
    (reason := reason) (n := 32) (nodup.sublist sub)
  have pending : ∀ (l : List DeviceId) {u}, s.Locks u → s.Locks (l.foldl (makePending kd o reason) u) := fun l => by
    induction l with
    | nil => exact fun k => k
    | cons d l ih => exact fun k => ih (makePending_locks k)
  have read : s.Locks (readTargets kd o s) := readTargets_locks .refl
  exact h.trans (Parts.Locks.aborted ((pending _ ((read.trans merged).trans placed)).frame (sendLockoutNotices_frame _ _).1))

theorem placeAutomatic_keeps (h : r.Keeps s) {ds : List DeviceId} (nodup : ds.Nodup) :
    r.Keeps (placeAutomatic kd o ds s) := .ite (raise_keeps h) (placeLockouts_keeps (raise_keeps h) nodup)

theorem busLockoutList_nodup (s : Parts) (d : DeviceId) : (busLockoutList s d).Nodup := by
  unfold busLockoutList
  split
  · exact .nil
  · exact ((List.nodup_finRange 48).filter _).sublist (List.take_sublist 8 _)

/-! ## The drain (R67) and host requests (R62, R68, R69) -/

theorem drainEntry_locks (h : r.Locks s) {e : PendingEntry} {rest : List PendingEntry} :
    r.Locks (drainEntry e rest s).1 := by
  have taken : r.Locks ({ s with lockouts.pending := rest }.raise .lockout) := (h.pending).frame rfl
  unfold drainEntry
  generalize ({ s with lockouts.pending := rest }.raise .lockout) = u at taken ⊢
  have read : r.Locks (readTargets e.kind e.origin u) := readTargets_locks taken
  obtain ⟨merged, -⟩ := mergeDevice_locks (d := e.device) (readTargets_read (kd := e.kind) (o := e.origin) (s := u))
  dsimp only
  split <;> dsimp only
  · exact read.trans merged
  · exact (read.trans merged).trans (placeNew_locks (List.nodup_singleton _)).1

theorem drainLoop_locks (h : r.Locks s) {n : Nat} : r.Locks (drainLoop n s) := by
  induction n generalizing s with
  | zero => exact h
  | succ n ih =>
    unfold drainLoop
    split
    · dsimp only
      split
      · exact ih (drainEntry_locks h)
      · exact drainEntry_locks h
    · exact h

theorem Parts.Locks.drained (h : r.Locks s) : r.Keeps (drain s) := by
  have looped : r.Locks (drainLoop 48 s) := drainLoop_locks h
  refine Parts.Locks.aborted (Parts.Locks.frame ?_ (sendLockoutNotices_frame _ _).1)
  split
  · exact looped.frame (removeHold_frame _ _).1
  · exact looped

theorem freeLockout_keeps (h : r.Keeps s) {k : SlotId} : r.Keeps (freeLockout k s) := by
  unfold freeLockout
  split
  next => exact h
  next x stored =>
    dsimp only
    generalize hu : (if x.integrity = .damaged then (s.putLockout k none).mark (lockoutIndex k)
      else countOut (writtenSet x) ((s.putLockout k none).mark (lockoutIndex k))) = u
    have freed : s.Locks u := by
      subst hu
      split
      next damaged =>
        refine ⟨rfl, fun counted => counted.written (k := k) (o := none) rfl nofun fun d _ => ?_⟩
        have live := (counted.1 k x stored).1
        rw [stored, coversBy_active live, damaged]
        rfl
      next intact =>
        refine ⟨rfl, fun counted => counted.written (k := k) (o := none) rfl nofun fun d least => ?_⟩
        obtain ⟨live, nodup⟩ := counted.1 k x stored
        rw [countOut_cover nodup]
        rw [stored, coversBy_active live, bne_iff_ne.mpr intact, Bool.true_and] at least ⊢
        exact Nat.sub_add_cancel least
    refine h.trans (Parts.Locks.drained (Parts.Locks.frame ?_ (sendLockoutNotices_frame _ _).1))
    split
    · exact freed.frame (removeHold_frame _ _).1
    · exact freed

theorem placeRequest_keeps (h : r.Keeps s) {reason : Nat} {ds : List Nat} : r.Keeps (placeRequest reason ds s).1 := by
  unfold placeRequest
  repeat' split
  · exact h
  · exact h
  · exact h
  · dsimp only
    exact placeLockouts_keeps h (ascending_nodup _)

/-- What ADD DEVICES and DROP DEVICES go on with: a record in service as it was last written, and devices named once. -/
theorem examineSet_ok {slot : Nat} {ds : List Nat} {k : SlotId} {named : List DeviceId} {x : LockoutSettings}
    (e : examineSet slot ds s = (t, .ok (k, named, x))) :
    LockoutRead k s t ∧ named.Nodup ∧ ∃ h, t.store.lockouts[k] = some h ∧ h.integrity ≠ .damaged ∧
      writtenSet h = x.devices := by
  unfold examineSet at e
  split at e
  next j named' _ named_eq =>
    split at e
    next => cases e
    next form =>
      split at e
      next => cases e
      next y stored =>
        split at e
        next => cases e
        next intact =>
          split at e
          next => cases e
          next =>
            split at e
            next u x' used =>
              cases e
              have read : LockoutRead k s t := by simpa only [used] using useLockout_read k s
              refine ⟨read, devicesNamed_nodup named_eq ?_, ?_⟩
              · by_contra c
                exact form (.inr (.inr (by simpa using c)))
              · unfold useLockout at used
                rw [stored] at used
                unfold useHeld checkHeld Held.outcome at used
                dsimp only at used
                rw [if_neg intact] at used
                have self : ∀ v, (s.putLockout k v).store.lockouts[k] = v := fun v => getElem_set_fin_self _ _ _
                split at used
                next valid =>
                  cases used
                  refine ⟨y, stored, intact, ?_⟩
                  by_contra c
                  have same : y.settings ≠ y.code.covers := fun f => c (by rw [writtenSet, f])
                  rw [if_neg same] at valid
                  split at valid <;> cases valid
                next => cases used; exact ⟨y.restore, self _, nofun, rfl⟩
                next => cases used
            next => cases e
  next => cases e

theorem examineSet_keeps (h : r.Keeps s) {slot : Nat} {ds : List Nat} : r.Keeps (examineSet slot ds s).1 := by
  unfold examineSet
  split
  · split
    · exact h
    · split
      · exact h
      · split
        · exact h
        · split
          · exact h
          · split
            next e => exact (useLockout_keeps h).fst e
            next e => exact (useLockout_keeps h).fst e
  · exact h

theorem addRequest_keeps (h : r.Keeps s) {slot : Nat} {ds : List Nat} : r.Keeps (addRequest slot ds s).1 := by
  have examined := examineSet_keeps h (slot := slot) (ds := ds)
  unfold addRequest
  split
  next e => exact examined.fst e
  next t k named x e =>
    replace examined := examined.fst e
    obtain ⟨-, nodup, y, stored, intact, set⟩ := examineSet_ok e
    have apart : ∀ d ∈ named.filter fun d => !x.devices.contains d, d ∉ x.devices := fun d mem => by
      simpa using (List.mem_filter.mp mem).2
    have unique := nodup.filter fun d => !x.devices.contains d
    dsimp only
    repeat' split
    all_goals dsimp only
    · exact examined
    · exact examined
    · refine examined.trans (Parts.Locks.aborted (Parts.Locks.frame ?_ (sendLockoutNotices_frame _ _).1))
      exact addToSet_locks stored intact unique (by rw [set]; exact insertAll_perm unique apart)
        (by rw [set]; exact apart)

/-- Devices taken out of a record's set and counted out. -/
theorem dropFromSet_locks {k : SlotId} {h : Held LockoutSettings} {named : List DeviceId}
    (stored : s.store.lockouts[k] = some h) (intact : h.integrity ≠ .damaged) (nodup : named.Nodup)
    (held : ∀ d ∈ named, d ∈ writtenSet h) :
    s.Locks (countOut named (rewriteSet k ((writtenSet h).filter fun d => !named.contains d) s)) := by
  rw [rewriteSet_stored stored]
  refine ⟨rfl, fun counted => counted.written (k := k) rfl (fun x e => ?_) fun d least => ?_⟩
  · cases e
    obtain ⟨live, unique⟩ := counted.1 k h stored
    exact ⟨live, unique.filter _⟩
  · obtain ⟨live, -⟩ := counted.1 k h stored
    have written : coversBy (some (h.rewrite { h.settings with
        devices := (writtenSet h).filter fun d => !named.contains d })) d =
        ((writtenSet h).contains d && !named.contains d) := by
      rw [coversBy_active (x := h.rewrite _) live]
      have kept : (h.rewrite { h.settings with
        devices := (writtenSet h).filter fun d => !named.contains d }).integrity = h.integrity := rfl
      rw [kept, bne_iff_ne.mpr intact, Bool.true_and]
      simp [writtenSet, Held.rewrite, CheckCode.of, Bool.decide_and]
    rw [stored, coversBy_active live, bne_iff_ne.mpr intact, Bool.true_and] at least
    rw [countOut_cover nodup, written, stored, coversBy_active live, bne_iff_ne.mpr intact, Bool.true_and]
    simp only [Parts.mark_lockouts, Parts.putLockout_lockouts]
    cases c : named.contains d with
    | false => simp
    | true =>
      have mem : (writtenSet h).contains d = true := by simpa using held d (by simpa using c)
      rw [mem] at least ⊢
      simpa using Nat.sub_add_cancel least

theorem dropRequest_keeps (h : r.Keeps s) {slot : Nat} {ds : List Nat} : r.Keeps (dropRequest slot ds s).1 := by
  have examined := examineSet_keeps h (slot := slot) (ds := ds)
  unfold dropRequest
  split
  next e => exact examined.fst e
  next t k named x e =>
    replace examined := examined.fst e
    obtain ⟨-, nodup, y, stored, intact, set⟩ := examineSet_ok e
    dsimp only
    split
    next => exact examined
    next present =>
      split
      next => exact freeLockout_keeps examined
      next =>
        have held : ∀ d ∈ named, d ∈ writtenSet y := fun d mem => by
          rw [set]
          by_contra c
          exact present (List.any_eq_true.mpr ⟨d, mem, by simpa using c⟩)
        have dropped := dropFromSet_locks stored intact nodup held
        rw [set] at dropped
        refine examined.trans ((dropped.frame (sendLockoutNotices_frame _ _).1).keeps fun d locked => ?_)
        rw [isLocked_congr (Parts.watched_lockouts (sendLockoutNotices_frame _ _).1)] at locked
        rw [rewriteSet_stored stored] at locked
        have lower := countOut_cover_le named ((t.putLockout k (some (y.rewrite { y.settings with
          devices := x.devices.filter fun d => !named.contains d }))).mark (lockoutIndex k)) d
        simp only [Parts.isLocked, Bool.or_eq_true, bne_iff_ne] at locked ⊢
        exact locked.imp_left fun c e => c (Nat.le_zero.mp (lower.trans (le_of_eq e)))

theorem releaseRequest_keeps (h : r.Keeps s) {slot : Nat} : r.Keeps (releaseRequest slot s).1 := by
  unfold releaseRequest
  repeat' split
  · exact h
  · exact h
  · exact freeLockout_keeps h

/-- The LOAD of a lockout record (R70): the former record is counted out and the new one in. -/
theorem lockoutLoaded_keeps (h : r.Keeps s) {k : SlotId} {former : Held LockoutSettings} {x : LockoutSettings}
    (stored : s.store.lockouts[k] = some former) (nodup : x.devices.Nodup) :
    r.Keeps (lockoutLoaded k former (s.putLockout k (some (Held.fresh x)))) := by
  have found : (s.putLockout k (some (Held.fresh x))).store.lockouts[k] = some (Held.fresh x) := getElem_set_fin_self _ _ _
  unfold lockoutLoaded
  rw [found]
  dsimp only
  generalize hu : (if former.integrity = .damaged then s.putLockout k (some (Held.fresh x))
    else countOut (writtenSet former) (s.putLockout k (some (Held.fresh x)))) = u
  have counted : s.Locks (countIn (writtenSet (Held.fresh x)) u) := by
    have covers : ∀ d, coversBy (some (Held.fresh x)) d = x.devices.contains d := fun d => by
      rw [coversBy_active rfl]; rfl
    have counts : ∀ d, (countIn (writtenSet (Held.fresh x)) u).lockouts.cover[d] =
        u.lockouts.cover[d] + (x.devices.contains d).toNat := fun d => countIn_cover nodup u d
    have sound : ∀ y, some (Held.fresh x) = some y → y.retired = false ∧ (writtenSet y).Nodup := fun y e => by
      cases e; exact ⟨rfl, nodup⟩
    by_cases damaged : former.integrity = .damaged
    · rw [if_pos damaged] at hu
      subst hu
      refine ⟨rfl, fun counted => counted.written (k := k) (o := some (Held.fresh x)) rfl sound fun d _ => ?_⟩
      have live := (counted.1 k former stored).1
      rw [counts, covers, stored, coversBy_active live, damaged]
      rfl
    · rw [if_neg damaged] at hu
      subst hu
      refine ⟨rfl, fun counted => counted.written (k := k) (o := some (Held.fresh x)) rfl sound fun d least => ?_⟩
      obtain ⟨live, unique⟩ := counted.1 k former stored
      rw [stored, coversBy_active live, bne_iff_ne.mpr damaged, Bool.true_and] at least
      rw [counts, covers, stored, coversBy_active live, bne_iff_ne.mpr damaged, Bool.true_and, countOut_cover unique]
      simp only [Parts.putLockout_lockouts]
      omega
  have aborted := h.trans counted.aborted
  refine mark_keeps (.frame ?_ (sendLockoutNotices_frame _ _).1)
  exact .ite aborted (removeHold_keeps aborted)

end
end Sys2Proof.Machine

namespace Sys2Proof.Machine

/-! ## The Protection Unit -/

/-- The law of one element's accumulator (R91). -/
def ElementLive.lawful (x : ElementLive) : Prop := x.accumulator ≤ 1048576 ∧ (x.accumulator = 1048576 ↔ x.state = .tripped)

theorem ElementLive.lawful.below {x : ElementLive} (h : x.lawful) (c : x.state ≠ .tripped) : x.accumulator < 1048576 :=
  lt_of_le_of_ne h.1 fun e => c (h.2.mp e)

/-- An element below the limit may be in any state but TRIPPED. -/
theorem ElementLive.lawful_of_lt {x : ElementLive} (h : x.accumulator < 1048576) (c : x.state ≠ .tripped) : x.lawful :=
  ⟨h.le, fun e => absurd e h.ne, fun e => absurd e c⟩

theorem ElementLive.lawful_below {x : ElementLive} (h : x.accumulator = 0) (c : x.state ≠ .tripped) : x.lawful :=
  lawful_of_lt (h ▸ Nat.zero_lt_succ _) c

theorem ElementLive.lawful_tripped {x : ElementLive} (h : x.accumulator = 1048576) (c : x.state = .tripped) : x.lawful :=
  ⟨h.le, fun _ => c, fun _ => h⟩

section
variable {r s t : Parts} {e : ElementId}

/-- A write of an element that keeps its law keeps the invariants. -/
theorem setElement_keeps (h : r.Keeps s) {x : ElementLive} (hx : s.protection.elements[e].lawful → x.lawful) :
    r.Keeps (s.setElement e x) := by
  refine h.trans ⟨fun law e' => ?_, ?_, ?_, ?_, ?_⟩
  · rw [Parts.setElement_protection]
    by_cases same : e = e'
    · subst same; rw [getElem_set_fin_self]; exact hx (law e)
    · rw [getElem_set_fin_ne _ _ _ _ same]; exact law e'
  · have covered : (s.setElement e x).slotCovers = s.slotCovers := by
      funext d k; simp only [Parts.slotCovers, Parts.setElement_store]
    simp only [Parts.coversCounted, covered, Parts.setElement_store, Parts.setElement_lockouts, imp_self]
  · simp only [Parts.noLockedClose, Parts.isLocked, Parts.isPending, Parts.setElement_switching,
      Parts.setElement_lockouts, imp_self]
  · simp only [Parts.setElement_changeover, imp_self]
  · simp only [Parts.queueHoldsTheShed, queueBefore, Parts.priorityOf, Parts.setElement_load]
    exact id

theorem reviewGuard_keeps (h : r.Keeps s) {d : DeviceId} : r.Keeps (reviewGuard d s) :=
  .ite (raise_keeps (h.frame (by rfl))) (h.frame rfl)

theorem reviewGuardOf_keeps (h : r.Keeps s) : r.Keeps (reviewGuardOf e s) := by
  unfold reviewGuardOf
  split
  · exact reviewGuard_keeps h
  · exact h

theorem damageElement_keeps (h : r.Keeps s) : r.Keeps (damageElement e s) := by
  refine reviewGuardOf_keeps (.frame (setElement_keeps h (e := e) (x := { s.protection.elements[e] with
    state := .damaged
    accumulator := if s.protection.elements[e].state = .tripped then 0 else s.protection.elements[e].accumulator
    zone := .stopped, blind := .stopped }) fun law => ElementLive.lawful_of_lt ?_ (by nofun)) rfl)
  dsimp only
  split
  · exact Nat.zero_lt_succ _
  next c => exact law.below c

theorem reviewZone_keeps {n : Nat} (h : r.Keeps s) : r.Keeps (reviewZone n e s) := by
  induction n generalizing s e with
  | zero => exact h
  | succ n ih =>
    have falls : ∀ {u}, r.Keeps u → r.Keeps (match u.protection.upstream[e] with
        | some x => reviewZone n x (damageElement e u)
        | none => damageElement e u) := fun k => by
      split
      · exact ih (damageElement_keeps k)
      · exact damageElement_keeps k
    have read := useHeld_keeps (o := s.store.elements[e]) (put := fun h s => s.putElement e (some h))
      (i := elementIndex e) (fun _ k => k.frame rfl) falls h
    unfold reviewZone
    dsimp only
    refine .ite (.ite (setElement_keeps h fun law => law) h) (.ite h (.ite h ?_))
    split
    · exact setElement_keeps read fun law => law
    · exact read

theorem reviewUpstream_keeps (h : r.Keeps s) : r.Keeps (reviewUpstream e s) := by
  unfold reviewUpstream
  split
  · exact reviewZone_keeps h
  · exact h

theorem elementDamaged_keeps (h : r.Keeps s) : r.Keeps (elementDamaged e s) := by
  unfold elementDamaged
  repeat' split
  · exact reviewZone_keeps (damageElement_keeps h)
  · exact damageElement_keeps h
  · exact h

theorem useElement_keeps (h : r.Keeps s) : r.Keeps (useElement e s).1 :=
  useHeld_keeps (fun _ k => k.frame rfl) elementDamaged_keeps h

theorem changeElement_keeps (h : r.Keeps s) {x : ElementLive} (hx : s.protection.elements[e].lawful → x.lawful) :
    r.Keeps (changeElement e x s) :=
  .ite (reviewUpstream_keeps (reviewZone_keeps (setElement_keeps h hx))) (setElement_keeps h hx)

theorem carryOut_keeps (h : r.Keeps s) {x : ElementSettings} : r.Keeps (carryOut e x s) := by
  have tripped : r.Keeps (if x.actions.trip then sendOpen x.guarded .protection s else s) := .ite (sendOpen_keeps h) h
  unfold carryOut
  dsimp only
  generalize (if x.actions.trip then sendOpen x.guarded .protection s else s) = u at tripped ⊢
  have locked : r.Keeps (if x.actions.lockout then placeAutomatic .protection (.element e) [x.guarded] u else u) :=
    .ite (placeAutomatic_keeps tripped (List.nodup_singleton _)) tripped
  generalize (if x.actions.lockout then placeAutomatic .protection (.element e) [x.guarded] u else u) = v at locked ⊢
  exact .ite (placeAutomatic_keeps locked (busLockoutList_nodup _ _)) locked

theorem tripElement_keeps (h : r.Keeps s) : r.Keeps (tripElement e s) := by
  have moved := raise_keeps (f := .protection) (changeElement_keeps h (e := e)
    (x := { s.protection.elements[e] with
      state := .tripped, accumulator := Config.accumulatorLimit, zone := .stopped, target := true })
    fun _ => ElementLive.lawful_tripped rfl rfl)
  unfold tripElement
  dsimp only
  refine .ite moved ?_
  split
  next used => exact carryOut_keeps ((useElement_keeps moved).fst used)
  next used => exact (useElement_keeps moved).fst used

theorem zoneExpires_keeps (h : r.Keeps s) : r.Keeps (zoneExpires e s) := .ite (tripElement_keeps h) h

theorem stopBlind_keeps (h : r.Keeps s) : r.Keeps (stopBlind e s) :=
  .ite (reviewGuardOf_keeps (setElement_keeps h fun law => law)) (setElement_keeps h fun law => law)

theorem lowered_le (x : ElementSettings) (delta acc : Nat) : lowered x delta acc ≤ acc := by
  unfold lowered
  split
  · exact Nat.zero_le _
  · exact Nat.sub_le _ _

theorem judgeUpdate_keeps (h : r.Keeps s) {x : ElementSettings} {v : PointValues} {delta : Nat} :
    r.Keeps (judgeUpdate e x v delta s) := by
  unfold judgeUpdate
  dsimp only
  split
  · split
    · exact h
    · split
      · exact tripElement_keeps h
      next below =>
        exact changeElement_keeps h fun _ =>
          ElementLive.lawful_of_lt (lt_of_le_of_ne (min_le_right _ _) below) (by nofun)
  · split
    · exact changeElement_keeps h fun _ => ElementLive.lawful_below rfl (by nofun)
    next c =>
      refine changeElement_keeps h fun law => ElementLive.lawful_of_lt ((lowered_le _ _ _).trans_lt (law.below c)) ?_
      dsimp only
      split <;> nofun

theorem updateElement_keeps (h : r.Keeps s) {v : PointValues} {delta : Nat} : r.Keeps (updateElement v delta s e) := by
  unfold updateElement
  split
  · exact h
  · exact h
  · split
    next used => exact judgeUpdate_keeps (stopBlind_keeps ((useElement_keeps h).fst used))
    next used => exact (useElement_keeps h).fst used

theorem startBlind_keeps (h : r.Keeps s) : r.Keeps (startBlind e s) := by
  refine .ite ?_ h
  split
  next used => exact setElement_keeps ((useElement_keeps h).fst used) fun law => law
  next used => exact (useElement_keeps h).fst used

theorem blindElement_keeps (h : r.Keeps s) : r.Keeps (blindElement s e) := by
  have below : s.protection.elements[e].state ≠ .tripped →
      r.Keeps (startBlind e (changeElement e { s.protection.elements[e] with state := .blind, zone := .stopped } s)) :=
    fun c => startBlind_keeps (changeElement_keeps h fun law => ElementLive.lawful_of_lt (law.below c) (by nofun))
  unfold blindElement
  dsimp only
  split
  next c => exact below (by rw [c]; nofun)
  next c => exact below (by rw [c]; nofun)
  next c => exact below (by rw [c]; nofun)
  next =>
    exact startBlind_keeps (changeElement_keeps h fun _ => ElementLive.lawful_below rfl (by nofun))
  next => exact h

theorem disarmElement_keeps (h : r.Keeps s) : r.Keeps (disarmElement s e) := by
  have idle : r.Keeps (changeElement e { s.protection.elements[e] with
      state := .idle, accumulator := 0, zone := .stopped } s) :=
    changeElement_keeps h fun _ => ElementLive.lawful_below rfl (by nofun)
  unfold disarmElement
  dsimp only
  split
  · exact idle
  · exact idle
  · exact idle
  · exact h

theorem blindAfterTest_keeps (h : r.Keeps s) : r.Keeps (blindAfterTest s e) := by
  unfold blindAfterTest
  dsimp only
  split
  · exact h
  · exact h
  · exact startBlind_keeps (changeElement_keeps h fun _ => ElementLive.lawful_below rfl (by nofun))

theorem reviewStanding_keeps (h : r.Keeps s) {p : PointId} : r.Keeps (reviewStanding p s) := .ite (h.frame rfl) h

theorem protectionPoint_keeps (h : r.Keeps s) {n : PointNotice} : r.Keeps (protectionPoint n s) := by
  unfold protectionPoint
  dsimp only
  split
  next u _ =>
    have standing : r.Keeps (match u.test with
        | some m => { s with protection.testStanding := s.protection.testStanding.set n.point (some m) }
        | none => s) := by
      split
      · exact h.frame rfl
      · exact h
    exact .foldl (fun _ k => updateElement_keeps k) _ standing
  next =>
    have disarmed := Parts.Keeps.foldl (f := disarmElement) (fun _ k => disarmElement_keeps k) (s.watchers n.point) h
    exact .ite (.ite (.foldl (fun _ k => blindAfterTest_keeps k) _ (disarmed.frame rfl)) (disarmed.frame rfl))
      (.ite (.foldl (fun _ k => blindElement_keeps k) _ h) h)

theorem blindExpires_keeps (h : r.Keeps s) : r.Keeps (blindExpires e s) :=
  .ite (reviewGuardOf_keeps (setElement_keeps h fun law => law)) h

/-! ### Taking elements into service -/

theorem enterElement_keeps (h : r.Keeps s) : r.Keeps (enterElement s e) :=
  .ite (startBlind_keeps (setElement_keeps (h.frame (by rfl)) fun _ => ElementLive.lawful_below rfl (by nofun)))
    (setElement_keeps h fun _ => ElementLive.lawful_below rfl (by nofun))

/-- The Protection Unit out of service keeps the law: every accumulator is 0. -/
theorem protectionInitial_lawful (guards : Vector (Option DeviceId) 64) :
    (ProtectionUnit.initial guards).accumulatorLaw := fun e => by
  have idle : (ProtectionUnit.initial guards).elements[e] = ElementLive.initial := Vector.getElem_replicate e.isLt
  rw [idle]
  exact ElementLive.lawful_below rfl (by nofun)

/-- The Protection Unit replaced by one that keeps the law. -/
theorem Parts.Keeps.protection (h : r.Keeps s) {u : ProtectionUnit} (law : u.accumulatorLaw) :
    r.Keeps { s with protection := u } := h.trans ⟨fun _ => law, id, id, id, id⟩

theorem enterProtection_keeps (h : r.Keeps s) : r.Keeps (enterProtection s) := by
  have afresh : r.Keeps { s with protection := { ProtectionUnit.initial s.protection.guards with lastFailure := none } } :=
    h.protection (protectionInitial_lawful s.protection.guards)
  have restrained : ∀ u, r.Keeps u → r.Keeps { u with protection.upstream := Vector.ofFn u.upstreamOf } := fun u k =>
    k.frame (by simp only [Parts.watched])
  unfold enterProtection
  generalize allElements = es
  exact restrained _ (.foldl (fun _ k => enterElement_keeps k) es afresh)

theorem enlistElement_keeps (h : r.Keeps s) {x : ElementSettings} : r.Keeps (enlistElement e x s) := by
  unfold enlistElement
  dsimp only
  split
  · exact reviewStanding_keeps (h.frame (by rfl))
  · exact h.frame rfl

/-- An accumulator at 0 is left there. -/
def Parts.cleared (e : ElementId) (s : Parts) : Prop := s.protection.elements[e].accumulator = 0

theorem setElement_cleared {x : ElementLive} {e' : ElementId} (h : s.cleared e)
    (hx : s.protection.elements[e'].accumulator = 0 → x.accumulator = 0) : (s.setElement e' x).cleared e := by
  unfold Parts.cleared
  rw [Parts.setElement_protection]
  by_cases same : e' = e
  · subst same; rw [getElem_set_fin_self]; exact hx h
  · rw [getElem_set_fin_ne _ _ _ _ same]; exact h

theorem reviewGuardOf_elements (e : ElementId) (s : Parts) :
    (reviewGuardOf e s).protection.elements = s.protection.elements := by
  unfold reviewGuardOf reviewGuard
  repeat' split
  all_goals rfl

theorem damageElement_cleared {e' : ElementId} (h : s.cleared e) : (damageElement e' s).cleared e := by
  unfold damageElement Parts.cleared
  dsimp only
  rw [reviewGuardOf_elements]
  refine setElement_cleared h fun zero => ?_
  dsimp only
  split
  · rfl
  · exact zero

theorem reviewZone_cleared {n : Nat} {e' : ElementId} (h : s.cleared e) : (reviewZone n e' s).cleared e := by
  induction n generalizing s e' with
  | zero => exact h
  | succ n ih =>
    have falls : ∀ {u : Parts}, u.cleared e → Parts.cleared e (match u.protection.upstream[e'] with
        | some x => reviewZone n x (damageElement e' u)
        | none => damageElement e' u) := fun k => by
      split
      · exact ih (damageElement_cleared k)
      · exact damageElement_cleared k
    have read := useHeld_preserves (P := Parts.cleared e) (o := s.store.elements[e'])
      (put := fun h s => s.putElement e' (some h)) (i := elementIndex e') (fun _ k => k) (fun k => k) falls h
    unfold reviewZone
    dsimp only
    repeat' split
    · exact setElement_cleared h id
    · exact h
    · exact h
    · exact h
    · exact setElement_cleared read id
    · exact read

theorem changeElement_cleared {x : ElementLive} (hx : x.accumulator = 0) : (changeElement e x s).cleared e := by
  have written : (s.setElement e x).cleared e := by
    unfold Parts.cleared
    rw [Parts.setElement_protection, getElem_set_fin_self, hx]
  unfold changeElement reviewUpstream
  dsimp only
  repeat' split
  · exact reviewZone_cleared (reviewZone_cleared written)
  · exact reviewZone_cleared written
  · exact written

theorem elementLoaded_keeps (h : r.Keeps s) {old : Option DeviceId} : r.Keeps (elementLoaded e old s) := by
  unfold elementLoaded
  refine .ite h ?_
  split
  · exact h
  next x _ =>
    dsimp only
    have idle := changeElement_keeps (enlistElement_keeps h (e := e) (x := x)) (e := e) (x := ElementLive.initial)
      fun _ => ElementLive.lawful_below rfl (by nofun)
    have zero : (changeElement e ElementLive.initial (enlistElement e x s)).cleared e := changeElement_cleared rfl
    generalize changeElement e ElementLive.initial (enlistElement e x s) = u at idle zero ⊢
    have blind : ∀ v, r.Keeps v → v.cleared e → r.Keeps (if v.lanes.points[x.point].status.blinds then
        startBlind e (changeElement e { v.protection.elements[e] with state := .blind } v) else v) := fun v kept zero =>
      .ite (startBlind_keeps (changeElement_keeps kept fun _ => ElementLive.lawful_below (by exact zero) (by nofun))) kept
    have guarded : ∀ v, r.Keeps v → r.Keeps (match old with
        | some d => reviewGuard d v
        | none => v) := fun v kept => by
      split
      · exact reviewGuard_keeps kept
      · exact kept
    refine reviewUpstream_keeps (reviewGuardOf_keeps (guarded _ ?_))
    split
    · exact blind _ (reviewZone_keeps idle) (reviewZone_cleared zero)
    · exact blind _ idle zero

theorem resetElementRequest_keeps (h : r.Keeps s) {n : Nat} : r.Keeps (resetElementRequest n s).1 := by
  unfold resetElementRequest
  repeat' split
  · exact h
  · exact h
  · exact h
  · exact setElement_keeps h fun law => law

end
end Sys2Proof.Machine

namespace Sys2Proof.Machine

/-! ## The Lane Interface -/

section
variable {r s t : Parts}

theorem setLane_keeps (h : r.Keeps s) {f : LaneId} {x : LaneLive} : r.Keeps (s.setLane f x) := h.frame rfl

theorem setPoint_keeps (h : r.Keeps s) {p : PointId} {x : PointLive} : r.Keeps (s.setPoint p x) := by
  unfold Parts.setPoint
  have written : r.Keeps { s with lanes.points := s.lanes.points.set p x } := h.frame rfl
  exact markIf_keeps written

theorem sendPoint_keeps (h : r.Keeps s) {p : PointId} {u : Option UpdateMark} {b : Bool} : r.Keeps (s.sendPoint p u b) :=
  sendAll_keeps h

theorem makeStale_keeps (h : r.Keeps s) {p : PointId} : r.Keeps (makeStale p s) := sendPoint_keeps (setPoint_keeps h)

theorem stalePoints_keeps (h : r.Keeps s) {f : LaneId} : r.Keeps (stalePoints f s) :=
  .foldl (fun _ k => .ite (makeStale_keeps k) k) _ h

theorem offerContent_keeps (h : r.Keeps s) {f : LaneId} {y : Content} : r.Keeps (offerContent f y s) := by
  unfold offerContent
  dsimp only
  repeat' split
  · exact h
  · exact setLane_keeps h
  · exact setLane_keeps h

theorem transmissionEnds_keeps (h : r.Keeps s) {f : LaneId} : r.Keeps (transmissionEnds f s) := by
  unfold transmissionEnds
  dsimp only
  split
  · exact h
  · exact setLane_keeps h
  · exact setLane_keeps h

theorem formContent_keeps (h : r.Keeps s) {f : LaneId} : r.Keeps (formContent f s) := by
  unfold formContent
  split
  · exact offerContent_keeps h
  · exact h

theorem takeSlot_keeps (h : r.Keeps s) {p : PointId} {delta : Nat} {v : PointValues} {b : Bool} :
    r.Keeps (takeSlot p delta v b s) :=
  .ite h (.ite (sendPoint_keeps (setPoint_keeps h)) (.ite (setPoint_keeps h) (sendPoint_keeps (setPoint_keeps h))))

theorem missSlot_keeps (h : r.Keeps s) {p : PointId} {limit : Nat} : r.Keeps (missSlot p limit s) :=
  .ite h (.ite (sendPoint_keeps (setPoint_keeps h)) (setPoint_keeps h))

theorem takeMeasure_keeps (h : r.Keeps s) {f : LaneId} {b : Byte} {body : List Byte} {delta limit : Nat} :
    r.Keeps (takeMeasure f b body delta limit s) := by
  refine .foldl (fun _ k => .ite ?_ (missSlot_keeps k)) _ h
  split
  · exact takeSlot_keeps k
  · exact k

theorem takeGenstate_keeps (h : r.Keeps s) {f : LaneId} {body : List Byte} {delta : Nat} :
    r.Keeps (takeGenstate f body delta s) := by
  unfold takeGenstate
  split
  · exact sendAll_keeps (takeSlot_keeps h)
  · exact h

theorem acceptFrame_keeps (h : r.Keeps s) {f : LaneId} {k : FrameKind} {b sequence : Byte} {body : List Byte}
    {delta : Nat} : r.Keeps (acceptFrame f k b sequence body delta s) := by
  have up : ∀ x c, ∀ [Decidable c] n, r.Keeps (if c then (s.setLane f x).send n else s.setLane f x) := fun _ _ _ _ =>
    .ite (send_keeps (setLane_keeps h)) (setLane_keeps h)
  unfold acceptFrame
  dsimp only
  split
  · exact takeMeasure_keeps (up _ _ _)
  · exact takeGenstate_keeps (up _ _ _)

theorem judgeSequence_keeps (h : r.Keeps s) {f : LaneId} {k : FrameKind} {b sequence : Byte} {body : List Byte} :
    r.Keeps (judgeSequence f k b sequence body s) :=
  .ite (acceptFrame_keeps h) (.ite (setLane_keeps h) (.ite (acceptFrame_keeps h) (setLane_keeps h)))

theorem judgeFrame_keeps (h : r.Keeps s) {f : LaneId} {a : Assembly} : r.Keeps (judgeFrame f a s) := by
  unfold judgeFrame
  dsimp only
  split
  · exact .ite h (.ite (setLane_keeps h) (.ite (setLane_keeps h) (judgeSequence_keeps h)))
  · exact h

theorem takeHeader_keeps (h : r.Keeps s) {f : LaneId} {b : Byte} {n : Nat} : r.Keeps (takeHeader f b n s) := by
  refine .ite (setLane_keeps h) ?_
  split
  · exact setLane_keeps h
  · exact setLane_keeps h

theorem takeBody_keeps (h : r.Keeps s) {f : LaneId} {b : Byte} {n : Nat} : r.Keeps (takeBody f b n s) := by
  unfold takeBody
  dsimp only
  split
  · exact h
  · exact .ite (judgeFrame_keeps (setLane_keeps h)) (setLane_keeps h)

theorem takeCharacter_keeps (h : r.Keeps s) {f : LaneId} {y : LaneCharacter} : r.Keeps (takeCharacter f y s) :=
  .ite h (.ite (takeHeader_keeps (setLane_keeps h)) (takeBody_keeps (setLane_keeps h)))

theorem dropLane_keeps (h : r.Keeps s) {f : LaneId} {st : LaneState} : r.Keeps (dropLane f st s) :=
  have dropped := raise_keeps (f := .lane) (setLane_keeps h (f := f)
    (x := { s.lanes.lanes[f] with state := st, silence := .stopped }))
  stalePoints_keeps (.ite (send_keeps dropped) dropped)

theorem takeBreak_keeps (h : r.Keeps s) {f : LaneId} : r.Keeps (takeBreak f s) :=
  .ite h (.ite (setLane_keeps h) (dropLane_keeps (setLane_keeps h)))

theorem silenceExpires_keeps (h : r.Keeps s) {f : LaneId} : r.Keeps (silenceExpires f s) := .ite (dropLane_keeps h) h
theorem lineMarks_keeps (h : r.Keeps s) {f : LaneId} : r.Keeps (lineMarks f s) := setLane_keeps h

theorem applyTest_keeps (h : r.Keeps s) {p : PointId} {x : TestHold} : r.Keeps (applyTest p x s) :=
  sendPoint_keeps (setPoint_keeps h)

theorem injectRequest_keeps (h : r.Keeps s) {p : Nat} {v : PointValues} {mode : TestMode} {n : Nat} :
    r.Keeps (injectRequest p v mode n s).1 := by
  unfold injectRequest
  dsimp only
  repeat' split
  · exact h
  · exact h
  · exact h
  · exact (applyTest_keeps (setPoint_keeps h)).frame rfl

theorem endTestOf_keeps (h : r.Keeps s) {p : PointId} {x : TestHold} : r.Keeps (endTestOf p x s) := by
  have told := sendPoint_keeps (setPoint_keeps h (p := p) (x := { s.lanes.points[p] with
    test := none, status := statusAfterTest x.heldStatus (s.lanes.lanes[laneOfPoint p].state == .up)
    values := x.heldValues, delta := x.heldDelta, missed := 0 })) (p := p) (u := none) (b := true)
  exact told.frame rfl

theorem endTestRequest_keeps (h : r.Keeps s) {p : Nat} : r.Keeps (endTestRequest p s).1 := by
  unfold endTestRequest
  repeat' split
  · exact h
  · exact endTestOf_keeps h
  · exact h

theorem testIntervalExpires_keeps (h : r.Keeps s) {p : PointId} : r.Keeps (testIntervalExpires p s) := by
  unfold testIntervalExpires
  split
  · exact .ite (applyTest_keeps (setPoint_keeps h)) h
  · exact h

theorem testDurationExpires_keeps (h : r.Keeps s) {p : PointId} : r.Keeps (testDurationExpires p s) := by
  unfold testDurationExpires
  split
  · exact .ite (endTestOf_keeps h) h
  · exact h

theorem enterLanes_keeps (h : r.Keeps s) {x : StationSettings} : r.Keeps (enterLanes x s) :=
  .foldl (fun _ k => setPoint_keeps k) _ (h.frame rfl)

end
end Sys2Proof.Machine

namespace Sys2Proof.Machine

/-! ## The Restore Queue -/

/-- What the order of the queue compares: a block's priority, and then its shed sequence. -/
def BlockLive.rank (x : BlockLive) : ℕ ×ₗ ℕ := toLex (x.settings.elim 0 BlockSettings.priority, x.shedSequence.getD 0)

theorem queueBefore_iff (s : Parts) (a b : BlockId) :
    queueBefore s a b = true ↔ s.load.blocks[a].rank < s.load.blocks[b].rank := by
  simp only [queueBefore, Parts.priorityOf, BlockLive.rank, Prod.Lex.toLex_lt_toLex, Bool.or_eq_true, Bool.and_eq_true,
    beq_iff_eq]
  exact or_congr decide_eq_true_iff (and_congr_right fun _ => decide_eq_true_iff)

theorem queueBefore_eq_false_iff (s : Parts) (a b : BlockId) :
    queueBefore s b a = false ↔ s.load.blocks[a].rank ≤ s.load.blocks[b].rank := by
  rw [← Bool.not_eq_true, queueBefore_iff, not_lt]

theorem insertBy_perm {α : Type} (before : α → α → Bool) (x : α) (l : List α) : (insertBy before x l).Perm (x :: l) := by
  induction l with
  | nil => exact .rfl
  | cons y l ih =>
    unfold insertBy
    split
    · exact .rfl
    · exact (ih.cons y).trans (.swap x y l)

/-- A member put into a list that an order has sorted leaves it sorted. -/
theorem insertBy_sorted {α β : Type} [LinearOrder β] (rank : α → β) {before : α → α → Bool}
    (comes : ∀ a b, before a b = true ↔ rank a < rank b) (x : α) {l : List α}
    (sorted : l.Pairwise fun a b => rank a ≤ rank b) : (insertBy before x l).Pairwise fun a b => rank a ≤ rank b := by
  induction l with
  | nil => exact List.pairwise_singleton _ _
  | cons y l ih =>
    obtain ⟨first, rest⟩ := List.pairwise_cons.1 sorted
    unfold insertBy
    split
    next early =>
      have less := (comes x y).1 early
      refine List.pairwise_cons.2 ⟨fun z hz => ?_, sorted⟩
      rcases List.mem_cons.1 hz with rfl | hz
      · exact less.le
      · exact less.le.trans (first z hz)
    next late =>
      have ge : rank y ≤ rank x := not_lt.1 (mt (comes x y).2 late)
      refine List.pairwise_cons.2 ⟨fun z hz => ?_, ih rest⟩
      rcases List.mem_cons.1 ((insertBy_perm before x l).mem_iff.1 hz) with rfl | hz
      · exact ge
      · exact first z hz

theorem Parts.queueHoldsTheShed_iff (s : Parts) : s.queueHoldsTheShed ↔ s.load.queue.Nodup ∧
    (∀ l : BlockId, l ∈ s.load.queue ↔ s.load.blocks[l].state = .shed) ∧
      s.load.queue.Pairwise fun a b => s.load.blocks[a].rank ≤ s.load.blocks[b].rank := by
  simp only [Parts.queueHoldsTheShed, queueBefore_eq_false_iff]

/-- Only one block has moved: its own live fields, and no other block's state or place in the order. -/
structure Parts.Moves (l : BlockId) (s t : Parts) : Prop where
  others : ∀ m : BlockId, m ≠ l → t.load.blocks[m].state = s.load.blocks[m].state ∧
    t.load.blocks[m].rank = s.load.blocks[m].rank
  apart : { t with load := s.load }.watched = s.watched

section
variable {r s t : Parts} {l : BlockId}

/-- An update of the Load Unit alone keeps the queue's invariant or nothing of the five is at risk. -/
theorem Parts.Keeps.loads (h : r.Keeps s) (apart : { t with load := s.load }.watched = s.watched)
    (queue : s.queueHoldsTheShed → t.queueHoldsTheShed) : r.Keeps t := by
  have k := h.frame apart
  exact ⟨k.accumulators, k.covers, k.closes, k.claim, queue ∘ h.queue⟩

/-- The others of the queue, when a block has left it, as they stand after the block alone has moved. -/
theorem Parts.Moves.rest (m : s.Moves l t) (q : s.queueHoldsTheShed) :
    (∀ k, k ∈ s.load.queue.filter (· != l) ↔ k ≠ l ∧ t.load.blocks[k].state = .shed) ∧
      (s.load.queue.filter (· != l)).Nodup ∧
        (s.load.queue.filter (· != l)).Pairwise fun a b => t.load.blocks[a].rank ≤ t.load.blocks[b].rank := by
  obtain ⟨once, exact, sorted⟩ := (Parts.queueHoldsTheShed_iff s).1 q
  refine ⟨fun k => ?_, once.filter _, ?_⟩
  · rw [List.mem_filter, exact k, bne_iff_ne, and_comm]
    exact and_congr_right fun ne => by rw [(m.others k ne).1]
  · refine (sorted.filter _).imp_of_mem fun {a b} ha hb le => ?_
    have ne : ∀ {k}, k ∈ s.load.queue.filter (· != l) → k ≠ l := fun hk => bne_iff_ne.1 (List.mem_filter.1 hk).2
    rwa [(m.others a (ne ha)).2, (m.others b (ne hb)).2]

theorem Parts.Moves.left (h : r.Keeps s) (m : s.Moves l t) (out : t.load.blocks[l].state ≠ .shed)
    (left : t.load.queue = s.load.queue.filter (· != l)) : r.Keeps t := by
  refine h.loads m.apart fun q => (Parts.queueHoldsTheShed_iff t).2 ?_
  obtain ⟨others, once, sorted⟩ := m.rest q
  rw [left]
  refine ⟨once, fun k => (others k).trans ⟨And.right, fun shed => ⟨?_, shed⟩⟩, sorted⟩
  rintro rfl
  exact out shed

theorem Parts.Moves.placed (h : r.Keeps s) (m : s.Moves l t) (shed : t.load.blocks[l].state = .shed)
    (placed : t.load.queue = insertBy (queueBefore t) l (s.load.queue.filter (· != l))) : r.Keeps t := by
  refine h.loads m.apart fun q => (Parts.queueHoldsTheShed_iff t).2 ?_
  obtain ⟨others, once, sorted⟩ := m.rest q
  have members := insertBy_perm (queueBefore t) l (s.load.queue.filter (· != l))
  rw [placed]
  refine ⟨members.nodup_iff.2 (List.nodup_cons.2 ⟨fun mem => ((others l).1 mem).1 rfl, once⟩), fun k => ?_,
    insertBy_sorted (fun k => t.load.blocks[k].rank) (queueBefore_iff t) l sorted⟩
  rw [members.mem_iff, List.mem_cons, others k]
  by_cases eq : k = l
  · subst eq
    exact ⟨fun _ => shed, fun _ => .inl rfl⟩
  · exact ⟨fun or => (or.resolve_left eq).2, fun st => .inr ⟨eq, st⟩⟩

theorem Parts.Moves.stays (h : r.Keeps s) (m : s.Moves l t) (same : t.load.blocks[l].state = s.load.blocks[l].state)
    (rank : t.load.blocks[l].rank = s.load.blocks[l].rank ∨ s.load.blocks[l].state ≠ .shed)
    (queue : t.load.queue = s.load.queue) : r.Keeps t := by
  refine h.loads m.apart fun q => (Parts.queueHoldsTheShed_iff t).2 ?_
  obtain ⟨once, members, sorted⟩ := (Parts.queueHoldsTheShed_iff s).1 q
  have states : ∀ k : BlockId, t.load.blocks[k].state = s.load.blocks[k].state := fun k => by
    by_cases eq : k = l
    · rw [eq, same]
    · exact (m.others k eq).1
  have ranks : ∀ k ∈ s.load.queue, t.load.blocks[k].rank = s.load.blocks[k].rank := fun k hk => by
    by_cases eq : k = l
    · subst eq
      exact rank.resolve_right (not_not.2 ((members k).1 hk))
    · exact (m.others k eq).2
  rw [queue]
  refine ⟨once, fun k => by rw [members k, states k], sorted.imp_of_mem fun {a b} ha hb le => ?_⟩
  rwa [ranks a ha, ranks b hb]

/-- A block written, over an update of no other block. -/
theorem setBlock_moves {u : Parts} {x : BlockLive} (apart : { u with load := s.load }.watched = s.watched)
    (blocks : u.load.blocks = s.load.blocks) : s.Moves l (u.setBlock l x) := by
  refine ⟨fun m ne => ?_, ?_⟩
  · rw [Parts.setBlock_load]
    dsimp only
    rw [getElem_set_fin_ne _ _ _ _ ne.symm, blocks]
    exact ⟨rfl, rfl⟩
  · rw [← apart]
    simp only [Parts.watched, Parts.setBlock_store, Parts.setBlock_lockouts, Parts.setBlock_switching,
      Parts.setBlock_protection, Parts.setBlock_changeover]

theorem setBlock_self {x : BlockLive} : (s.setBlock l x).load.blocks[l] = x := by
  rw [Parts.setBlock_load]
  exact getElem_set_fin_self _ _ _

theorem setBlock_left_keeps (h : r.Keeps s) {x : BlockLive} (out : x.state ≠ .shed) :
    r.Keeps (leaveQueue l (s.setBlock l x)) := by
  have m : s.Moves l (s.setBlock l x) := setBlock_moves rfl rfl
  refine Parts.Moves.left h ⟨m.others, m.apart⟩ ?_ ?_
  · exact (congrArg BlockLive.state setBlock_self).trans_ne out
  · simp only [leaveQueue, Parts.setBlock_load]

theorem setBlock_placed_keeps (h : r.Keeps s) {x : BlockLive} (shed : x.state = .shed) :
    r.Keeps (placeInQueue l (s.setBlock l x)) := by
  have m : s.Moves l (s.setBlock l x) := setBlock_moves rfl rfl
  refine Parts.Moves.placed h ⟨m.others, m.apart⟩ ?_ ?_
  · exact (congrArg BlockLive.state setBlock_self).trans shed
  · have queue : (s.setBlock l x).load.queue = s.load.queue := by rw [Parts.setBlock_load]
    rw [← queue]
    rfl

theorem setBlock_stays_keeps (h : r.Keeps s) {x : BlockLive} (same : x.state = s.load.blocks[l].state)
    (rank : x.rank = s.load.blocks[l].rank ∨ s.load.blocks[l].state ≠ .shed) : r.Keeps (s.setBlock l x) := by
  refine Parts.Moves.stays h (setBlock_moves rfl rfl) ?_ ?_ (by rw [Parts.setBlock_load])
  · rw [setBlock_self]
    exact same
  · rw [setBlock_self]
    exact rank

/-! ## The Load Unit -/

theorem joinQueue_keeps (h : r.Keeps s) {x : BlockLive} (shed : x.state = .shed) :
    r.Keeps (joinQueue l (s.setBlock l x)) := send_keeps (setBlock_placed_keeps h shed)

theorem becomeShed_keeps (h : r.Keeps s) : r.Keeps (becomeShed l s) :=
  joinQueue_keeps (h.frame (t := { s with load.shedCounter := s.load.shedCounter + 1 }) rfl) rfl

theorem becomeServed_keeps (h : r.Keeps s) : r.Keeps (becomeServed l s) :=
  setBlock_left_keeps (h.frame (t := { s with load.servedCounter := s.load.servedCounter + 1 }) rfl) (by nofun)

theorem becomePlain_keeps (h : r.Keeps s) {st : BlockState} (out : st ≠ .shed) : r.Keeps (becomePlain l st s) :=
  setBlock_left_keeps h out

theorem becomeHeld_keeps (h : r.Keeps s) : r.Keeps (becomePlain l .held s) := becomePlain_keeps h (by nofun)
theorem becomeDark_keeps (h : r.Keeps s) : r.Keeps (becomePlain l .dark s) := becomePlain_keeps h (by nofun)

theorem backIntoService_keeps (h : r.Keeps s) : r.Keeps (backIntoService l s) := by
  unfold backIntoService
  split
  · exact .ite (becomeServed_keeps h) (becomeDark_keeps h)
  · exact becomeDark_keeps h

theorem shedOne_keeps (h : r.Keeps s) : r.Keeps (shedOne l s) := by
  unfold shedOne
  split
  · exact becomeShed_keeps (sendOpen_keeps h)
  · exact h

theorem shedLoop_keeps {i : Island} {capacity n : Nat} (h : r.Keeps s) : r.Keeps (shedLoop i capacity n s) := by
  induction n generalizing s with
  | zero => exact h
  | succ n ih =>
    unfold shedLoop
    refine .ite h ?_
    split
    · exact ih (raise_keeps (shedOne_keeps h))
    · exact raise_keeps h

theorem shedStep_keeps (h : r.Keeps s) {i : Island} : r.Keeps (shedStep i s) := by
  unfold shedStep
  split
  · exact shedLoop_keeps h
  · exact h

theorem shedStepAt_keeps (h : r.Keeps s) : r.Keeps (shedStepAt l s) := h.elim fun _ => shedStep_keeps h

theorem keepBalances_keeps (h : r.Keeps s) : r.Keeps (keepBalances s) := h.frame rfl

theorem loadReview_keeps (h : r.Keeps s) : r.Keeps (loadReview s) :=
  have stepped := Parts.Keeps.foldl (fun i k => shedStep_keeps k (i := i)) (s.topology.islands.filter (balanceMoved s)) h
  keepBalances_keeps (.ite (send_keeps stepped) stepped)

theorem reviewMoved_keeps (h : r.Keeps s) {before : Parts} : r.Keeps (reviewMoved before s) := .ite (loadReview_keeps h) h

theorem startRestoreTimer_keeps (h : r.Keeps s) : r.Keeps (startRestoreTimer s) := by
  unfold startRestoreTimer
  repeat' split
  · exact h.frame rfl
  · exact h
  · exact h

theorem restoreBlockBy_keeps (h : r.Keeps s) {d : DeviceId} : r.Keeps (restoreBlockBy l d s) := by
  have asked := closeRequest_keeps h (d := d) (q := .loadUnit) (au := ⟨false, false⟩)
  unfold restoreBlockBy
  split
  next e => exact startRestoreTimer_keeps (setBlock_left_keeps (asked.fst e) (by nofun))
  next e => exact send_keeps (becomeServed_keeps (asked.fst e))
  next e => exact raise_keeps (asked.fst e)

theorem restoreAttempt_keeps (h : r.Keeps s) : r.Keeps (restoreAttempt s) := by
  unfold restoreAttempt
  refine .ite h ?_
  split
  · exact h
  · dsimp only
    split
    · exact .ite (restoreBlockBy_keeps h) h
    · exact h

theorem restoreExpires_keeps (h : r.Keeps s) : r.Keeps (restoreExpires s) :=
  .ite (reviewMoved_keeps (restoreAttempt_keeps (h.frame (by rfl)))) h

/-! ## Pre-sheds -/

theorem preShedLoop_keeps {i : Island} {n : Nat} {p : PreShed} (h : r.Keeps s) : r.Keeps (preShedLoop i n p s).1 := by
  induction n generalizing s p with
  | zero => exact h
  | succ n ih =>
    unfold preShedLoop
    split
    · exact h
    · split
      · exact ih (shedOne_keeps h)
      · exact h

theorem keepPreShed_keeps (h : r.Keeps s) {i : SideId} {p : PreShed} : r.Keeps (keepPreShed i p s) :=
  .ite (send_keeps (h.frame (by rfl))) (h.frame rfl)

theorem runPreShed_keeps (h : r.Keeps s) {i : SideId} {p : PreShed} : r.Keeps (runPreShed i p s) := by
  unfold runPreShed
  split
  next isl _ => exact keepPreShed_keeps (preShedLoop_keeps h (i := isl) (n := 24) (p := p))
  next => exact keepPreShed_keeps h

theorem requestPreShed_keeps (h : r.Keeps s) {i : SideId} {isl : Island} {n : Nat} :
    r.Keeps (requestPreShed i isl n s) := reviewMoved_keeps (runPreShed_keeps h)

theorem withdrawPreShed_keeps (h : r.Keeps s) {i : SideId} : r.Keeps (withdrawPreShed i s) := h.frame rfl

theorem settlePreShed_keeps (h : r.Keeps s) {d : DeviceId} {b : Bool} : r.Keeps (settlePreShed d b s) := by
  refine .foldl (fun i k => ?_) _ h
  split
  · exact .ite (.ite (runPreShed_keeps k) (keepPreShed_keeps k)) k
  · exact k

/-! ## Notices at the Load Unit -/

theorem restoreEnded_keeps (h : r.Keeps s) {w : Result} : r.Keeps (restoreEnded w s l) := by
  refine .ite (loadReview_keeps (send_keeps ?_)) h
  split
  · exact becomeServed_keeps h
  · exact .ite (raise_keeps (becomeHeld_keeps h)) (raise_keeps (joinQueue_keeps h rfl))
  · exact raise_keeps (becomeHeld_keeps h)

theorem openFailed_keeps (h : r.Keeps s) : r.Keeps (openFailed s l) := shedStepAt_keeps (.ite (backIntoService_keeps h) h)

theorem loadCompletion_keeps (h : r.Keeps s) {d : DeviceId} {w : Result} {a : Action} :
    r.Keeps (loadCompletion d w a s) := by
  unfold loadCompletion
  split
  · exact .foldl (fun _ k => restoreEnded_keeps k) _ h
  · exact settlePreShed_keeps h
  · exact reviewMoved_keeps (settlePreShed_keeps (.foldl (fun _ k => openFailed_keeps k) _ (raise_keeps h)))
  · exact h

theorem feederOpened_keeps (h : r.Keeps s) : r.Keeps (feederOpened s l) := .ite (raise_keeps (becomeHeld_keeps h)) h
theorem feederClosed_keeps (h : r.Keeps s) : r.Keeps (feederClosed s l) := .ite (backIntoService_keeps h) h

theorem loadPosition_keeps (h : r.Keeps s) {d : DeviceId} {p : Position} {o : Cause} : r.Keeps (loadPosition d p o s) := by
  refine .ite h ?_
  split
  · exact reviewMoved_keeps (settlePreShed_keeps (.foldl (fun _ k => feederOpened_keeps k) _ h))
  · exact reviewMoved_keeps (.foldl (fun _ k => feederClosed_keeps k) _ h)
  · exact h
  · exact h

theorem blockAtIsland_keeps (h : r.Keeps s) {i : Island} : r.Keeps (blockAtIsland i s l) := by
  unfold blockAtIsland
  split
  · have noted : r.Keeps (s.setBlock l { s.load.blocks[l] with island := some i.id }) :=
      setBlock_stays_keeps h rfl (.inl rfl)
    exact .ite h (.ite (becomeDark_keeps noted) (.ite (becomeServed_keeps noted)
      (.ite (.ite (becomeHeld_keeps noted) (becomeShed_keeps noted)) noted)))
  · exact h

theorem shedAfterWaking_keeps (h : r.Keeps s) {before : Parts} : r.Keeps (shedAfterWaking before s) :=
  .foldl (fun _ k => shedStepAt_keeps k) _ h

theorem loadIslands_keeps (h : r.Keeps s) {ns : List IslandNotice} : r.Keeps (loadIslands ns s) := by
  have told : r.Keeps (ns.foldl (fun s n => allBlocks.foldl (blockAtIsland n.island) s) s) :=
    .foldl (fun _ k => .foldl (fun _ k => blockAtIsland_keeps k) _ k) _ h
  have woken := shedAfterWaking_keeps told (before := s)
  exact loadReview_keeps (.ite (send_keeps woken) woken)

theorem loadPoint_keeps (h : r.Keeps s) {n : PointNotice} : r.Keeps (loadPoint n s) := by
  unfold loadPoint
  split
  · refine .ite h (reviewMoved_keeps (.foldl (fun l k => ?_) _ h))
    dsimp only
    split
    · split
      next read => exact setBlock_stays_keeps k rfl (.inr (by rw [read.2]; nofun))
      next => exact k
    · exact k
  · exact h

/-! ## Taking blocks into service -/

/-- A block's state taken from its feeder is not SHED, and leaves the queue and the other blocks. -/
theorem blockFromFeeder_writes (l : BlockId) (y : BlockSettings) (s : Parts) : ∃ n x, x.state ≠ .shed ∧
    blockFromFeeder l y s = { s with load.servedCounter := n }.setBlock l x := by
  unfold blockFromFeeder
  dsimp only
  split
  · exact ⟨s.load.servedCounter, _, by nofun, rfl⟩
  · split
    · exact ⟨s.load.servedCounter + 1, _, by nofun, rfl⟩
    · exact ⟨s.load.servedCounter, _, by nofun, rfl⟩

theorem blockFromFeeder_keeps (h : r.Keeps s) {y : BlockSettings} :
    r.Keeps (blockFromFeeder l y (leaveQueue l s)) := by
  obtain ⟨n, x, out, e⟩ := blockFromFeeder_writes l y (leaveQueue l s)
  rw [e]
  refine Parts.Moves.left h (setBlock_moves rfl rfl) ?_ (by rw [Parts.setBlock_load]; rfl)
  rw [setBlock_self]
  exact out

/-- How the Load Unit stands while the blocks are taken into service: no block is SHED and none is queued. -/
def Parts.noneShed (s t : Parts) : Prop :=
  { t with load := s.load }.watched = s.watched ∧ t.load.queue = [] ∧ ∀ l : BlockId, t.load.blocks[l].state ≠ .shed

theorem Parts.noneShed.written {u : Parts} (h : s.noneShed u) {n : Nat} {x : BlockLive} (out : x.state ≠ .shed) :
    s.noneShed ({ u with load.servedCounter := n }.setBlock l x) := by
  obtain ⟨apart, queue, states⟩ := h
  refine ⟨?_, ?_, fun k => ?_⟩
  · rw [← apart]
    simp only [Parts.watched, Parts.setBlock_store, Parts.setBlock_lockouts, Parts.setBlock_switching,
      Parts.setBlock_protection, Parts.setBlock_changeover]
  · rw [Parts.setBlock_load]
    exact queue
  · rw [Parts.setBlock_load]
    dsimp only
    by_cases eq : k = l
    · rw [eq, getElem_set_fin_self]
      exact out
    · rw [getElem_set_fin_ne _ _ _ _ (Ne.symm eq)]
      exact states k

theorem Parts.noneShed.entered {u : Parts} (h : s.noneShed u) : s.noneShed (enterBlock u l) := by
  have retired : s.noneShed (u.setBlock l { BlockLive.initial with state := .retired }) :=
    h.written (n := u.load.servedCounter) (by nofun)
  unfold enterBlock
  split
  next x _ =>
    split
    · exact retired
    · obtain ⟨n, x, out, e⟩ := blockFromFeeder_writes l x.settings u
      rw [e]
      exact h.written out
  next => exact retired

theorem enterLoads_keeps (h : r.Keeps s) : r.Keeps (enterLoads s) := by
  have entered : ∀ (ls : List BlockId) {u : Parts}, s.noneShed u → s.noneShed (ls.foldl enterBlock u) := by
    intro ls
    induction ls with
    | nil => exact id
    | cons l ls ih => exact fun k => ih k.entered
  have initial : s.noneShed { s with load := LoadUnit.initial } :=
    ⟨rfl, rfl, fun l => by simp only [LoadUnit.initial, BlockLive.initial, Fin.getElem_fin, Vector.getElem_replicate]; nofun⟩
  obtain ⟨apart, queue, states⟩ := entered allBlocks initial
  refine keepBalances_keeps (h.loads apart fun _ => (Parts.queueHoldsTheShed_iff _).2 ?_)
  rw [queue]
  exact ⟨.nil, fun l => ⟨by nofun, fun shed => absurd shed (states l)⟩, .nil⟩

theorem blockLoaded_keeps (h : r.Keeps s) : r.Keeps (blockLoaded l s) := by
  refine .ite h ?_
  split
  · exact send_keeps (loadReview_keeps (shedStepAt_keeps (blockFromFeeder_keeps h)))
  · exact h

theorem blockAmended_keeps (h : r.Keeps s) {fields : List Nat} : r.Keeps (blockAmended l fields s) := by
  refine .ite h ?_
  split
  · exact h
  · dsimp only
    have written : ∀ y demand,
        let x : BlockLive := { s.load.blocks[l] with settings := y, demand := demand }
        r.Keeps (if s.load.blocks[l].state = .shed then placeInQueue l (s.setBlock l x) else s.setBlock l x) := by
      intro y demand
      dsimp only
      split
      next shed => exact setBlock_placed_keeps h shed
      next plain => exact setBlock_stays_keeps h rfl (.inr plain)
    exact .ite (loadReview_keeps (written _ _)) (send_keeps (loadReview_keeps (shedStepAt_keeps (written _ _))))

theorem blockDamaged_keeps (h : r.Keeps s) : r.Keeps (blockDamaged l s) :=
  .ite h (raise_keeps (.ite (becomeHeld_keeps h) h))

/-! ## Host block requests -/

theorem blockRequest_keeps (h : r.Keeps s) {judge : BlockId → BlockState → Parts → Parts × Reply} {n : Nat}
    (judged : ∀ l st, r.Keeps (judge l st s).1) : r.Keeps (blockRequest judge n s).1 := by
  unfold blockRequest
  split
  · exact h
  · dsimp only
    split
    · exact h
    · exact judged _ _

theorem holdBlockJudge_keeps (h : r.Keeps s) {st : BlockState} : r.Keeps (holdBlockJudge l st s).1 := by
  unfold holdBlockJudge
  split
  · exact loadReview_keeps (becomeHeld_keeps h)
  · exact h
  · exact h

theorem releaseBlockJudge_keeps (h : r.Keeps s) {st : BlockState} : r.Keeps (releaseBlockJudge l st s).1 := by
  unfold releaseBlockJudge
  repeat' split
  · exact h
  · exact loadReview_keeps (becomeShed_keeps h)
  · exact h
  · exact h
  · exact h
  · exact h

theorem shedBlockJudge_keeps (h : r.Keeps s) {st : BlockState} : r.Keeps (shedBlockJudge l st s).1 := by
  have asked := fun d => openRequest_keeps h (d := d) (q := .loadUnit)
  have judged : ∀ d, r.Keeps (match openRequest d .loadUnit s with
      | (s, .accepted) => (loadReview (becomeShed l s), Reply.answer .accepted)
      | (s, a) => (s, .answer a)).1 := fun d => by
    split
    next e => exact loadReview_keeps (becomeShed_keeps ((asked d).fst e))
    next e => exact (asked d).fst e
  unfold shedBlockJudge
  split
  · split
    · exact h
    · exact judged _
  · split
    · exact h
    · exact judged _
  · exact h
  · exact h
  · exact h

theorem restoreBlockJudge_keeps (h : r.Keeps s) {st : BlockState} : r.Keeps (restoreBlockJudge l st s).1 := by
  have asked := fun d => closeRequest_keeps h (d := d) (q := .supervisor) (au := ⟨false, false⟩)
  have judged : ∀ d, r.Keeps (match closeRequest d .supervisor ⟨false, false⟩ s with
      | (s, .accepted) => (loadReview (leaveQueue l (s.setBlock l { s.load.blocks[l] with
          state := .restoring, shedSequence := none, restorer := some .supervisor })), Reply.answer .accepted)
      | (s, a) => (s, .answer a)).1 := fun d => by
    split
    next e => exact loadReview_keeps (setBlock_left_keeps ((asked d).fst e) (by nofun))
    next e => exact (asked d).fst e
  unfold restoreBlockJudge
  split
  · exact judged _
  · exact judged _
  · exact h

end
end Sys2Proof.Machine

namespace Sys2Proof.Machine

/-! ## The Paralleling Unit -/

section
variable {r s t : Parts} {g : GeneratorId} {b : BusId}

theorem offered_keeps (h : r.Keeps s) : r.Keeps (sendCommand g s) := by
  unfold sendCommand
  split
  · exact offerContent_keeps h
  · exact h

theorem writeGenerator_keeps (h : r.Keeps s) {asked : Bool} {x : GeneratorLive} : r.Keeps (writeGenerator asked g x s) := by
  have marked := fun y a => markIf_keeps (h.frame (t :=
    { s with paralleling.generators := s.paralleling.generators.set g y }) rfl) (b := a) (i := generatorIndex g)
  have computed := fun y a c => Parts.Keeps.ite (c := c = true) (recompute_keeps (marked y a)) (marked y a)
  have rated := fun y a c e => Parts.Keeps.ite (c := e = true) (send_keeps (computed y a c) (n := .rating)) (computed y a c)
  have told := fun y a c e f => Parts.Keeps.ite (c := f = true) (offered_keeps (rated y a c e) (g := g)) (rated y a c e)
  exact .ite (send_keeps (told _ _ _ _ _)) (told _ _ _ _ _)

theorem setGenerator_keeps (h : r.Keeps s) {x : GeneratorLive} : r.Keeps (setGenerator g x s) := writeGenerator_keeps h

theorem leaveQueues_keeps (h : r.Keeps s) : r.Keeps (leaveQueues g s) := h.frame rfl

theorem releaseGrant_keeps (h : r.Keeps s) : r.Keeps (releaseGrant b s) := by
  unfold releaseGrant
  split
  · exact send_keeps (h.frame (by rfl))
  · exact h

theorem releaseGrants_keeps (h : r.Keeps s) : r.Keeps (releaseGrants g s) :=
  .foldl (fun _ k => .ite (releaseGrant_keeps k) k) _ h

theorem enterFailed_keeps (h : r.Keeps s) {asked : Bool} {why : GeneratorFailure} {c : RunCommand} :
    r.Keeps (enterFailed asked g why c s) :=
  raise_keeps (releaseGrants_keeps (leaveQueues_keeps (writeGenerator_keeps h)))

theorem failGenerator_keeps (h : r.Keeps s) {why : GeneratorFailure} {c : RunCommand} :
    r.Keeps (failGenerator g why c s) := enterFailed_keeps h

theorem unloadGenerator_keeps (h : r.Keeps s) : r.Keeps (unloadGenerator g s) := setGenerator_keeps h

theorem disconnectWith_keeps (h : r.Keeps s) {done : Parts → Parts} (ended : ∀ {u}, r.Keeps u → r.Keeps (done u)) :
    r.Keeps (disconnectWith done g s) := by
  have left := releaseGrants_keeps (leaveQueues_keeps (setGenerator_keeps h (g := g) (x := { (s.gen g).still.level with
    state := .disconnecting })) (g := g)) (g := g)
  unfold disconnectWith
  dsimp only
  split
  · exact ended left
  · have asked := fun d => openRequest_keeps left (d := d) (q := .paralleling)
    split
    next e => exact (asked _).fst e
    next e => exact .ite (ended ((asked _).fst e)) ((asked _).fst e)
    next e => exact ended ((asked _).fst e)

theorem generatorDamaged_keeps (h : r.Keeps s) : r.Keeps (generatorDamaged g s) := by
  unfold generatorDamaged
  dsimp only
  refine .ite h ?_
  split
  · exact h
  · exact setGenerator_keeps h
  · exact unloadGenerator_keeps h
  · exact h
  · exact h
  · exact disconnectWith_keeps h fun k => failGenerator_keeps k
  · exact disconnectWith_keeps h fun k => failGenerator_keeps k
  · exact failGenerator_keeps h

theorem takeCopy_keeps (h : r.Keeps s) {y : GeneratorSettings} : r.Keeps (takeCopy g y s) := h.frame rfl

theorem useGenerator_keeps (h : r.Keeps s) : r.Keeps (useGenerator g s).1 := by
  have read : r.Keeps (useHeld s.store.generators[g] (fun h s => s.putGenerator g (some h)) (generatorIndex g)
      (generatorDamaged g) s).1 := useHeld_keeps (fun _ k => k.frame rfl) generatorDamaged_keeps h
  unfold useGenerator
  split
  next e => exact takeCopy_keeps (read.fst e)
  next e => exact read.fst e

theorem startGenerator_keeps (h : r.Keeps s) : r.Keeps (startGenerator g s) := by
  have read := useGenerator_keeps h (g := g)
  unfold startGenerator
  split
  next e => exact leaveQueues_keeps (setGenerator_keeps (read.fst e))
  next e => exact read.fst e

theorem startWanted_keeps (h : r.Keeps s) : r.Keeps (startWanted s) :=
  .ite (.foldl (fun _ k => .ite (startGenerator_keeps k) k) _ h) h

theorem stopFrom_keeps (h : r.Keeps s) {x : GeneratorLive} : r.Keeps (stopFrom x g s) :=
  startWanted_keeps (setGenerator_keeps h)

theorem stopGenerator_keeps (h : r.Keeps s) : r.Keeps (stopGenerator g s) := stopFrom_keeps h

theorem restFrom_keeps (h : r.Keeps s) {x : GeneratorLive} : r.Keeps (restFrom x g s) :=
  .ite (stopFrom_keeps h) (setGenerator_keeps h)

theorem restGenerator_keeps (h : r.Keeps s) : r.Keeps (restGenerator g s) := restFrom_keeps h

theorem coolGenerator_keeps (h : r.Keeps s) : r.Keeps (coolGenerator g s) :=
  have cooled := leaveQueues_keeps (setGenerator_keeps h)
  .ite (restGenerator_keeps cooled) cooled

theorem afterDisconnect_keeps (h : r.Keeps s) : r.Keeps (afterDisconnect g s) :=
  .ite (failGenerator_keeps h) (coolGenerator_keeps h)

theorem disconnectGenerator_keeps (h : r.Keeps s) : r.Keeps (disconnectGenerator g s) :=
  disconnectWith_keeps h afterDisconnect_keeps

theorem judgeShutdown_keeps (h : r.Keeps s) : r.Keeps (judgeShutdown s) :=
  .ite h (.foldl (fun _ k => .ite (disconnectGenerator_keeps k) k) _ h)

theorem onlineFrom_keeps (h : r.Keeps s) {x : GeneratorLive} : r.Keeps (onlineFrom x g s) := by
  have counted : r.Keeps { s with paralleling.onlineCounter := s.paralleling.onlineCounter + 1 } := h.frame rfl
  unfold onlineFrom
  exact judgeShutdown_keeps (releaseGrants_keeps (leaveQueues_keeps (setGenerator_keeps counted)))

theorem goOnline_keeps (h : r.Keeps s) : r.Keeps (goOnline g s) := onlineFrom_keeps h

theorem readClosingTime_keeps (h : r.Keeps s) {d : DeviceId} : r.Keeps (readClosingTime d s).1 := by
  have read := useDevice_keeps h (d := d)
  unfold readClosingTime
  split
  next e => exact read.fst e
  next e => exact (read.fst e).frame rfl

theorem enterSyncing_keeps (h : r.Keeps s) {fresh : Bool} : r.Keeps (enterSyncing g fresh s) := by
  have read := useGenerator_keeps h (g := g)
  unfold enterSyncing
  split
  next y e => exact leaveQueues_keeps (setGenerator_keeps (readClosingTime_keeps (read.fst e) (d := y.device)))
  next e => exact read.fst e

theorem joinArbiter_keeps (h : r.Keeps s) : r.Keeps (joinArbiter b g s) := by
  unfold joinArbiter
  split
  · exact .ite h (send_keeps (h.frame (by rfl)))
  · exact h

theorem placeGenerator_keeps (h : r.Keeps s) : r.Keeps (placeGenerator g s) := by
  unfold placeGenerator
  split
  · refine .ite (leaveQueues_keeps h) ?_
    split
    · exact joinArbiter_keeps h
    · exact enterSyncing_keeps h
    · exact leaveQueues_keeps h
  · exact leaveQueues_keeps h

theorem readyGenerator_keeps (h : r.Keeps s) : r.Keeps (readyGenerator g s) := placeGenerator_keeps (setGenerator_keeps h)

theorem setArbiter_keeps (h : r.Keeps s) {a : Arbiter} : r.Keeps (setArbiter b a s) := h.frame rfl

theorem grantHead_keeps (h : r.Keeps s) {a : Arbiter} {d : DeviceId} : r.Keeps (grantHead b a g d s).1 := by
  have granted : r.Keeps (setGenerator g { s.gen g with state := .deadClosing, run := .run }
      (setArbiter b { queue := a.queue.drop 1, grant := some g } s)) := setGenerator_keeps (setArbiter_keeps h)
  unfold grantHead
  dsimp only
  generalize setGenerator g _ _ = u at granted ⊢
  have asked := closeRequest_keeps granted (d := d) (q := .paralleling) (au := ⟨false, false⟩)
  split
  next e => exact asked.fst e
  next e =>
    dsimp only
    exact goOnline_keeps (asked.fst e)
  next e =>
    split
    · dsimp only
      exact setArbiter_keeps (setGenerator_keeps (asked.fst e))
    · dsimp only
      exact setGenerator_keeps (asked.fst e)

theorem grantLoop_keeps {n : Nat} (h : r.Keeps s) : r.Keeps (grantLoop b n s) := by
  induction n generalizing s with
  | zero => exact h
  | succ n ih =>
    unfold grantLoop
    refine .ite h ?_
    split
    · split
      · split
        · exact .ite (ih (grantHead_keeps h)) (grantHead_keeps h)
        · exact h
      · exact h
    · exact h

theorem grantPass_keeps (h : r.Keeps s) : r.Keeps (grantPass b s) := by
  unfold grantPass
  split
  · exact grantLoop_keeps h
  · exact h

theorem nudgeGenerator_keeps (h : r.Keeps s) {x : GeneratorSettings} {slip dv : Int} :
    r.Keeps (nudgeGenerator x slip dv g s) := setGenerator_keeps h

theorem sendSyncClose_keeps (h : r.Keeps s) {d : DeviceId} : r.Keeps (sendSyncClose g d s) := by
  have asked := closeRequest_keeps h (d := d) (q := .paralleling) (au := ⟨true, false⟩)
  unfold sendSyncClose
  split
  next e => exact setGenerator_keeps (asked.fst e)
  next e => exact goOnline_keeps (asked.fst e)
  next e => exact asked.fst e

theorem syncGenerator_keeps (h : r.Keeps s) : r.Keeps (syncGenerator g s) := by
  unfold syncGenerator
  dsimp only
  split
  · exact .ite (.ite (sendSyncClose_keeps (nudgeGenerator_keeps h)) (nudgeGenerator_keeps h)) h
  · exact h

theorem levelIsland_frames (h : r.Keeps s) : r.Keeps (levelIsland b s) := by
  unfold levelIsland
  split
  · exact .foldl (fun _ k => setGenerator_keeps k) _ h
  · exact h

theorem startIslandSync_frames (h : r.Keeps s) {i : SideId} {d : DeviceId} : r.Keeps (startIslandSync i d s) :=
  (readClosingTime_keeps h (d := d)).frame rfl

theorem followIncomer_keeps (h : r.Keeps s) {y : IslandSync} : r.Keeps (followIncomer y s) := by
  unfold followIncomer
  split
  · exact h
  · exact .ite h ((h.elim fun a => levelIsland_frames h (b := a)).frame (by rfl))

theorem endIslandSync_frames (h : r.Keeps s) : r.Keeps (endIslandSync s) := by
  unfold endIslandSync
  split
  · exact h
  next y _ =>
    have ended : r.Keeps { s with paralleling.islandSync := none } := h.frame rfl
    have leveled := ended.elim (o := y.incoming) fun b => levelIsland_frames ended (b := b)
    dsimp only
    split
    · exact startIslandSync_frames (leveled.frame (by rfl))
    · exact leveled

theorem requestIslandSync_keeps (h : r.Keeps s) {i : SideId} {d : DeviceId} : r.Keeps (requestIslandSync i d s) := by
  unfold requestIslandSync
  split
  · exact .ite (startIslandSync_frames h) (h.frame rfl)
  · exact startIslandSync_frames h

theorem withdrawIslandSync_frames (h : r.Keeps s) {i : SideId} : r.Keeps (withdrawIslandSync i s) := by
  have left : r.Keeps (match s.paralleling.waitingSync with
      | some (j, _) => if j = i then { s with paralleling.waitingSync := none } else s
      | none => s) := by
    split
    · exact .ite (h.frame rfl) h
    · exact h
  unfold withdrawIslandSync
  dsimp only
  split
  · exact .ite (endIslandSync_frames left) left
  · exact left

theorem computeView_keeps (h : r.Keeps s) {y : IslandSyncView} {n : Nat} : r.Keeps (computeView y n s).1 :=
  .foldl (fun _ k => nudgeGenerator_keeps k) _ h

theorem runIslandSync_keeps (h : r.Keeps s) {p : PointId} : r.Keeps (runIslandSync p s).1 := by
  unfold runIslandSync
  split
  · exact h
  next y _ =>
    have followed := followIncomer_keeps h (y := y)
    dsimp only
    split
    · exact followed
    next view _ =>
      have computed := computeView_keeps followed (y := view) (n := y.closingTime)
      split
      · exact followed
      · split
        next e =>
          have asked := closeRequest_keeps (computed.fst e) (d := y.incomer) (q := .changeover) (au := ⟨true, true⟩)
          split
          next e => exact endIslandSync_frames (asked.fst e)
          next e => exact asked.fst e
        next e => exact computed.fst e

theorem endHostSync_keeps (h : r.Keeps s) : r.Keeps (endHostSync s) := by
  unfold endHostSync
  split
  · exact levelIsland_frames (h.frame (by rfl))
  · exact h

theorem runHostSync_keeps (h : r.Keeps s) {p : PointId} : r.Keeps (runHostSync p s) := by
  unfold runHostSync
  split
  · exact h
  next y _ =>
    split
    · exact h
    next view _ =>
      have computed := computeView_keeps h (y := view) (n := y.closingTime)
      refine .ite h ?_
      split
      next e =>
        have asked := closeRequest_keeps (computed.fst e) (d := y.tie) (q := .paralleling) (au := ⟨true, false⟩)
        split
        next e => exact endHostSync_keeps (asked.fst e)
        next e => exact asked.fst e
      next e => exact computed.fst e

theorem hostSyncExpires_keeps (h : r.Keeps s) : r.Keeps (hostSyncExpires s) := by
  unfold hostSyncExpires
  split
  · exact .ite (raise_keeps (endHostSync_keeps h)) h
  · exact h

theorem startHostSync_keeps (h : r.Keeps s) {d : DeviceId} {a b : BusId} : r.Keeps (startHostSync d a b s).1 := by
  unfold startHostSync
  dsimp only
  split
  · exact h
  · exact (readClosingTime_keeps h (d := d)).frame rfl

theorem syncCloseGenerator_keeps (h : r.Keeps s) {d : DeviceId} : r.Keeps (syncCloseGenerator g d s).1 := by
  unfold syncCloseGenerator
  dsimp only
  split
  · exact h
  · split
    · exact .ite (placeGenerator_keeps (setGenerator_keeps h)) (setGenerator_keeps h)
    · exact .ite (placeGenerator_keeps (setGenerator_keeps h)) (setGenerator_keeps h)
    · exact .ite (placeGenerator_keeps (setGenerator_keeps h)) (setGenerator_keeps h)
    · exact h

theorem syncCloseRequest_keeps (h : r.Keeps s) {n : Nat} : r.Keeps (syncCloseRequest n s).1 := by
  unfold syncCloseRequest
  dsimp only
  repeat' split
  · exact h
  · exact h
  · exact h
  · exact syncCloseGenerator_keeps h
  · exact startHostSync_keeps h
  · exact h

theorem shareIsland_keeps (h : r.Keeps s) {i : Island} : r.Keeps (shareIsland s i) := by
  refine .ite h (.foldl (fun _ k => .ite (setGenerator_keeps k) k) _ (.foldl (fun _ k => ?_) _ h))
  exact setGenerator_keeps k

theorem clearTargets_keeps (h : r.Keeps s) : r.Keeps (clearTargets s) :=
  .foldl (fun _ k => .ite (setGenerator_keeps k) k) _ h

theorem shareFor_keeps (h : r.Keeps s) : r.Keeps (shareFor g s) :=
  clearTargets_keeps (.foldl (fun _ k => shareIsland_keeps k) _ h)

theorem setTimers_keeps (h : r.Keeps s) {x : IslandTimers} : r.Keeps (setTimers x s) := h.frame rfl

theorem judgeTimers_keeps (h : r.Keeps s) {restart : Bool} : r.Keeps (judgeTimers b restart s) := by
  have kept : r.Keeps { s with paralleling.islandTimers := keptTimers s } := h.frame rfl
  unfold judgeTimers
  dsimp only
  split
  · exact .ite (setTimers_keeps kept) kept
  · exact kept

theorem addExpires_keeps (h : r.Keeps s) : r.Keeps (addExpires b s) := by
  unfold addExpires
  dsimp only
  split
  · refine .ite ?_ h
    split
    · exact startGenerator_keeps (setTimers_keeps h)
    · exact raise_keeps (setTimers_keeps h)
  · exact h

theorem removeExpires_keeps (h : r.Keeps s) : r.Keeps (removeExpires b s) := by
  unfold removeExpires
  dsimp only
  split
  · refine .ite ?_ h
    split
    · exact unloadGenerator_keeps (setTimers_keeps h)
    · exact setTimers_keeps h
  · exact h

theorem generatorReports_keeps (h : r.Keeps s) {ready fault : Bool} {x : GeneratorSettings} :
    r.Keeps (generatorReports ready fault x g s) := by
  have failed := failGenerator_keeps h (g := g) (why := .fault) (c := .stopNow)
  refine .ite (.ite (sendOpen_keeps failed) failed) ?_
  split
  · exact .ite (readyGenerator_keeps h) h
  · exact .ite (startGenerator_keeps h) h
  · exact .ite (startGenerator_keeps h) (syncGenerator_keeps h)
  · exact .ite (disconnectGenerator_keeps h) h
  · exact h

theorem reportGenerator_keeps (h : r.Keeps s) {ready fault : Bool} {x : GeneratorSettings} :
    r.Keeps (reportGenerator ready fault x g s) := by
  have reported := generatorReports_keeps h (g := g) (ready := ready) (fault := fault) (x := x)
  unfold reportGenerator
  dsimp only
  split
  · exact .ite (grantPass_keeps reported) reported
  · exact reported

theorem parallelingReport_keeps (h : r.Keeps s) {f : LaneId} {ready fault : Bool} :
    r.Keeps (parallelingReport f ready fault s) := by
  refine .foldl (fun _ k => ?_) _ h
  split
  · exact .ite (shareFor_keeps (reportGenerator_keeps k)) k
  · exact k

theorem generatorLane_keeps (h : r.Keeps s) {up : Bool} {x : GeneratorSettings} : r.Keeps (generatorLane up x g s) := by
  unfold generatorLane
  split
  · refine .ite h ?_
    split
    · exact goOnline_keeps h
    · exact stopGenerator_keeps h
    · exact h
  · exact setGenerator_keeps h
  · exact startGenerator_keeps h
  · exact h

theorem parallelingLane_keeps (h : r.Keeps s) {f : LaneId} {was st : LaneState} :
    r.Keeps (parallelingLane f was st s) := by
  refine .ite h (.foldl (fun _ k => ?_) _ h)
  split
  · exact .ite (generatorLane_keeps k) k
  · exact k

theorem generatorCompletion_keeps (h : r.Keeps s) {w : Result} {a : Action} : r.Keeps (generatorCompletion w a g s) := by
  unfold generatorCompletion
  split
  · exact goOnline_keeps h
  · exact readyGenerator_keeps (releaseGrants_keeps h)
  · exact failGenerator_keeps h
  · exact goOnline_keeps h
  · exact failGenerator_keeps h
  · exact .ite (failGenerator_keeps h) (enterSyncing_keeps h)
  · exact afterDisconnect_keeps h
  · exact failGenerator_keeps h
  · exact h

theorem parallelingCompletion_keeps (h : r.Keeps s) {d : DeviceId} {w : Result} {a : Action} :
    r.Keeps (parallelingCompletion d w a s) :=
  .foldl (fun _ k => .ite (generatorCompletion_keeps k) k) _ h

theorem generatorPosition_keeps (h : r.Keeps s) {p : Position} {o : Cause} : r.Keeps (generatorPosition p o g s) := by
  unfold generatorPosition
  dsimp only
  split
  · refine .ite (stopGenerator_keeps h) ?_
    split
    · exact .ite h (failGenerator_keeps h)
    · exact .ite h (failGenerator_keeps h)
    · exact afterDisconnect_keeps h
    · exact h
  · refine .ite (goOnline_keeps h) (.ite h ?_)
    split
    · exact goOnline_keeps h
    · exact goOnline_keeps h
    · exact raise_keeps h
  · exact h

theorem parallelingPosition_keeps (h : r.Keeps s) {d : DeviceId} {p : Position} {o : Cause} :
    r.Keeps (parallelingPosition d p o s) := by
  have told : r.Keeps (allGenerators.foldl (fun s g =>
      if s.generatorDevice g = some d then generatorPosition p o g s else s) s) :=
    .foldl (fun _ k => .ite (generatorPosition_keeps k) k) _ h
  unfold parallelingPosition
  dsimp only
  split
  · exact .ite (judgeShutdown_keeps told) told
  · exact told

theorem judgeGrantee_keeps (h : r.Keeps s) : r.Keeps (judgeGrantee g s) := by
  unfold judgeGrantee
  split
  · exact h
  · refine .ite ?_ h
    dsimp only
    split
    · exact .ite (enterSyncing_keeps (sendOpen_keeps h)) (readyGenerator_keeps (sendOpen_keeps h))
    · exact readyGenerator_keeps (sendOpen_keeps h)

theorem reviewGrants_keeps (h : r.Keeps s) {i : Island} : r.Keeps (reviewGrants i s) :=
  .foldl (fun _ k => judgeGrantee_keeps (releaseGrant_keeps k)) _ h

theorem generatorAtIsland_keeps (h : r.Keeps s) {i : Island} : r.Keeps (generatorAtIsland i s g) := by
  refine .ite h ?_
  split
  · exact placeGenerator_keeps h
  · split
    · exact .ite (readyGenerator_keeps h) (setGenerator_keeps h)
    · exact h
  · exact h

theorem parallelingIsland_keeps (h : r.Keeps s) {n : IslandNotice} : r.Keeps (parallelingIsland s n) := by
  have judged := fun a => judgeTimers_keeps (Parts.Keeps.foldl (fun _ k => generatorAtIsland_keeps k) allGenerators
    (reviewGrants_keeps h (i := n.island)) (f := generatorAtIsland n.island)) (b := n.island.id) (restart := a)
  unfold parallelingIsland
  dsimp only
  refine .foldl (fun _ k => grantPass_keeps k) _ (clearTargets_keeps ?_)
  split
  · exact shareIsland_keeps (judged _)
  · exact judged _

theorem parallelingIslands_keeps (h : r.Keeps s) {ns : List IslandNotice} : r.Keeps (parallelingIslands ns s) :=
  .foldl (fun _ k => parallelingIsland_keeps k) _ h

theorem parallelingHeadroom_keeps (h : r.Keeps s) {bs : List Balance} : r.Keeps (parallelingHeadroom bs s) :=
  .foldl (fun _ k => judgeTimers_keeps k) _ h

theorem parallelingHoldEnded_keeps (h : r.Keeps s) : r.Keeps (parallelingHoldEnded s) :=
  .foldl (fun _ k => grantPass_keeps k) _ h

theorem parallelingSupply_keeps (h : r.Keeps s) : r.Keeps (parallelingSupply s) := by
  have seen : r.Keeps { s with paralleling.supplySeen := s.supplyWanted } := h.frame rfl
  refine .ite h (.ite (startWanted_keeps seen) (judgeShutdown_keeps (.foldl (fun _ k => ?_) _ seen)))
  split
  · exact .ite k (coolGenerator_keeps k)
  · exact .ite k (coolGenerator_keeps k)
  · exact .ite k (coolGenerator_keeps k)
  · exact k

theorem startLimitExpires_keeps (h : r.Keeps s) : r.Keeps (startLimitExpires g s) := .ite (failGenerator_keeps h) h

theorem syncLimitExpires_keeps (h : r.Keeps s) : r.Keeps (syncLimitExpires g s) := by
  refine .ite ?_ h
  split
  · exact failGenerator_keeps h
  · exact setGenerator_keeps h
  · exact h

theorem unloadLimitExpires_keeps (h : r.Keeps s) : r.Keeps (unloadLimitExpires g s) := .ite (disconnectGenerator_keeps h) h
theorem cooldownExpires_keeps (h : r.Keeps s) : r.Keeps (cooldownExpires g s) := .ite (restGenerator_keeps h) h
theorem stopNow_keeps (h : r.Keeps s) : r.Keeps (stopNow g s) := .ite h (enterFailed_keeps h)

theorem generatorRequest_keeps (h : r.Keeps s) {judge : GeneratorId → Parts → Parts × Status} {n : Nat}
    (judged : ∀ g, r.Keeps (judge g s).1) : r.Keeps (generatorRequest judge n s).1 := by
  unfold generatorRequest
  split
  · exact h
  · split
    · exact h
    · exact judged _

theorem startJudge_keeps (h : r.Keeps s) : r.Keeps (startJudge g s).1 := by
  have marked : r.Keeps (setGenerator g { s.gen g with mark := .run } s) := setGenerator_keeps h
  unfold startJudge
  dsimp only
  split
  · exact h
  · split
    · exact h
    · exact h
    · exact h
    · exact h
    · exact h
    · split
      · exact h
      · exact .ite (startGenerator_keeps marked) marked

theorem stopByState_keeps (h : r.Keeps s) : r.Keeps (stopByState g s) := by
  unfold stopByState
  split
  · exact coolGenerator_keeps h
  · exact coolGenerator_keeps h
  · exact coolGenerator_keeps h
  · exact disconnectGenerator_keeps h
  · exact disconnectGenerator_keeps h
  · exact unloadGenerator_keeps h
  · exact h

theorem stopJudge_keeps (h : r.Keeps s) : r.Keeps (stopJudge g s).1 := by
  unfold stopJudge
  dsimp only
  rw [apply_ite Prod.fst]
  exact .ite h (stopByState_keeps (setGenerator_keeps h))

theorem resetJudge_keeps (h : r.Keeps s) : r.Keeps (resetJudge g s).1 := by
  unfold resetJudge
  dsimp only
  repeat' split
  · exact h
  · exact h
  · exact restFrom_keeps h
  · exact h
  · exact setGenerator_keeps h

theorem generatorFromDevice_keeps (h : r.Keeps s) {y : GeneratorSettings} : r.Keeps (generatorFromDevice g y s) :=
  have copied := takeCopy_keeps h
  .ite (restFrom_keeps copied) (.ite (onlineFrom_keeps copied) (setGenerator_keeps copied))

theorem enterGenerator_keeps (h : r.Keeps s) : r.Keeps (enterGenerator s g) := by
  unfold enterGenerator
  split
  · exact generatorFromDevice_keeps h
  · exact setGenerator_keeps h

theorem reviewArbiters_keeps (h : r.Keeps s) : r.Keeps (reviewArbiters s) := h.frame rfl

theorem enterParalleling_keeps (h : r.Keeps s) : r.Keeps (enterParalleling s) := by
  have fresh : r.Keeps { s with paralleling := ParallelingUnit.initial } := h.frame rfl
  have entered := Parts.Keeps.foldl (f := enterGenerator) (fun _ k => enterGenerator_keeps k) allGenerators fresh
  unfold enterParalleling
  dsimp only
  generalize allGenerators.foldl enterGenerator _ = u at entered ⊢
  have seen : r.Keeps { u with paralleling.supplySeen := u.supplyWanted } := entered.frame rfl
  exact startWanted_keeps (.foldl (fun _ k => .ite (offered_keeps k) k) _ (reviewArbiters_keeps seen))

theorem generatorLoaded_keeps (h : r.Keeps s) : r.Keeps (generatorLoaded g s) := by
  refine .ite h ?_
  split
  · exact reviewArbiters_keeps (generatorFromDevice_keeps h)
  · exact h

theorem generatorAmended_keeps (h : r.Keeps s) : r.Keeps (generatorAmended g s) := .ite (useGenerator_keeps h) h

end
end Sys2Proof.Machine

namespace Sys2Proof.Machine

/-! ## The claim of the Changeover Unit -/

section
variable {r s t : Parts} {i : SideId}

theorem useDevice_changeover (d : DeviceId) (s : Parts) : (useDevice d s).1.changeover = s.changeover := by
  obtain ⟨ds, a, e⟩ := useDevice_writes d s
  rw [e]

theorem storeRefusal_changeover (s : Parts) (d : DeviceId) (w : Refused) :
    (storeRefusal s d w).changeover = s.changeover := Parts.setDevice_changeover ..

theorem acceptClose_changeover (s : Parts) (d : DeviceId) (q : Requester) (au : Authorisations) (n : Nat) :
    (acceptClose s d q au n).changeover = s.changeover := (recompute_changeover _).trans (Parts.setDevice_changeover ..)

/-- A close request touches nothing of the Changeover Unit. -/
theorem closeRequest_changeover (d : DeviceId) (q : Requester) (au : Authorisations) (s : Parts) :
    (closeRequest d q au s).1.changeover = s.changeover := by
  have read := useDevice_changeover d s
  unfold closeRequest
  dsimp only
  split
  · exact storeRefusal_changeover ..
  · split
    · exact (acceptClose_changeover ..).trans read
    · exact read
    · exact (storeRefusal_changeover ..).trans read

theorem closeFor_changeover (d : Option DeviceId) (s : Parts) : (closeFor d s).1.changeover = s.changeover := by
  unfold closeFor
  split
  · rfl
  · split
    · rfl
    · exact closeRequest_changeover ..

/-- A side may come into a state that takes the claim: the claim is free, or it is the side's own. -/
def Parts.mayClaim (s : Parts) (i : SideId) : Prop :=
  s.changeover.claim = none ∨ s.changeover.claim = some i ∨ (s.side i).state.claims = true

theorem Parts.mayClaim.of_eq (h : s.mayClaim i) (e : t.changeover = s.changeover) : t.mayClaim i := by
  simpa only [Parts.mayClaim, Parts.side, e] using h

/-- A side whose state holds the claim may take it. -/
theorem Parts.mayClaim.of_state {st : SideState} (e : (s.side i).state = st) (claims : st.claims = true) :
    s.mayClaim i := .inr (.inr (e ▸ claims))

/-- An update of the Changeover Unit alone. -/
theorem Parts.Keeps.sides (h : r.Keeps s) (apart : { t with changeover := s.changeover }.watched = s.watched)
    (claim : s.changeover.claimHeld → t.changeover.claimHeld) : r.Keeps t := by
  have k := h.frame apart
  exact ⟨k.accumulators, k.covers, k.closes, claim ∘ h.claim, k.queue⟩

theorem putSide_side {x : SideLive} : (putSide i x s).side i = x := getElem_set_fin_self _ _ _

theorem putSide_side_ne {x : SideLive} {j : SideId} (ne : j ≠ i) : (putSide i x s).side j = s.side j :=
  getElem_set_fin_ne _ _ _ _ ne.symm

/-- An entry leaves the claim with the sides whose states hold it. -/
theorem claimAfter_claimHeld {x : SideLive} (held : s.changeover.claimHeld)
    (ok : x.state.claims = true → s.mayClaim i) : (claimAfter i x.state (putSide i x s)).changeover.claimHeld := by
  have side : ∀ j, s.changeover.claim = some j ↔ (s.side j).state.claims = true := held
  have free : x.state.claims = true → s.changeover.claim = none ∨ s.changeover.claim = some i := fun claims =>
    (ok claims).imp_right fun or => or.elim id (side i).2
  have claimed : ∀ c, (∀ j, c = some j ↔ ((putSide i x s).side j).state.claims = true) →
      { (putSide i x s).changeover with claim := c }.claimHeld := fun c => id
  have states : ∀ j, ((putSide i x s).side j).state.claims = true ↔
      (j = i ∧ x.state.claims = true) ∨ (j ≠ i ∧ s.changeover.claim = some j) := fun j => by
    by_cases eq : j = i
    · subst eq
      simp [putSide_side]
    · simp [putSide_side_ne eq, eq, side j]
  have kept : (putSide i x s).changeover.claim = s.changeover.claim := rfl
  unfold claimAfter
  rw [kept]
  split
  next claims =>
    split
    next none =>
      refine claimed (some i) fun j => ?_
      rw [states, none]
      simp [claims, eq_comm]
    next some =>
      have own := (free claims).resolve_left some
      refine claimed s.changeover.claim fun j => ?_
      rw [states, own]
      simp only [Option.some.injEq, claims, and_true, ne_comm]
      by_cases eq : j = i
      · simp [eq]
      · simp [eq, Ne.symm eq]
  next plain =>
    split
    next own =>
      refine claimed none fun j => ?_
      rw [states, own]
      simp [plain, eq_comm]
    next other =>
      refine claimed s.changeover.claim fun j => ?_
      rw [states]
      simp only [plain, and_false, false_or, Bool.false_eq_true]
      exact ⟨fun e => ⟨fun eq => other (eq ▸ e), e⟩, And.right⟩

theorem claimAfter_keeps (h : r.Keeps s) {st : SideState} {x : SideLive} (entered : x.state = st)
    (ok : st.claims = true → s.mayClaim i) : r.Keeps (claimAfter i st (putSide i x s)) := by
  subst entered
  refine h.sides ?_ fun held => claimAfter_claimHeld held ok
  obtain ⟨c, ns, e⟩ := claimAfter_writes i x.state (putSide i x s)
  rw [e]
  rfl

/-- A side written in the state it is in. -/
theorem putSide_keeps (h : r.Keeps s) {x : SideLive} (same : x.state = (s.side i).state) : r.Keeps (putSide i x s) := by
  refine h.sides rfl fun held j => ?_
  have states : ((putSide i x s).side j).state = (s.side j).state := by
    by_cases eq : j = i
    · rw [eq, putSide_side, same]
    · rw [putSide_side_ne eq]
  have side := held j
  exact side.trans (by exact (congrArg (SideState.claims · = true) states.symm).to_iff)

theorem putSupply_keeps (h : r.Keeps s) {a : Bool} : r.Keeps (putSupply i a s) := by
  unfold putSupply
  dsimp only
  split
  · exact h
  · exact send_keeps (putSide_keeps h (by rfl))

theorem withdrawOf_frames (h : r.Keeps s) {st : SideState} : r.Keeps (withdrawOf i st s) := by
  unfold withdrawOf
  split
  · exact withdrawPreShed_keeps h
  · exact withdrawPreShed_keeps h
  · exact withdrawIslandSync_frames h
  · exact h

/-- An entry of a side, where the state may have the claim. -/
theorem enterSide_frames (h : r.Keeps s) {st : SideState} (ok : st.claims = true → s.mayClaim i) :
    r.Keeps (enterSide i st s) := by
  have left := withdrawOf_frames h (i := i) (st := (s.side i).state)
  have same := (withdrawOf_keeps i (s.side i).state s).2
  have claimed : ∀ x : SideLive, x.state = st → r.Keeps (claimAfter i st (putSide i x (withdrawOf i (s.side i).state s))) :=
    fun x entered => claimAfter_keeps left entered fun claims => (ok claims).of_eq same
  unfold enterSide
  dsimp only
  split
  · exact raise_keeps (markIf_keeps (putSupply_keeps (claimed _ (by rfl))))
  · exact markIf_keeps (putSupply_keeps (claimed _ (by rfl)))

theorem onSide_keeps {f : Parts → Parts} (h : r.Keeps (f s)) : r.Keeps (onSide i f s) := .ite h (send_keeps h)

theorem onSides_keeps {f : SideId → Parts → Parts} (step : ∀ {u} i, r.Keeps u → r.Keeps (f i u)) (h : r.Keeps s) :
    r.Keeps (onSides f s) := .foldl (fun i k => onSide_keeps (step i k)) _ h

/-! ## The Changeover Unit -/

/-- An entry of a side into a state that holds no claim. -/
theorem enterPlain_keeps (h : r.Keeps s) {st : SideState} (plain : st.claims = false := by rfl) :
    r.Keeps (enterSide i st s) := enterSide_frames h fun claims => absurd (plain.symm.trans claims) (by decide)

theorem openFor_keeps (h : r.Keeps s) {d : Option DeviceId} : r.Keeps (openFor d s).1 := by
  unfold openFor
  split
  · exact h
  next d =>
    have asked := openRequest_keeps h (d := d) (q := .changeover)
    split
    next e => exact asked.fst e
    next e =>
      split
      · exact asked.fst e
      · exact asked.fst e
    next e => exact asked.fst e

theorem putOpenWait_keeps (h : r.Keeps s) {w : OpenWait} : r.Keeps (putOpenWait i w s) := putSide_keeps h rfl
theorem putCloseSent_keeps (h : r.Keeps s) : r.Keeps (putCloseSent i s) := putSide_keeps h rfl
theorem putStep_keeps (h : r.Keeps s) {st : Step} : r.Keeps (putStep i st s) := putSide_keeps h rfl

theorem closeFor_keeps (h : r.Keeps s) {d : Option DeviceId} : r.Keeps (closeFor d s).1 := by
  unfold closeFor
  split
  · exact h
  · split
    · exact h
    · exact closeRequest_keeps h

theorem closeIncomer_keeps (h : r.Keeps s) : r.Keeps (closeIncomer i s) := by
  have asked := closeFor_keeps h (d := s.sideIncomer i)
  unfold closeIncomer
  split
  next e => exact asked.fst e
  next e => exact putCloseSent_keeps (asked.fst e)
  next e => exact enterPlain_keeps (asked.fst e)
  next e => exact enterPlain_keeps (asked.fst e)

theorem enterRtClosing_keeps (h : r.Keeps s) : r.Keeps (enterRtClosing i s) := closeIncomer_keeps (enterPlain_keeps h)

theorem preShedFor_keeps (h : r.Keeps s) {n : Nat} : r.Keeps (preShedFor i n s) := by
  unfold preShedFor
  split
  · exact requestPreShed_keeps h
  · exact send_keeps h

/-- The tie is chosen while nobody holds the claim alone. -/
theorem chooseSource_claims {own : Bool} (claims : (chooseSource s i own).claims = true) : s.changeover.claim = none := by
  have free : tieOption s i = true → s.changeover.claim = none := fun tie => by
    simp only [tieOption, Bool.and_eq_true, beq_iff_eq] at tie
    exact tie.1.1.2
  unfold chooseSource at claims
  split at claims
  · exact absurd claims (by decide)
  · split at claims
    · exact absurd claims (by decide)
    · split at claims
      next tie => exact free (Bool.and_eq_true_iff.1 tie).2
      next =>
        split at claims
        · exact absurd claims (by decide)
        · split at claims
          next tie => exact free (Bool.and_eq_true_iff.1 tie).2
          next => exact absurd claims (by decide)

theorem takeOption_keeps (h : r.Keeps s) {st : SideState} (ok : st.claims = true → s.mayClaim i) :
    r.Keeps (takeOption i st s) := by
  unfold takeOption
  split
  · exact enterRtClosing_keeps h
  · exact preShedFor_keeps (enterSide_frames h ok)
  · exact enterSide_frames h ok

theorem takeSource_keeps (h : r.Keeps s) {own : Bool} : r.Keeps (takeOption i (chooseSource s i own) s) :=
  takeOption_keeps h fun claims => .inl (chooseSource_claims claims)

theorem judgeDeadWait_keeps (h : r.Keeps s) : r.Keeps (judgeDeadWait i s) := .ite (takeSource_keeps h) h

theorem judgeAwait_keeps (h : r.Keeps s) : r.Keeps (judgeAwait i s) := by
  refine .ite ?_ h
  split
  · exact h
  · exact takeSource_keeps h

theorem judgeRtOpening_keeps (h : r.Keeps s) : r.Keeps (judgeRtOpening i s) :=
  .ite (.ite (enterRtClosing_keeps h) (takeSource_keeps h)) h

theorem enterRtOpening_keeps (h : r.Keeps s) {d : Option DeviceId} : r.Keeps (enterRtOpening i d s) :=
  judgeRtOpening_keeps (putOpenWait_keeps (openFor_keeps (enterPlain_keeps h)))

theorem enterRtSync_keeps (h : r.Keeps s) : r.Keeps (enterRtSync i s) := by
  have entered : r.Keeps (enterSide i .rtSync s) := enterPlain_keeps h
  unfold enterRtSync
  dsimp only
  split
  · exact requestIslandSync_keeps (putSide_keeps entered (by rfl))
  · exact putSide_keeps entered rfl

theorem retransfer_keeps (h : r.Keeps s) : r.Keeps (retransfer i s) := by
  refine .ite ?_ h
  split
  · exact enterRtOpening_keeps h
  · exact .ite (enterRtSync_keeps h) (enterRtOpening_keeps h)
  · exact h

theorem enterOnTie_keeps (h : r.Keeps s) (ok : s.mayClaim i) : r.Keeps (enterAlternate i .onTie s) :=
  retransfer_keeps (enterSide_frames h fun _ => ok)

theorem enterOnGen_keeps (h : r.Keeps s) : r.Keeps (enterAlternate i .onGen s) := retransfer_keeps (enterPlain_keeps h)

theorem openIntoDeadWait_keeps (h : r.Keeps s) {d : Option DeviceId} : r.Keeps (openIntoDeadWait i d s) :=
  enterPlain_keeps (openFor_keeps h)

/-- A side is derived into a state that holds the claim where it may take it alone. -/
theorem deriveSide_claims (claims : (deriveSide s i).claims = true) : s.mayClaim i := by
  unfold deriveSide at claims
  split at claims
  · split at claims <;> exact absurd claims (by decide)
  · split at claims
    next free => exact free.2.elim .inl fun own => .inr (.inl own)
    next => exact absurd claims (by decide)
  · exact absurd claims (by decide)
  · exact absurd claims (by decide)
  · exact absurd claims (by decide)

theorem takeDerivedState_keeps (h : r.Keeps s) {st : SideState} (ok : st.claims = true → s.mayClaim i) :
    r.Keeps (takeDerivedState i st s) := by
  unfold takeDerivedState
  split
  · exact retransfer_keeps (putSupply_keeps (enterPlain_keeps h))
  · exact enterOnTie_keeps h (ok rfl)
  · exact enterSide_frames h ok

theorem takeDerived_keeps (h : r.Keeps s) : r.Keeps (takeDerived i s) := takeDerivedState_keeps h deriveSide_claims

theorem deriveHeld_keeps (h : r.Keeps s) : r.Keeps (deriveHeld i s) := by
  refine .ite ?_ h
  split
  · exact h
  · exact takeDerived_keeps h

theorem genWaitReturns_keeps (h : r.Keeps s) : r.Keeps (genWaitReturns i s) := .ite (enterRtClosing_keeps h) h

theorem altTieFails_keeps (h : r.Keeps s) : r.Keeps (altTieFails i s) := by
  unfold altTieFails
  split
  · exact .ite (genWaitReturns_keeps (enterPlain_keeps h)) (enterPlain_keeps h)
  · exact enterPlain_keeps h

theorem closeTie_keeps (h : r.Keeps s) (ok : s.mayClaim i) : r.Keeps (closeTie i s) := by
  have asked := closeFor_keeps h (d := s.sideTie)
  have same := closeFor_changeover s.sideTie s
  unfold closeTie
  split
  next e => exact asked.fst e
  next e => exact putCloseSent_keeps (asked.fst e)
  next e =>
    rw [e] at same
    exact enterOnTie_keeps (asked.fst e) (ok.of_eq same)
  next e => exact altTieFails_keeps (asked.fst e)

theorem closeGeneratorTie_keeps (h : r.Keeps s) : r.Keeps (closeGeneratorTie i s) := by
  have asked := closeFor_keeps h (d := s.sideGeneratorTie i)
  unfold closeGeneratorTie
  split
  next e => exact asked.fst e
  next e => exact putCloseSent_keeps (enterPlain_keeps (asked.fst e))
  next e => exact enterOnGen_keeps (asked.fst e)
  next e => exact enterPlain_keeps (asked.fst e)

theorem judgeGenWait_keeps (h : r.Keeps s) : r.Keeps (judgeGenWait i s) := by
  refine .ite ?_ h
  split
  · exact preShedFor_keeps (putStep_keeps h)
  · exact h

theorem genWaitCloses_keeps (h : r.Keeps s) : r.Keeps (genWaitCloses i s) :=
  .ite (closeGeneratorTie_keeps (putStep_keeps h)) (genWaitReturns_keeps (putStep_keeps h))

theorem preShedCompleted_keeps (h : r.Keeps s) : r.Keeps (preShedCompleted i s) := by
  unfold preShedCompleted
  split
  next tie _ =>
    refine onSide_keeps (closeTie_keeps (putStep_keeps h) (.of_state (st := .altTie) ?_ rfl))
    exact (congrArg SideLive.state putSide_side).trans tie
  next => exact onSide_keeps (genWaitCloses_keeps h)
  next => exact h

theorem openDone_keeps (h : r.Keeps s) : r.Keeps (openDone i s) := by
  unfold openDone
  split
  · exact enterPlain_keeps h
  · exact enterPlain_keeps h
  · exact judgeRtOpening_keeps (putOpenWait_keeps h)
  · exact h

theorem closeDone_keeps (h : r.Keeps s) : r.Keeps (closeDone i s) := by
  unfold closeDone
  split
  next tie => exact enterOnTie_keeps h (.of_state tie rfl)
  next => exact enterOnGen_keeps h
  next => exact enterPlain_keeps h
  next =>
    have opened := putOpenWait_keeps (i := i) (w := (openFor (s.sideGeneratorTie i) (enterSide i .rtOverlap s)).2)
      (openFor_keeps (enterPlain_keeps h (i := i) (st := .rtOverlap)) (d := s.sideGeneratorTie i))
    exact .ite (enterPlain_keeps opened) opened
  next => exact h

theorem closeFails_keeps (h : r.Keeps s) : r.Keeps (closeFails i s) := by
  unfold closeFails
  split
  · exact altTieFails_keeps h
  · exact enterPlain_keeps h
  · exact enterPlain_keeps h
  · exact enterPlain_keeps h
  · exact h

theorem sideCompletion_keeps (h : r.Keeps s) {d : DeviceId} {w : Result} {a : Action} :
    r.Keeps (sideCompletion d w a i s) := by
  unfold sideCompletion
  split
  · exact .ite (openDone_keeps h) h
  · exact .ite (enterPlain_keeps h) h
  · exact h
  · exact .ite (closeDone_keeps h) h
  · exact .ite (closeFails_keeps h) h

theorem changeoverCompletion_keeps (h : r.Keeps s) {d : DeviceId} {w : Result} {a : Action} :
    r.Keeps (changeoverCompletion d w a s) := onSides_keeps (fun _ k => sideCompletion_keeps k) h

theorem startDead_keeps (h : r.Keeps s) {d : DeviceId} : r.Keeps (startDead i d s) := .ite (putSide_keeps h rfl) h

theorem sideOpens_keeps (h : r.Keeps s) {d : DeviceId} {o : Cause} : r.Keeps (sideOpens d o i s) := by
  have started := startDead_keeps h (i := i) (d := d)
  refine .ite (enterPlain_keeps started) (.ite (openDone_keeps started) ?_)
  split
  · exact .ite (enterPlain_keeps started) started
  · exact .ite (enterPlain_keeps started) started
  · exact .ite (enterPlain_keeps started) started
  · exact deriveHeld_keeps started
  · exact started

theorem sideCloses_keeps (h : r.Keeps s) : r.Keeps (sideCloses i s) := by
  unfold sideCloses
  split
  · exact takeDerived_keeps h
  · exact deriveHeld_keeps h
  · exact h

theorem sidePosition_keeps (h : r.Keeps s) {d : DeviceId} {p : Position} {o : Cause} :
    r.Keeps (sidePosition d p o i s) := by
  refine .ite h ?_
  split
  · exact sideOpens_keeps h
  · exact sideCloses_keeps h
  · exact h
  · exact h

theorem changeoverPosition_keeps (h : r.Keeps s) {d : DeviceId} {p : Position} {o : Cause} :
    r.Keeps (changeoverPosition d p o s) := onSides_keeps (fun _ k => sidePosition_keeps k) h

theorem sideIslands_keeps (h : r.Keeps s) {ns : List IslandNotice} : r.Keeps (sideIslands ns i s) := by
  unfold sideIslands
  split
  · exact judgeDeadWait_keeps h
  · exact judgeAwait_keeps h
  · exact judgeGenWait_keeps h
  · exact judgeRtOpening_keeps h
  · split
    · exact .ite (openIntoDeadWait_keeps h) h
    · exact h
  · exact h

theorem changeoverIslands_keeps (h : r.Keeps s) {ns : List IslandNotice} : r.Keeps (changeoverIslands ns s) :=
  onSides_keeps (fun _ k => sideIslands_keeps k) (h.frame rfl)

theorem changeoverHeadroom_keeps (h : r.Keeps s) : r.Keeps (changeoverHeadroom s) :=
  onSides_keeps (fun _ k => judgeGenWait_keeps k) h

theorem deadExpires_keeps (h : r.Keeps s) : r.Keeps (deadExpires i s) :=
  .ite (onSide_keeps (judgeRtOpening_keeps (judgeDeadWait_keeps (putSide_keeps h (by rfl))))) h

theorem sideOwnUtility_keeps (h : r.Keeps s) {q : Qualification} : r.Keeps (sideOwnUtility q i s) := by
  have opened := openFor_keeps h (d := s.sideIncomer i)
  unfold sideOwnUtility
  dsimp only
  split
  · refine .ite ?_ h
    split
    · exact putOpenWait_keeps (enterPlain_keeps opened)
    · exact enterPlain_keeps opened
  · exact genWaitReturns_keeps h
  · exact .ite (retransfer_keeps h) h
  · exact .ite (retransfer_keeps h) h
  · exact .ite (enterPlain_keeps h) h
  · exact .ite (.ite opened (enterPlain_keeps h)) h
  · exact judgeAwait_keeps h
  · exact deriveHeld_keeps h
  · exact h

theorem sideOtherUtility_keeps (h : r.Keeps s) {q : Qualification} : r.Keeps (sideOtherUtility q i s) := by
  unfold sideOtherUtility
  dsimp only
  split
  · exact .ite (.ite (openIntoDeadWait_keeps h) h) (.ite (enterPlain_keeps h) h)
  · exact .ite (openIntoDeadWait_keeps h) h
  · exact judgeAwait_keeps h
  · exact h

theorem sideQualification_keeps (h : r.Keeps s) {u : UtilityId} {q : Qualification} :
    r.Keeps (sideQualification u q i s) := by
  unfold sideQualification
  split
  · exact .ite (sideOwnUtility_keeps h) (sideOtherUtility_keeps h)
  · exact h

theorem setUtility_keeps (h : r.Keeps s) {u : UtilityId} {x : UtilityLive} : r.Keeps (setUtility u x s) := by
  have written : r.Keeps { s with changeover.utilities := s.changeover.utilities.set u x } := h.frame rfl
  have told := fun c => onSides_keeps (f := sideQualification u x.qualification) (fun _ k => sideQualification_keeps k)
    (mark_keeps (Parts.Keeps.ite (c := c = true) (recompute_keeps written) written) (i := utilityIndex u))
  exact .ite written (.ite (raise_keeps (told _)) (told _))

theorem utilityPointNotice_keeps (h : r.Keeps s) {n : PointNotice} {u : UtilityId} :
    r.Keeps (utilityPointNotice n s u) := by
  unfold utilityPointNotice
  dsimp only
  split
  · exact .ite h (.ite (.ite h (setUtility_keeps h)) (setUtility_keeps h))
  · exact h

theorem changeoverPoint_keeps (h : r.Keeps s) {n : PointNotice} : r.Keeps (changeoverPoint n s) :=
  .foldl (fun _ k => utilityPointNotice_keeps k) _ h

theorem lossExpires_keeps (h : r.Keeps s) {u : UtilityId} : r.Keeps (lossExpires u s) := by
  unfold lossExpires
  dsimp only
  split
  · exact setUtility_keeps h
  · exact h

theorem returnExpires_keeps (h : r.Keeps s) {u : UtilityId} : r.Keeps (returnExpires u s) := by
  unfold returnExpires
  dsimp only
  split
  · exact setUtility_keeps h
  · exact h

theorem utilityDamaged_keeps (h : r.Keeps s) {u : UtilityId} : r.Keeps (utilityDamaged u s) :=
  .ite h (raise_keeps (setUtility_keeps h))

theorem utilityAmended_keeps (h : r.Keeps s) {u : UtilityId} : r.Keeps (utilityAmended u s) := by
  have read : r.Keeps (useHeld s.store.utilities[u] (fun h s => s.putUtility u (some h)) (utilityIndex u)
      (utilityDamaged u) s).1 := useHeld_keeps (fun _ k => k.frame rfl) (fun k => utilityDamaged_keeps k) h
  refine .ite h ?_
  split
  next e => exact (read.fst e).frame rfl
  next e => exact read.fst e

theorem sideToldChange_keeps (h : r.Keeps s) {old : SideState} : r.Keeps (sideToldChange old i s) := by
  unfold sideToldChange
  dsimp only
  split
  · exact .ite (enterPlain_keeps h) h
  · exact .ite (openIntoDeadWait_keeps h) h
  · exact judgeAwait_keeps h
  · exact h

theorem sideToldRelease_keeps (h : r.Keeps s) : r.Keeps (sideToldRelease i s) := by
  unfold sideToldRelease
  split
  · exact judgeAwait_keeps h
  · exact deriveHeld_keeps h
  · exact h

theorem sideLockout_keeps (h : r.Keeps s) {d : DeviceId} : r.Keeps (sideLockout d i s) := .ite (enterPlain_keeps h) h

theorem sideHoldEnded_keeps (h : r.Keeps s) : r.Keeps (sideHoldEnded i s) := by
  unfold sideHoldEnded
  dsimp only
  refine .ite h ?_
  split
  next tie _ => exact .ite (closeTie_keeps h (.of_state tie rfl)) (enterPlain_keeps h)
  next => exact genWaitCloses_keeps h
  next => exact closeIncomer_keeps h
  next => exact h

theorem islandSyncAnswered_keeps (h : r.Keeps s) {a : Answer} : r.Keeps (islandSyncAnswered i a s) := by
  unfold islandSyncAnswered
  split
  · exact putSide_keeps h rfl
  · exact h

theorem retransferSyncExpires_keeps (h : r.Keeps s) : r.Keeps (retransferSyncExpires i s) :=
  .ite (onSide_keeps (enterRtOpening_keeps h)) h

theorem overlapExpires_keeps (h : r.Keeps s) {b : BusId} : r.Keeps (overlapExpires b s) := by
  have restarted : r.Keeps ({ s with changeover.overlaps := restartOverlap b s.changeover.overlaps }.raise .changeover) :=
    h.frame rfl
  refine .ite ?_ h
  dsimp only
  split
  · exact .foldl (fun _ k => sendOpen_keeps k) _ restarted
  · exact restarted

theorem sideManual_keeps (h : r.Keeps s) : r.Keeps (sideManual i s) :=
  enterPlain_keeps (withdrawIslandSync_frames (withdrawPreShed_keeps h))

theorem schemeManual_keeps (h : r.Keeps s) : r.Keeps (schemeManual s) :=
  onSides_keeps (fun _ k => sideManual_keeps k) (h.frame rfl)

theorem schemeDamaged_keeps (h : r.Keeps s) : r.Keeps (schemeDamaged s) := .ite h (raise_keeps (schemeManual_keeps h))

theorem useScheme_keeps (h : r.Keeps s) : r.Keeps (useScheme s).1 := by
  have read : r.Keeps (useHeld s.store.scheme (fun h s => s.putScheme (some h)) schemeIndex schemeDamaged s).1 :=
    useHeld_keeps (fun _ k => k.frame rfl) schemeDamaged_keeps h
  unfold useScheme
  split
  next e => exact (read.fst e).frame rfl
  next e => exact read.fst e

theorem sideOfIncomer_keeps (h : r.Keeps s) {d : DeviceId} : r.Keeps (sideOfIncomer d s).1 := by
  unfold sideOfIncomer
  split
  · exact h
  · exact useScheme_keeps h

theorem schemeModeRequest_keeps (h : r.Keeps s) {m : SchemeMode} : r.Keeps (schemeModeRequest m s).1 := by
  have read := useScheme_keeps h
  unfold schemeModeRequest
  split
  · exact h
  · split
    · exact h
    · split
      · dsimp only
        exact schemeManual_keeps h
      · split
        next e =>
          dsimp only
          exact onSides_keeps (fun _ k => takeDerived_keeps k) ((read.fst e).frame (by rfl))
        next e => exact read.fst e

theorem resetSideRequest_keeps (h : r.Keeps s) {n : Nat} : r.Keeps (resetSideRequest n s).1 := by
  unfold resetSideRequest
  repeat' split
  · exact h
  · exact h
  · exact h
  · dsimp only
    exact onSide_keeps (takeDerived_keeps h)

theorem schemeLoaded_keeps (h : r.Keeps s) : r.Keeps (schemeLoaded s) :=
  .ite h (.ite (onSides_keeps (fun _ k => sideManual_keeps k) (useScheme_keeps h)) (useScheme_keeps h))

theorem changeoverInitial_claimHeld : ChangeoverUnit.initial.claimHeld := by
  intro i
  revert i
  decide

theorem enterUtilities_keeps (h : r.Keeps s) : r.Keeps (enterUtilities s) :=
  h.sides rfl fun _ => changeoverInitial_claimHeld

theorem enterScheme_keeps (h : r.Keeps s) : r.Keeps (enterScheme s) :=
  .ite (onSides_keeps (fun _ k => takeDerived_keeps k) (h.frame (by rfl))) h

end
end Sys2Proof.Machine

namespace Sys2Proof.Machine

section
variable {r s t : Parts}

/-! ## Breaker failure -/

theorem askFurther_keeps (h : r.Keeps s) {d : DeviceId} : r.Keeps (askFurther d s).1 := by
  have asked := sideOfIncomer_keeps h (d := d)
  unfold askFurther
  split
  · split
    next e => exact assertIntertrip_keeps (asked.fst e)
    next e => exact asked.fst e
  · exact stopNow_keeps h
  · exact h

theorem takeBreakerFailure_keeps (h : r.Keeps s) {d : DeviceId} {o : Requester} : r.Keeps (takeBreakerFailure d o s) := by
  have placed := placeAutomatic_keeps h (kd := .breakerFailure) (o := .device d) (List.nodup_singleton d)
  have tripped := Parts.Keeps.foldl (fun x k => sendOpen_keeps k (d := x) (q := .breakerFailure))
    (backupSet (placeAutomatic .breakerFailure (.device d) [d] s) d) placed
  have asked := askFurther_keeps tripped (d := d)
  unfold takeBreakerFailure
  dsimp only
  generalize askFurther d _ = answered at asked ⊢
  exact (raise_keeps asked).frame (by rfl)

/-! ## Notices -/

theorem takeCompletion_keeps (h : r.Keeps s) {o : Requester} {d : DeviceId} {w : Result} {a : Action} :
    r.Keeps (takeCompletion o d w a s) := by
  unfold takeCompletion
  split
  · exact .ite (raise_keeps h) h
  · exact changeoverCompletion_keeps h
  · exact parallelingCompletion_keeps h
  · exact loadCompletion_keeps h
  · exact h
  · exact h
  · exact h
  · exact h

theorem takePositionNotice_keeps (h : r.Keeps s) {u : Consumer} {d : DeviceId} {p : Position} {o : Cause} :
    r.Keeps (takePositionNotice u d p o s) := by
  unfold takePositionNotice
  split
  · exact changeoverPosition_keeps h
  · exact parallelingPosition_keeps h
  · exact loadPosition_keeps h

theorem takeIslands_keeps (h : r.Keeps s) {u : Consumer} {ns : List IslandNotice} : r.Keeps (takeIslands u ns s) := by
  cases u with
  | changeover => exact changeoverIslands_keeps h
  | paralleling => exact parallelingIslands_keeps h
  | load => exact loadIslands_keeps h

theorem parallelingPoint_keeps (h : r.Keeps s) {n : PointNotice} : r.Keeps (parallelingPoint n s) := by
  have run := runIslandSync_keeps h (p := n.point)
  unfold parallelingPoint
  split
  · exact h
  · dsimp only
    refine runHostSync_keeps ?_
    split
    · exact onSide_keeps (islandSyncAnswered_keeps run)
    · exact run

theorem takePoint_keeps (h : r.Keeps s) {u : PointUser} {n : PointNotice} : r.Keeps (takePoint u n s) := by
  cases u with
  | protection => exact protectionPoint_keeps h
  | topology => exact topologyPoint_keeps h
  | changeover => exact changeoverPoint_keeps h
  | paralleling => exact parallelingPoint_keeps h
  | load => exact loadPoint_keeps h

theorem takeHoldEnded_keeps (h : r.Keeps s) {u : Consumer} : r.Keeps (takeHoldEnded u s) := by
  cases u with
  | changeover => exact onSides_keeps (fun _ k => sideHoldEnded_keeps k) h
  | paralleling => exact parallelingHoldEnded_keeps h
  | load => exact send_keeps h

theorem takeNotice_keeps (h : r.Keeps s) {n : Notice} : r.Keeps (takeNotice n s) := by
  unfold takeNotice
  split
  · exact takeCompletion_keeps h
  · exact takeBreakerFailure_keeps h
  · exact takePositionNotice_keeps h
  · exact takeConducting_keeps h
  · exact recompute_keeps h
  · exact takeIslands_keeps h
  · exact takePoint_keeps h
  · exact parallelingReport_keeps h
  · exact parallelingLane_keeps h
  · exact formContent_keeps h
  · exact .ite (onSides_keeps (fun _ k => sideLockout_keeps k) h) h
  · exact takeHoldEnded_keeps h
  · exact preShedCompleted_keeps h
  · exact parallelingSupply_keeps h
  · exact loadReview_keeps h
  · exact changeoverHeadroom_keeps h
  · exact parallelingHeadroom_keeps h
  · exact h
  · exact grantPass_keeps h
  · exact shareFor_keeps h
  · exact onSide_keeps (sideToldChange_keeps h)
  · exact onSide_keeps (sideToldRelease_keeps h)
  · exact reviewMoved_keeps (restoreAttempt_keeps h)

theorem sendHeadrooms_keeps (h : r.Keeps s) : r.Keeps (sendHeadrooms s) := by
  have noted : r.Keeps { s with load.notified := s.topology.islands.map s.balanceOf, load.due := false } := h.frame rfl
  exact .ite noted (sendAll_keeps noted)

theorem settleLoop_keeps {n : Nat} (h : r.Keeps s) : r.Keeps (settleLoop n s) := by
  induction n generalizing s with
  | zero => exact h
  | succ n ih =>
    unfold settleLoop
    split
    · exact ih (takeNotice_keeps (h.frame (by rfl)))
    · exact .ite (ih (sendHeadrooms_keeps h)) h

theorem settle_keeps (h : r.Keeps s) : r.Keeps (settle s) := settleLoop_keeps h

/-! ## The Record Store -/

theorem putIf_keeps {α : Type} (h : r.Keeps s) {o : Option (Held α)} {put : Option (Held α) → Parts}
    (written : ∀ x, r.Keeps (put x)) : r.Keeps (putIf o put s) := by
  cases o with
  | none => exact h
  | some x => exact written _

/-- A record written that is no lockout record. -/
theorem putRecord_keeps (h : r.Keeps s) {n : RecordName} (other : n.kind ≠ .lockout) {x : Held AnySettings} :
    r.Keeps (s.putRecord n x) := by
  cases n with
  | lockout k => exact absurd rfl other
  | _ => exact putIf_keeps h fun _ => h.frame rfl

theorem record_lockout (s : Parts) (k : SlotId) : s.record (.lockout k) = s.store.lockouts[k].map (Held.map .lockout) := rfl

theorem putRecord_lockout (s : Parts) (k : SlotId) (x : Held LockoutSettings) :
    s.putRecord (.lockout k) (x.map .lockout) = s.putLockout k (some x) := rfl

/-- A lockout record rewritten under its set as last written, SOUND or CORRECTED as before. -/
theorem putLockout_keeps (h : r.Keeps s) {k : SlotId} {x y : Held LockoutSettings} (stored : s.store.lockouts[k] = some x)
    (life : y.retired = x.retired) (set : writtenSet y = writtenSet x)
    (covers : (y.integrity != .damaged) = (x.integrity != .damaged)) : r.Keeps (s.putLockout k (some y)) :=
  h.trans ((putLockout_locks stored life set covers).keeps fun _ => id)

theorem applyUpset_keeps (h : r.Keeps s) {u : Upset} : r.Keeps (applyUpset s u) := by
  unfold applyUpset
  generalize recordAt u.position = n
  split
  next x e =>
    split
    next kind =>
      by_cases other : n.kind = .lockout
      · cases n with
        | lockout k =>
          rw [record_lockout, Option.map_eq_some_iff] at e
          obtain ⟨y, stored, rfl⟩ := e
          cases found : u.found with
          | lockout z =>
            exact putLockout_keeps h stored (y := { y with
              settings := z, code := { y.code with restores := u.restorable } }) rfl rfl rfl
          | _ => rw [found] at kind; exact absurd kind (by simp [kindOf, RecordName.kind])
        | _ => exact absurd other (by simp [RecordName.kind])
      · exact putRecord_keeps h other
    next => exact h
  next => exact h

/-- A lockout record read by its name is read as the Lockout Table reads it. -/
theorem useRecord_lockout (k : SlotId) (s : Parts) : (useRecord (.lockout k) s).1 = (useLockout k s).1 := by
  unfold useRecord useLockout useHeld
  rw [record_lockout]
  cases s.store.lockouts[k] with
  | none => rfl
  | some x =>
    have outcome : (x.map AnySettings.lockout).outcome = x.outcome := by
      by_cases e : x.settings = x.code.covers
      · simp only [Held.outcome, Held.map, e, if_true]
      · have e' : ¬AnySettings.lockout x.settings = .lockout x.code.covers := fun same => e (AnySettings.lockout.inj same)
        rw [Held.outcome, Held.outcome, if_neg e]
        exact if_neg e'
    simp only [Option.map_some, Held.map, checkHeld] at outcome ⊢
    rw [outcome]
    split
    · rfl
    · split <;> rfl

theorem damageNotice_keeps (h : r.Keeps s) {n : RecordName} (other : n.kind ≠ .lockout) :
    r.Keeps (damageNotice n s) := by
  cases n with
  | station => exact h
  | bus b => exact busDamaged_keeps h
  | utility u => exact utilityDamaged_keeps h
  | generator g => exact generatorDamaged_keeps h
  | device d => exact h
  | block l => exact blockDamaged_keeps h
  | element e => exact elementDamaged_keeps h
  | lockout k => exact absurd rfl other
  | scheme => exact schemeDamaged_keeps h
  | point p => exact h

theorem useRecord_keeps (h : r.Keeps s) {n : RecordName} : r.Keeps (useRecord n s).1 := by
  by_cases other : n.kind = .lockout
  · cases n with
    | lockout k =>
      rw [useRecord_lockout]
      exact useLockout_keeps h
    | _ => exact absurd other (by simp [RecordName.kind])
  · exact useHeld_keeps (fun _ k => putRecord_keeps k other) (fun k => damageNotice_keeps k other) h

theorem scrubExpires_keeps (h : r.Keeps s) : r.Keeps (scrubExpires s) := by
  unfold scrubExpires
  split
  · exact .ite ((useRecord_keeps h).frame (by rfl)) h
  · exact h

theorem scrubStep_keeps (h : r.Keeps s) {us : List Upset} : r.Keeps (scrubStep us s) :=
  scrubExpires_keeps (.foldl (fun _ k => applyUpset_keeps k) _ h)

theorem rebuildEntry_keeps (h : r.Keeps s) {d : DeviceId} : r.Keeps (rebuildEntry s d) := by
  have read := useDevice_keeps h (d := d)
  refine .ite ?_ (h.frame rfl)
  split
  next e => exact (read.fst e).frame rfl
  next e => exact read.fst e

theorem rebuildIndex_keeps (h : r.Keeps s) : r.Keeps (rebuildIndex s) := .foldl (fun _ k => rebuildEntry_keeps k) _ h

theorem rebuildGuard_keeps (h : r.Keeps s) {e : ElementId} : r.Keeps (rebuildGuard s e) := by
  have read := useElement_keeps h (e := e)
  refine .ite ?_ (h.frame rfl)
  split
  next e => exact (read.fst e).frame rfl
  next e => exact read.fst e

theorem rebuildGuards_keeps (h : r.Keeps s) : r.Keeps (rebuildGuards s) := .foldl (fun _ k => rebuildGuard_keeps k) _ h

theorem takeAllConducting_keeps (h : r.Keeps s) : r.Keeps (takeAllConducting s) := h.frame (by simp only [Parts.watched, takeAllConducting])

theorem rebuildFor_keeps (h : r.Keeps s) {n : RecordName} : r.Keeps (rebuildFor n s) := by
  unfold rebuildFor
  split
  · exact recompute_keeps (takeAllConducting_keeps (rebuildIndex_keeps h))
  · exact rebuildGuards_keeps h
  · exact h

/-! ## LOAD, AMEND and RETIRE -/

theorem loadNotice_keeps (h : r.Keeps t) {n : RecordName} (other : n.kind ≠ .lockout) : r.Keeps (loadNotice n s t) := by
  cases n with
  | device d => exact replaceDevice_keeps h
  | element e => exact elementLoaded_keeps h
  | generator g => exact generatorLoaded_keeps h
  | block l => exact blockLoaded_keeps h
  | lockout k => exact absurd rfl other
  | scheme => exact schemeLoaded_keeps h
  | _ => exact h

/-- A set that a LOAD spells names no device twice. -/
theorem readLockout_nodup {ps : List FieldPair} {x : LockoutSettings} (h : readLockout ps = some x) : x.devices.Nodup := by
  simp only [readLockout, Option.bind_eq_bind, Option.bind_eq_some_iff, guardThat] at h
  obtain ⟨kind, _, origin, _, named, _, reason, _, h⟩ := h
  split at h
  · cases h
    exact ascending_nodup named
  · cases h

theorem loadRecord_keeps (h : r.Keeps s) {n : RecordName} {ps : List FieldPair} {x : AnySettings}
    (read : readSettings n.kind ps = some x) (admitted : loadAdmitted n s = true) : r.Keeps (loadRecord n x s) := by
  by_cases other : n.kind = .lockout
  · cases n with
    | lockout k =>
      obtain ⟨y, readY, rfl⟩ := Option.map_eq_some_iff.1 read
      cases stored : s.store.lockouts[k] with
      | none =>
        simp only [loadAdmitted, stored] at admitted
        exact absurd admitted (by simp [isActive])
      | some former =>
        have loaded := lockoutLoaded_keeps h stored (readLockout_nodup readY)
        simp only [loadRecord, loadNotice, rebuildFor, stored]
        exact loaded
    | _ => exact absurd other (by simp [RecordName.kind])
  · exact loadNotice_keeps (rebuildFor_keeps (putRecord_keeps h other)) other

theorem loadNamed_keeps (h : r.Keeps s) {n : RecordName} {ps : List FieldPair} : r.Keeps (loadNamed n ps s).1 := by
  unfold loadNamed
  split
  · exact h
  · split
    · exact h
    next x read =>
      split
      · exact h
      · split
        · exact h
        next admitted =>
          dsimp only
          exact loadRecord_keeps h read (by simpa using admitted)

theorem loadRequest_keeps (h : r.Keeps s) {kind index : Nat} {ps : List FieldPair} :
    r.Keeps (loadRequest kind index ps s).1 := by
  unfold loadRequest
  repeat' split
  · exact h
  · exact h
  · exact loadNamed_keeps h

theorem amendNotice_keeps (h : r.Keeps s) {n : RecordName} {fields : List Nat} : r.Keeps (amendNotice n fields s) := by
  cases n with
  | utility u => exact utilityAmended_keeps h
  | generator g => exact generatorAmended_keeps h
  | block l => exact blockAmended_keeps h
  | element e => exact .ite (useElement_keeps h) h
  | _ => exact h

theorem amendNamed_keeps (h : r.Keeps s) {n : RecordName} (other : n.kind ≠ .lockout) {ps : List FieldPair} :
    r.Keeps (amendNamed n ps s).1 := by
  have read := useRecord_keeps h (n := n)
  unfold amendNamed
  split
  · exact h
  · split
    · exact h
    · split
      · exact h
      · split
        · exact h
        · split
          next e => exact read.fst e
          next e =>
            split
            · split
              · exact read.fst e
              · dsimp only
                exact amendNotice_keeps (putRecord_keeps (read.fst e) other)
            · exact read.fst e

/-- The record that a kind and an index name is of that kind. -/
theorem recordNamed_kind {k : RecordKind} {i : Nat} {n : RecordName} (h : recordNamed k i = some n) : n.kind = k := by
  cases k with
  | station => simp only [recordNamed, Option.ite_none_right_eq_some] at h; cases h.2; rfl
  | scheme => simp only [recordNamed, Option.ite_none_right_eq_some] at h; cases h.2; rfl
  | _ =>
    obtain ⟨_, _, rfl⟩ := Option.map_eq_some_iff.1 h
    rfl

theorem amendRequest_keeps (h : r.Keeps s) {kind index : Nat} {ps : List FieldPair} :
    r.Keeps (amendRequest kind index ps s).1 := by
  unfold amendRequest
  split
  · exact h
  · exact h
  next other _ =>
    split
    · exact h
    next named => exact amendNamed_keeps h fun e => other ((recordNamed_kind named).symm.trans e)

theorem retireNotice_keeps (h : r.Keeps s) {n : RecordName} : r.Keeps (retireNotice n s) := by
  unfold retireNotice
  split
  · exact replaceDevice_keeps h
  · exact h

theorem retireNamed_keeps (h : r.Keeps s) {n : RecordName} (other : n.kind ≠ .lockout) : r.Keeps (retireNamed n s).1 := by
  unfold retireNamed
  split
  · exact h
  · split
    · exact h
    · split
      · exact h
      · dsimp only
        have retired := rebuildFor_keeps (putRecord_keeps h other (x := { ‹Held AnySettings› with retired := true })) (n := n)
        exact retireNotice_keeps retired

theorem retireRequest_keeps (h : r.Keeps s) {kind index : Nat} : r.Keeps (retireRequest kind index s).1 := by
  unfold retireRequest
  split
  · exact h
  · exact h
  next other _ =>
    split
    · exact h
    next named => exact retireNamed_keeps h fun e => other ((recordNamed_kind named).symm.trans e)

end
end Sys2Proof.Machine

namespace Sys2Proof.Machine

section
variable {r s t : Parts}

/-! ## Service Control -/

theorem readActive_keeps {ns : List RecordName} (h : r.Keeps s) : r.Keeps (readActive ns s).1 := by
  induction ns generalizing s with
  | nil => exact h
  | cons n ns ih =>
    unfold readActive
    split
    · exact ih h
    · split
      · exact ih h
      · have read := useRecord_keeps h (n := n)
        split
        next e => exact ih (read.fst e)
        next e => exact read.fst e

theorem judgeEntry_keeps (h : r.Keeps s) : r.Keeps (judgeEntry s).1 := by
  have read := readActive_keeps h (ns := allRecords)
  unfold judgeEntry
  split
  · exact h
  · split
    · exact h
    · split
      · exact h
      · split
        next e => exact read.fst e
        next e => exact read.fst e

theorem enterTopology_keeps (h : r.Keeps s) : r.Keeps (enterTopology s) := h.frame (by rfl)

theorem enterParts_keeps (h : r.Keeps s) {x : StationSettings} : r.Keeps (enterParts x s) := by
  have indexed := rebuildGuards_keeps (rebuildIndex_keeps (h.frame (t := enterStation x s) rfl))
  have placed : r.Keeps (enterDevices (enterUtilities (enterLanes x (rebuildGuards (rebuildIndex (enterStation x s)))))) :=
    .foldl (fun _ k => placeDevice_keeps k) _ (enterUtilities_keeps (enterLanes_keeps indexed))
  have entered := enterProtection_keeps (enterLoads_keeps (enterParalleling_keeps (enterScheme_keeps
    (enterTopology_keeps placed))))
  have held : ∀ {u}, r.Keeps u → r.Keeps (enterLockouts u) := fun k => .ite k (addHold_keeps k)
  unfold enterParts
  dsimp only
  generalize enterProtection _ = u at entered ⊢
  exact (held entered).frame (by rfl)

theorem enterRequest_keeps (h : r.Keeps s) : r.Keeps (enterRequest s).1 := by
  have judged := judgeEntry_keeps h
  unfold enterRequest
  split
  next e => exact judged.fst e
  next e =>
    split
    · dsimp only
      exact enterParts_keeps (judged.fst e)
    · exact judged.fst e

theorem markMoved_keeps (h : r.Keeps s) {before : Parts} : r.Keeps (markMoved before s) :=
  .foldl (fun _ k => markIf_keeps k) _ h

theorem loadInitial_queue : LoadUnit.initial.queue = [] ∧ ∀ l : BlockId, LoadUnit.initial.blocks[l].state ≠ .shed :=
  ⟨rfl, fun l => by simp only [LoadUnit.initial, BlockLive.initial, Fin.getElem_fin, Vector.getElem_replicate]; nofun⟩

/-- No block is SHED and none queued in the Load Unit's first values. -/
theorem queueHoldsTheShed_initial (e : s.load = LoadUnit.initial) : s.queueHoldsTheShed := by
  obtain ⟨empty, plain⟩ := loadInitial_queue
  rw [Parts.queueHoldsTheShed_iff, e, empty]
  exact ⟨.nil, fun l => ⟨by nofun, fun shed => absurd shed (plain l)⟩, .nil⟩

theorem noLockedClose_of_initial {p : DeviceId → Pattern}
    (e : ∀ d : DeviceId, s.switching.devices[d] = DeviceLive.initial (p d)) : s.noLockedClose := fun d closing => by
  rw [e d] at closing
  exact absurd closing (by nofun)

theorem outOfService_keeps (h : r.Keeps s) : r.Keeps (outOfService s) := by
  refine h.trans ⟨fun _ => protectionInitial_lawful _, fun counted => counted, fun _ => ?_,
    fun _ => changeoverInitial_claimHeld, fun _ => queueHoldsTheShed_initial rfl⟩
  refine noLockedClose_of_initial (p := fun d => s.switching.devices[d].pattern) fun d => ?_
  simp only [outOfService, Fin.getElem_fin, Vector.getElem_map]

theorem leaveParts_keeps (h : r.Keeps s) : r.Keeps (leaveParts s) := markMoved_keeps (outOfService_keeps h)

theorem leaveRequest_keeps (h : r.Keeps s) : r.Keeps (leaveRequest s).1 := by
  unfold leaveRequest
  repeat' split
  · exact h
  · exact h
  · exact h
  · dsimp only
    exact leaveParts_keeps h

theorem holdRequest_keeps (h : r.Keeps s) : r.Keeps (holdRequest s).1 := by
  unfold holdRequest
  repeat' split
  · exact h
  · exact h
  · exact addHold_keeps h

theorem resumeRequest_keeps (h : r.Keeps s) : r.Keeps (resumeRequest s).1 := by
  unfold resumeRequest
  repeat' split
  · exact h
  · exact h
  · exact removeHold_keeps h

/-! ## Requests at the port and at the Switching Unit -/

theorem soundAgain_keeps (h : r.Keeps s) {n : RecordName} : r.Keeps (soundAgain n s) := by
  unfold soundAgain
  split
  next x e =>
    split
    next corrected =>
      by_cases other : n.kind = .lockout
      · cases n with
        | lockout k =>
          rw [record_lockout, Option.map_eq_some_iff] at e
          obtain ⟨y, stored, rfl⟩ := e
          have corrected : y.integrity = .corrected := corrected
          exact putLockout_keeps h stored (y := { y with integrity := .sound }) rfl rfl (by rw [corrected]; rfl)
        | _ => exact absurd other (by simp [RecordName.kind])
      · exact putRecord_keeps h other
    next => exact h
  next => exact h

theorem readRequest_keeps (h : r.Keeps s) {kind index : Nat} : r.Keeps (readRequest kind index s).1 := by
  unfold readRequest
  repeat' split
  · exact h
  · exact h
  · exact unmark_keeps (soundAgain_keeps h)

theorem acknowledgeRequest_keeps (h : r.Keeps s) {flags : Nat} : r.Keeps (acknowledgeRequest flags s).1 := by
  unfold acknowledgeRequest
  split
  · exact h
  · exact h.frame rfl

theorem operateRequest_keeps (h : r.Keeps s) {n : Nat} {a : Action} : r.Keeps (operateRequest n a s).1 := by
  unfold operateRequest
  split
  · exact h
  · split
    · exact h
    · cases a with
      | close => exact closeRequest_keeps h
      | _ => exact openRequest_keeps h

theorem acknowledgeFailureRequest_keeps (h : r.Keeps s) {n : Nat} : r.Keeps (acknowledgeFailureRequest n s).1 := by
  unfold acknowledgeFailureRequest
  split
  · exact h
  · exact acknowledgeDevice_keeps h

theorem releaseIntertripRequest_keeps (h : r.Keeps s) {n : Nat} : r.Keeps (releaseIntertripRequest n s).1 := by
  unfold releaseIntertripRequest
  split
  · exact h
  · exact releaseIntertripOf_keeps h

/-! ## Power-on, and the passing of time -/

theorem countP_slotCovers_initial (d : DeviceId) (e : s.store = RecordStore.initial) :
    allSlots.countP (s.slotCovers d) = 0 := by
  refine List.countP_eq_zero.2 fun k _ => ?_
  simp [Parts.slotCovers, e, RecordStore.initial]

/-- The part has the five invariants of the blocks as it starts. -/
theorem started_invariants (levels : InputLevels) (station : Option StationSettings) (f : Int) (n : Nat) :
    let p := Parts.started levels station f n
    p.protection.accumulatorLaw ∧ p.coversCounted ∧ p.noLockedClose ∧ p.changeover.claimHeld ∧ p.queueHoldsTheShed := by
  refine ⟨protectionInitial_lawful _, ⟨fun k x stored => ?_, fun d => ?_⟩, ?_, changeoverInitial_claimHeld,
    queueHoldsTheShed_initial rfl⟩
  · simp [Parts.started, RecordStore.initial] at stored
  · rw [countP_slotCovers_initial d rfl]
    simp [Parts.started, LockoutTable.initial]
  · exact noLockedClose_of_initial (p := fun d => levels.patterns[d]) fun d => by
      simp [Parts.started, SwitchingUnit.initial]

theorem started_keeps {levels : InputLevels} {station : Option StationSettings} {f : Int} {n : Nat} :
    r.Keeps (Parts.started levels station f n) := by
  obtain ⟨law, counted, free, held, queue⟩ := started_invariants levels station f n
  exact ⟨fun _ => law, fun _ => counted, fun _ => free, fun _ => held, fun _ => queue⟩

theorem elapse_keeps (h : r.Keeps s) : r.Keeps s.elapse := by
  refine h.trans ⟨fun law e => ?_, id, fun free d closing => ?_, fun held i => ?_, id⟩
  · have kept := law e
    simp only [Parts.elapse, Fin.getElem_fin, Vector.getElem_map] at kept ⊢
    exact kept
  · refine free d ?_
    simp only [Parts.elapse, Fin.getElem_fin, Vector.getElem_map] at closing ⊢
    exact closing
  · have kept := held i
    simp only [Parts.elapse, Fin.getElem_fin, Vector.getElem_map] at kept ⊢
    exact kept

end

/-! ## Commands and steps -/

section
variable {s t : State}

theorem event_keeps {f : Parts → Parts} (h : s.parts.Keeps (f s.parts)) (e : event f s = .next t) :
    s.parts.Keeps t.parts := by
  unfold event at e
  split at e <;> cases e
  · exact .refl
  · exact settle_keeps h

theorem taking_keeps {code : Nat} {tag : Byte} {owner : Parts → Parts × Status × List Byte}
    (h : s.parts.Keeps (owner s.parts).1) (e : taking code tag owner s = .next t) : s.parts.Keeps t.parts := by
  unfold taking at e
  split at e <;> cases e
  · exact .refl
  · exact settle_keeps h

theorem inquiry_keeps {code : Nat} {tag : Byte} {owner : Parts → Parts × Status × List Byte}
    (h : s.parts.Keeps (owner s.parts).1) (e : inquiry code tag owner s = .next t) : s.parts.Keeps t.parts := by
  unfold inquiry at e
  split at e <;> cases e
  · exact .refl
  · exact h

/-- Every command keeps the five invariants of the blocks. -/
theorem exec_keeps {i : Instr} (e : exec i s = .next t) : s.parts.Keeps t.parts := by
  have h : s.parts.Keeps s.parts := .refl
  cases i with
  | powerOn levels => cases e; exact started_keeps
  | resetAssert => cases e; exact h
  | resetRelease levels =>
    simp only [exec, execResetRelease] at e
    split at e <;> cases e
    · exact started_keeps
    · exact h
  | authorityChange a =>
    simp only [exec, execAuthorityChange] at e
    split at e <;> cases e
    · exact h
    · exact h.frame rfl
  | sselAssertion =>
    simp only [exec, execSselAssertion] at e
    split at e <;> cases e <;> exact h
  | spiTransaction bytes =>
    simp only [exec, execSpiTransaction] at e
    split at e <;> cases e <;> exact h
  | deviceInputChange d input level => exact event_keeps (takeInput_keeps h) e
  | read tag kind index => exact inquiry_keeps (readRequest_keeps h) e
  | readChanged tag kind => exact inquiry_keeps (owner := fun s => (s, _)) h e
  | readIslands tag => exact inquiry_keeps (owner := fun s => (s, _)) h e
  | readSummary tag => exact inquiry_keeps (owner := fun s => (s, _)) h e
  | acknowledge tag flags => exact inquiry_keeps (acknowledgeRequest_keeps h) e
  | unknownRequest frame => exact inquiry_keeps (owner := fun s => (s, _)) h e
  | load tag kind index pairs => exact taking_keeps (loadRequest_keeps h) e
  | amend tag kind index pairs => exact taking_keeps (amendRequest_keeps h) e
  | retire tag kind index => exact taking_keeps (retireRequest_keeps h) e
  | operate tag device action => exact taking_keeps (operateRequest_keeps h) e
  | syncClose tag device => exact taking_keeps (syncCloseRequest_keeps h) e
  | acknowledgeFailure tag device => exact taking_keeps (acknowledgeFailureRequest_keeps h) e
  | releaseIntertrip tag side => exact taking_keeps (releaseIntertripRequest_keeps h) e
  | placeLockout tag reason devices => exact taking_keeps (placeRequest_keeps h) e
  | addDevices tag slot devices => exact taking_keeps (addRequest_keeps h) e
  | dropDevices tag slot devices => exact taking_keeps (dropRequest_keeps h) e
  | releaseLockout tag slot => exact taking_keeps (releaseRequest_keeps h) e
  | resetElement tag element => exact taking_keeps (resetElementRequest_keeps h) e
  | testInject tag point values mode duration => exact taking_keeps (injectRequest_keeps h) e
  | endTest tag point => exact taking_keeps (endTestRequest_keeps h) e
  | schemeMode tag mode => exact taking_keeps (schemeModeRequest_keeps h) e
  | resetSide tag side => exact taking_keeps (resetSideRequest_keeps h) e
  | generatorStart tag generator => exact taking_keeps (generatorRequest_keeps h fun _ => startJudge_keeps h) e
  | generatorStop tag generator => exact taking_keeps (generatorRequest_keeps h fun _ => stopJudge_keeps h) e
  | resetGenerator tag generator => exact taking_keeps (generatorRequest_keeps h fun _ => resetJudge_keeps h) e
  | holdBlock tag block => exact taking_keeps (blockRequest_keeps h fun _ _ => holdBlockJudge_keeps h) e
  | releaseBlock tag block => exact taking_keeps (blockRequest_keeps h fun _ _ => releaseBlockJudge_keeps h) e
  | shedBlock tag block => exact taking_keeps (blockRequest_keeps h fun _ _ => shedBlockJudge_keeps h) e
  | restoreBlock tag block => exact taking_keeps (blockRequest_keeps h fun _ _ => restoreBlockJudge_keeps h) e
  | hold tag => exact taking_keeps (holdRequest_keeps h) e
  | resume tag => exact taking_keeps (resumeRequest_keeps h) e
  | enterService tag => exact taking_keeps (enterRequest_keeps h) e
  | leaveService tag => exact taking_keeps (leaveRequest_keeps h) e
  | laneCharacter lane character => exact event_keeps (takeCharacter_keeps h) e
  | laneBreak lane => exact event_keeps (takeBreak_keeps h) e
  | silenceTimerExpiry lane => exact event_keeps (silenceExpires_keeps h) e
  | setpointTransmitDone lane => exact event_keeps (transmissionEnds_keeps h) e
  | testIntervalExpiry point => exact event_keeps (testIntervalExpires_keeps h) e
  | testDurationExpiry point => exact event_keeps (testDurationExpires_keeps h) e
  | scrubStep upsets => exact event_keeps (scrubStep_keeps h) e
  | closeLimitExpiry device => exact event_keeps (closeLimitExpires_keeps h) e
  | openTimerExpiry device => exact event_keeps (openTimerExpires_keeps h) e
  | persistenceTimerExpiry device => exact event_keeps (persistenceExpires_keeps h) e
  | blindTimerExpiry element => exact event_keeps (blindExpires_keeps h) e
  | zoneTimerExpiry element => exact event_keeps (zoneExpires_keeps h) e
  | lossTimerExpiry utility => exact event_keeps (lossExpires_keeps h) e
  | returnTimerExpiry utility => exact event_keeps (returnExpires_keeps h) e
  | deadTimerExpiry side => exact event_keeps (deadExpires_keeps h) e
  | retransferSyncTimerExpiry side => exact event_keeps (retransferSyncExpires_keeps h) e
  | overlapTimerExpiry island => exact event_keeps (overlapExpires_keeps h) e
  | startLimitExpiry generator => exact event_keeps (startLimitExpires_keeps h) e
  | syncLimitExpiry generator => exact event_keeps (syncLimitExpires_keeps h) e
  | hostTieSyncLimitExpiry => exact event_keeps (hostSyncExpires_keeps h) e
  | unloadLimitExpiry generator => exact event_keeps (unloadLimitExpires_keeps h) e
  | cooldownExpiry generator => exact event_keeps (cooldownExpires_keeps h) e
  | addTimerExpiry island => exact event_keeps (addExpires_keeps h) e
  | removeTimerExpiry island => exact event_keeps (removeExpires_keeps h) e
  | restoreTimerExpiry => exact event_keeps (restoreExpires_keeps h) e
  | lineReturnsToMarking lane => exact event_keeps (lineMarks_keeps h) e

theorem idle_keeps (e : idle s = .next t) : s.parts.Keeps t.parts := by
  unfold idle at e
  split at e
  · cases e
    exact .refl
  · split at e
    · exact exec_keeps e
    · cases e
      exact elapse_keeps .refl

/-- Every step keeps the five invariants of the blocks. -/
theorem step_keeps (e : step s = .next t) : s.parts.Keeps t.parts := by
  unfold step at e
  split at e
  next i rest _ => exact exec_keeps (s := { s with pending := rest }) e
  next => exact idle_keeps e

end

/-- Settles O56: the law is one of the invariants that every step keeps, each element being written under it alone. -/
theorem everyStepKeepsTheAccumulatorLaw : Obligations.EveryStepKeepsTheAccumulatorLaw :=
  fun _ _ law e => (step_keeps e).accumulators law

/-- Settles O57: every write of a lockout record moves the cover counts with its set. -/
theorem everyStepKeepsTheCoverCounts : Obligations.EveryStepKeepsTheCoverCounts :=
  fun _ _ counted e => (step_keeps e).covers counted

/-- Settles O58: a close passes the check for locks as it starts, and a lock aborts the closes in flight. -/
theorem everyStepKeepsLockedDevicesFromClosing : Obligations.EveryStepKeepsLockedDevicesFromClosing :=
  fun _ _ free e => (step_keeps e).closes free

/-- Settles O59: a side comes into a state that holds the claim where the claim is free or its own. -/
theorem everyStepKeepsTheClaim : Obligations.EveryStepKeepsTheClaim :=
  fun _ _ held e => (step_keeps e).claim held

/-- Settles O60: a block enters and leaves the queue as it becomes SHED and ceases to be. -/
theorem everyStepKeepsTheShedInTheQueue : Obligations.EveryStepKeepsTheShedInTheQueue :=
  fun _ _ queue e => (step_keeps e).queue queue

end Sys2Proof.Machine

/-!
PROOF. The forms of the commands: the commands of the supply, the reset line, the authority input and the select line of the
port, and the others, each an event, a taking or an inquiry. The statements on the queue, reset, and the port.
-/

namespace Sys2Proof.Machine

/-- The commands of the supply, the reset line, the authority input and the select line of the port. -/
def ofLines : Instr → Bool
  | .powerOn _ | .resetAssert | .resetRelease _ | .authorityChange _ | .sselAssertion | .spiTransaction _ => true
  | _ => false

/-- Every other command is an event, the taking of a request or an inquiry. -/
theorem exec_forms (i : Instr) (s : State) (other : ofLines i = false) : (∃ f, exec i s = event f s) ∨
    (∃ code t owner, exec i s = taking code t owner s) ∨ ∃ code t owner, exec i s = inquiry code t owner s := by
  cases i with
  | powerOn | resetAssert | resetRelease | authorityChange | sselAssertion | spiTransaction => cases other
  | read | acknowledge => exact .inr (.inr ⟨_, _, _, rfl⟩)
  | readChanged | readIslands | readSummary | unknownRequest => exact .inr (.inr ⟨_, _, fun s => (s, _), rfl⟩)
  | load | amend | retire | operate | syncClose | acknowledgeFailure | releaseIntertrip | placeLockout | addDevices
  | dropDevices | releaseLockout | resetElement | testInject | endTest | schemeMode | resetSide | generatorStart
  | generatorStop | resetGenerator | holdBlock | releaseBlock | shedBlock | restoreBlock | hold | resume | enterService
  | leaveService => exact .inr (.inl ⟨_, _, _, rfl⟩)
  | _ => exact .inl ⟨_, rfl⟩

/-! ## Every command on the queue, and in reset -/

theorem event_ends (f : Parts → Parts) (s : State) :
    ∃ p, event f s = .next { s with parts := p } := by
  unfold event
  split
  · exact ⟨s.parts, rfl⟩
  · exact ⟨_, rfl⟩

theorem taking_ends (code : Nat) (t : Byte) (owner : Parts → Parts × Status × List Byte) (s : State) :
    taking code t owner s = .next s ∨ ∃ a body p, taking code t owner s = .next (s.answers code t a body p) := by
  unfold taking
  split
  · exact .inl rfl
  · exact .inr ⟨_, _, _, rfl⟩

theorem inquiry_ends (code : Nat) (t : Byte) (owner : Parts → Parts × Status × List Byte) (s : State) :
    inquiry code t owner s = .next s ∨ ∃ a body p, inquiry code t owner s = .next (s.answers code t a body p) := by
  unfold inquiry
  split
  · exact .inl rfl
  · exact .inr ⟨_, _, _, rfl⟩

/-- A command that is not of the lines ends with the queue and the reset line as they were, and the port as it was or with
an answer prepared. -/
theorem exec_ends {i : Instr} (other : ofLines i = false) (s : State) :
    (∃ p, exec i s = .next { s with parts := p }) ∨ ∃ code t a body p, exec i s = .next (s.answers code t a body p) := by
  rcases exec_forms i s other with ⟨f, e⟩ | ⟨code, t, owner, e⟩ | ⟨code, t, owner, e⟩
  · exact .inl (e ▸ event_ends f s)
  · rcases taking_ends code t owner s with e' | ⟨a, body, p, e'⟩
    · exact .inl ⟨s.parts, e.trans e'⟩
    · exact .inr ⟨code, t, a, body, p, e.trans e'⟩
  · rcases inquiry_ends code t owner s with e' | ⟨a, body, p, e'⟩
    · exact .inl ⟨s.parts, e.trans e'⟩
    · exact .inr ⟨code, t, a, body, p, e.trans e'⟩

/-- Settles O1: it is the first branch of the step. -/
theorem stepTakesTheFrontCommand : Obligations.StepTakesTheFrontCommand := fun _ _ _ => rfl

/-- Settles O3: by the form of each command. -/
theorem everyCommandEndsAndLeavesTheQueue : Obligations.EveryCommandEndsAndLeavesTheQueue := by
  intro i s
  cases lines : ofLines i with
  | false =>
    rcases exec_ends lines s with ⟨p, e⟩ | ⟨code, t, a, body, p, e⟩
    · exact ⟨_, e, rfl⟩
    · exact ⟨_, e, rfl⟩
  | true =>
    cases i with
    | powerOn => exact ⟨_, rfl, rfl⟩
    | resetAssert => exact ⟨_, rfl, rfl⟩
    | resetRelease =>
      simp only [exec, execResetRelease]
      split
      · exact ⟨_, rfl, rfl⟩
      · exact ⟨_, rfl, rfl⟩
    | authorityChange =>
      simp only [exec, execAuthorityChange]
      split
      · exact ⟨_, rfl, rfl⟩
      · exact ⟨_, rfl, rfl⟩
    | sselAssertion =>
      simp only [exec, execSselAssertion]
      split
      · exact ⟨_, rfl, rfl⟩
      · exact ⟨_, rfl, rfl⟩
    | spiTransaction =>
      simp only [exec, execSpiTransaction]
      split
      · exact ⟨_, rfl, rfl⟩
      · exact ⟨_, rfl, rfl⟩
    | _ => cases lines

/-- In reset every command but the supply's and the reset line's leaves the part as it is. -/
theorem exec_reset (i : Instr) (s : State) (low : s.inReset = true) (h₁ : ∀ lv, i ≠ .powerOn lv) (h₂ : i ≠ .resetAssert)
    (h₃ : ∀ lv, i ≠ .resetRelease lv) : exec i s = .next s := by
  cases lines : ofLines i with
  | false =>
    rcases exec_forms i s lines with ⟨f, e⟩ | ⟨code, t, owner, e⟩ | ⟨code, t, owner, e⟩
    · exact e.trans (event_reset f s low)
    · exact e.trans (taking_reset code t owner s low)
    · exact e.trans (inquiry_reset code t owner s low)
  | true =>
    cases i with
    | powerOn lv => exact absurd rfl (h₁ lv)
    | resetAssert => exact absurd rfl h₂
    | resetRelease lv => exact absurd rfl (h₃ lv)
    | authorityChange => exact if_pos low
    | sselAssertion => exact if_pos low
    | spiTransaction => exact if_pos low
    | _ => cases lines

/-- Settles O4: no line is driven in reset, and `exec_reset`. -/
theorem resetReleasesTheLinesAndTakesNothing : Obligations.ResetReleasesTheLinesAndTakesNothing :=
  ⟨fun _ => ⟨rfl, fun _ _ => ⟨rfl, rfl, rfl⟩⟩, exec_reset⟩

/-! ## Power-on and the release of the reset line -/

theorem record_started (levels : InputLevels) (station : Option StationSettings) (f : Int) (k : Nat) (n : RecordName) :
    (Parts.started levels station f k).record n = none := by
  cases n <;> simp [Parts.record, Parts.started, RecordStore.initial]

/-- The part as it starts has the values that power-on and the reset line give every block. -/
theorem started_restarted (levels : InputLevels) (station : Option StationSettings) (f : Int) (k : Nat) (q : List Instr) :
    (State.started levels station f k q).Restarted levels f station where
  released := rfl
  records := record_started levels station f k
  scrub := ⟨rfl, rfl⟩
  devices d := by simp [State.started, Parts.started, SwitchingUnit.initial]
  lines d i := by
    simp [State.closeLine, State.tripLine, State.intertripLine, State.started, Parts.started, SwitchingUnit.initial,
      DeviceLive.initial]
  authority := rfl
  topology := rfl
  lockouts := rfl
  lanes l := by simp [State.started, Parts.started, LaneInterface.initial]
  points p := by simp [State.started, Parts.started, LaneInterface.initial]
  tests := ⟨rfl, fun p => by simp [State.started, Parts.started, ProtectionUnit.initial]⟩
  elements e := by simp [State.started, Parts.started, ProtectionUnit.initial]
  failures := ⟨rfl, fun d => by simp [State.started, Parts.started, ProtectionUnit.initial]⟩
  units := ⟨rfl, rfl, rfl⟩
  service := rfl
  attention := ⟨rfl, fun i => by simp [State.started, Parts.started, Attention.initial]⟩
  port := rfl

/-- Settles O5: both commands put the part as it starts. -/
theorem powerOnAndResetReleaseStartAfresh : Obligations.PowerOnAndResetReleaseStartAfresh := fun _ _ =>
  ⟨⟨_, rfl, started_restarted _ _ _ _ _, rfl⟩, fun low => ⟨_, if_pos low, started_restarted _ _ _ _ _, rfl⟩⟩

/-- Settles O54: the part as it starts has every invariant. -/
theorem resetHasTheInvariants : Obligations.ResetHasTheInvariants :=
  ⟨⟨by nofun, rfl, by nofun⟩, started_invariants ..⟩

/-! ## The port -/

theorem declaredLength_take {bytes : List Byte} {n : Nat} (h : declaredLength bytes = some n) (whole : n ≤ bytes.length) :
    declaredLength (bytes.take n) = some (bytes.take n).length := by
  rw [List.length_take, min_eq_left whole]
  match bytes, h with
  | x :: y :: a :: b :: rest, h =>
    have four : 4 ≤ n := by
      simp only [declaredLength, Option.some.injEq] at h
      split at h <;> omega
    obtain ⟨k, rfl⟩ := Nat.exists_eq_add_of_le' four
    exact h

theorem PortBuffers.respond_wf (x : PortBuffers) (code : Nat) (t : Byte) (a : Status) (body : List Byte) :
    (x.respond code t a body).wf := ⟨by nofun, rfl, fun _ _ _ _ => rfl⟩

/-- A transaction that shows a response begins while one is prepared. -/
theorem State.presented_response {s : State} {c i a : Bool} (h : s.presented = .response c i a) :
    s.port.response.isSome = true := by
  unfold State.presented at h
  split at h
  next prepared => exact prepared
  next => cases h

theorem PortBuffers.wf.select {s : State} (h : s.port.wf) : (s.port.select s.presented).wf := by
  obtain ⟨whole, one, shows⟩ := h
  unfold PortBuffers.select
  split
  · exact ⟨whole, one, shows⟩
  · exact ⟨whole, one, fun c i a e => State.presented_response (Option.some.inj e)⟩

theorem PortBuffers.wf.release {x : PortBuffers} (h : x.wf) (shown : Presented) (bytes : List Byte) :
    (x.release shown bytes).wf := by
  obtain ⟨whole, one, -⟩ := h
  unfold PortBuffers.release
  dsimp only
  split
  · exact ⟨whole, one, by nofun⟩
  next c i a n declared =>
    split
    next long =>
      refine ⟨fun frame e => ?_, rfl, by nofun⟩
      cases e
      exact declaredLength_take declared long
    next => exact ⟨whole, one, by nofun⟩
  · exact ⟨whole, one, by nofun⟩

theorem portInitial_wf : PortBuffers.initial.wf := ⟨by nofun, rfl, by nofun⟩

theorem exec_port {i : Instr} {s t : State} (h : s.port.wf) (e : exec i s = .next t) : t.port.wf := by
  cases lines : ofLines i with
  | false =>
    rcases exec_ends lines s with ⟨p, e'⟩ | ⟨code, tag, a, body, p, e'⟩
    · cases e'.symm.trans e
      exact h
    · cases e'.symm.trans e
      exact s.port.respond_wf code tag a body
  | true =>
    cases i with
    | powerOn => cases e; exact portInitial_wf
    | resetAssert => cases e; exact h
    | resetRelease =>
      simp only [exec, execResetRelease] at e
      split at e <;> cases e
      · exact portInitial_wf
      · exact h
    | authorityChange =>
      simp only [exec, execAuthorityChange] at e
      split at e <;> cases e <;> exact h
    | sselAssertion =>
      simp only [exec, execSselAssertion] at e
      split at e <;> cases e
      · exact h
      · exact h.select
    | spiTransaction bytes =>
      simp only [exec, execSpiTransaction] at e
      split at e <;> cases e
      · exact h
      · exact h.release _ bytes
    | _ => cases lines

/-- Settles O55: the port is written at the select line and with an answer alone. -/
theorem everyStepKeepsThePortInvariant : Obligations.EveryStepKeepsThePortInvariant := by
  intro s t h e
  unfold step at e
  split at e
  next i rest _ => exact exec_port (s := { s with pending := rest }) h e
  next =>
    unfold idle at e
    split at e
    · cases e
      exact h
    · split at e
      · exact exec_port h e
      · cases e
        exact h

/-- Settles O7: the select line begins a transaction and its release judges the bytes shifted in. -/
theorem transactionsRunFromSelectToRelease : Obligations.TransactionsRunFromSelectToRelease := by
  intro s high
  have selected : exec .sselAssertion s = .next { s with port := s.port.select s.presented } := by
    simp [exec, execSselAssertion, high]
  have released : ∀ bytes shown, s.port.transaction = some shown →
      exec (.spiTransaction bytes) s = .next { s with port := s.port.release shown bytes } := by
    intro bytes shown running
    simp [exec, execSpiTransaction, high, running]
  refine ⟨fun idle ready => ?_, fun idle busy => ?_, fun running => ?_, fun bytes =>
    ⟨fun n c i a running declared long => ?_, fun c i a running short => ?_, fun running => ?_⟩⟩
  · rw [selected]
    simp [PortBuffers.select, State.presented, State.prdy, idle, ready]
  · rw [selected]
    simp [PortBuffers.select, State.presented, State.prdy, idle, busy]
  · rw [selected]
    simp [PortBuffers.select, running]
  · rw [released bytes _ running]
    simp [PortBuffers.release, declared, long]
  · rw [released bytes _ running]
    cases declared : declaredLength bytes with
    | none => simp [PortBuffers.release, declared]
    | some n => simp [PortBuffers.release, declared, (short n declared)]
  · rw [released bytes _ running]
    simp [PortBuffers.release]

end Sys2Proof.Machine

namespace Sys2Proof.Machine

/-! ## The passing of time -/

theorem getElem_map_fin {α β : Type} {n : Nat} (f : α → β) (v : Vector α n) (i : Fin n) : (v.map f)[i] = f v[i] :=
  Vector.getElem_map f i.isLt

/-- An overlap timer counts up to the maximum in force and stays where it is above it. -/
theorem overlap_elapses (maximum : Nat) (o : OverlapTimer) :
    ({ o with elapsed := min (o.elapsed + 1) (max o.elapsed maximum) } : OverlapTimer) =
      if o.elapsed < maximum then { o with elapsed := o.elapsed + 1 } else o := by
  split
  next below => rw [max_eq_right below.le, min_eq_left below]
  next above => rw [max_eq_left (not_lt.1 above), min_eq_right (Nat.le_succ _)]

/-- Settles O2: on an empty queue a step is the taking of the request at the port, or the passing of one ms. -/
theorem stepOnAnEmptyQueue : Obligations.StepOnAnEmptyQueue := by
  intro s empty down latched
  have ticks : ∀ (k : Nat) (t : Timer), t.tick k = down k t := fun k t => by cases t <;> rfl
  have latches : ∀ t : LatchedTimer, t.tick 1 = latched t := fun t => by cases t <;> rfl
  have stepped : step s = idle s := by simp only [step, empty]
  rw [stepped]
  refine ⟨fun low => if_pos low, fun frame high waits => ?_, fun high free => ⟨s.parts.elapse, ?_, ?_⟩⟩
  · simp [idle, high, waits]
  · simp [idle, high, free]
  · simp only [Parts.elapse, ticks, latches, overlap_elapses, true_and, and_true]
    refine ⟨getElem_map_fin _ _, getElem_map_fin _ _, getElem_map_fin _ _, getElem_map_fin _ _, fun u => ?_,
      getElem_map_fin _ _, getElem_map_fin _ _⟩
    rw [getElem_map_fin]
    cases s.parts.changeover.utilities[u].timer with
    | stopped => rfl
    | loss frozen n => cases frozen <;> rfl
    | back frozen n => cases frozen <;> rfl

end Sys2Proof.Machine

/-!
PROOF. The Record Store whatever the kind of a record: what a record reads after a write, the check on use of a record by its
name, and the requests of the port that read: READ, READ CHANGED, READ ISLANDS, READ SUMMARY and ACKNOWLEDGE.
-/

namespace Sys2Proof.Machine

/-! ## A record by its name -/

/-- Settings of a record's own kind, as found and as its code covers them. -/
def RecordName.fits (n : RecordName) (h : Held AnySettings) : Prop :=
  kindOf h.settings = n.kind ∧ kindOf h.code.covers = n.kind

/-- A record whose settings are of one kind is a record of that kind. -/
theorem exists_map {α : Type} {f : α → AnySettings} {h : Held AnySettings} {k : RecordKind}
    (onto : ∀ x, kindOf x = k → ∃ y, f y = x) (fits : kindOf h.settings = k ∧ kindOf h.code.covers = k) :
    ∃ y : Held α, y.map f = h := by
  obtain ⟨x, ex⟩ := onto _ fits.1
  obtain ⟨y, ey⟩ := onto _ fits.2
  exact ⟨⟨h.retired, h.integrity, x, ⟨y, h.code.restores⟩⟩, by simp only [Held.map, ex, ey]⟩

section
variable {s : Parts} {n m : RecordName} {h : Held AnySettings}

theorem record_fits (stored : s.record n = some h) : n.fits h := by
  cases n <;> (obtain ⟨y, -, rfl⟩ := Option.map_eq_some_iff.1 stored; exact ⟨rfl, rfl⟩)

theorem putIf_preserves {α : Type} {P : Parts → Prop} {o : Option (Held α)} {put : Option (Held α) → Parts} (kept : P s)
    (written : ∀ x, P (put x)) : P (putIf o put s) := by
  cases o with
  | none => exact kept
  | some x => exact written _

/-- A record written touches the Store alone. -/
theorem putRecord_writes (s : Parts) (n : RecordName) (h : Held AnySettings) :
    ∃ st, s.putRecord n h = { s with store := st } := by
  cases n <;> exact putIf_preserves (P := fun u => ∃ st, u = { s with store := st }) ⟨s.store, rfl⟩ fun _ => ⟨_, rfl⟩

theorem putRecord_calm (calm : s.calm) (n : RecordName) (h : Held AnySettings) : (s.putRecord n h).calm := by
  obtain ⟨st, e⟩ := putRecord_writes s n h
  exact e ▸ calm.of_eq rfl rfl

theorem putRecord_service (s : Parts) (n : RecordName) (h : Held AnySettings) : (s.putRecord n h).service = s.service := by
  obtain ⟨st, e⟩ := putRecord_writes s n h
  rw [e]

theorem record_putRecord (fits : n.fits h) : (s.putRecord n h).record n = some h := by
  have written : ∀ {α : Type} {k : Nat} (v : Vector (Option (Held α)) k) (i : Fin k) (x : Held α) (f : α → AnySettings),
      (v.set i (some x))[i].map (Held.map f) = some (x.map f) := fun v i x f => by rw [getElem_set_fin_self]; rfl
  cases n with
  | station =>
    obtain ⟨y, rfl⟩ := exists_map (f := .station) (by intro x e; cases x <;> cases e; exact ⟨_, rfl⟩) fits
    rfl
  | bus b =>
    obtain ⟨y, rfl⟩ := exists_map (f := .bus) (by intro x e; cases x <;> cases e; exact ⟨_, rfl⟩) fits
    exact written s.store.buses b y .bus
  | utility u =>
    obtain ⟨y, rfl⟩ := exists_map (f := .utility) (by intro x e; cases x <;> cases e; exact ⟨_, rfl⟩) fits
    exact written s.store.utilities u y .utility
  | generator g =>
    obtain ⟨y, rfl⟩ := exists_map (f := .generator) (by intro x e; cases x <;> cases e; exact ⟨_, rfl⟩) fits
    exact written s.store.generators g y .generator
  | device d =>
    obtain ⟨y, rfl⟩ := exists_map (f := .device) (by intro x e; cases x <;> cases e; exact ⟨_, rfl⟩) fits
    exact written s.store.devices d y .device
  | block l =>
    obtain ⟨y, rfl⟩ := exists_map (f := .block) (by intro x e; cases x <;> cases e; exact ⟨_, rfl⟩) fits
    exact written s.store.blocks l y .block
  | element e =>
    obtain ⟨y, rfl⟩ := exists_map (f := .element) (by intro x e; cases x <;> cases e; exact ⟨_, rfl⟩) fits
    exact written s.store.elements e y .element
  | lockout k =>
    obtain ⟨y, rfl⟩ := exists_map (f := .lockout) (by intro x e; cases x <;> cases e; exact ⟨_, rfl⟩) fits
    exact written s.store.lockouts k y .lockout
  | scheme =>
    obtain ⟨y, rfl⟩ := exists_map (f := .scheme) (by intro x e; cases x <;> cases e; exact ⟨_, rfl⟩) fits
    rfl
  | point p =>
    obtain ⟨y, rfl⟩ := exists_map (f := .point) (by intro x e; cases x <;> cases e; exact ⟨_, rfl⟩) fits
    exact written s.store.points p y .point

theorem record_putRecord_ne (s : Parts) (h : Held AnySettings) (ne : m ≠ n) : (s.putRecord n h).record m = s.record m := by
  have other : ∀ {α : Type} {k : Nat} (v : Vector (Option (Held α)) k) (i j : Fin k) (x : Option (Held α))
      (f : α → AnySettings), i ≠ j → (v.set i x)[j].map (Held.map f) = v[j].map (Held.map f) :=
    fun v i j x f ne => by rw [getElem_set_fin_ne _ _ _ _ ne]
  cases n with
  | station =>
    refine putIf_preserves (P := fun u => u.record m = s.record m) rfl fun x => ?_
    cases m with
    | station => exact absurd rfl ne
    | _ => rfl
  | bus b =>
    refine putIf_preserves (P := fun u => u.record m = s.record m) rfl fun x => ?_
    cases m with
    | bus c => exact other _ _ _ x .bus fun e => ne (e ▸ rfl)
    | _ => rfl
  | utility u =>
    refine putIf_preserves (P := fun u => u.record m = s.record m) rfl fun x => ?_
    cases m with
    | utility v => exact other _ _ _ x .utility fun e => ne (e ▸ rfl)
    | _ => rfl
  | generator g =>
    refine putIf_preserves (P := fun u => u.record m = s.record m) rfl fun x => ?_
    cases m with
    | generator j => exact other _ _ _ x .generator fun e => ne (e ▸ rfl)
    | _ => rfl
  | device d =>
    refine putIf_preserves (P := fun u => u.record m = s.record m) rfl fun x => ?_
    cases m with
    | device j => exact other _ _ _ x .device fun e => ne (e ▸ rfl)
    | _ => rfl
  | block l =>
    refine putIf_preserves (P := fun u => u.record m = s.record m) rfl fun x => ?_
    cases m with
    | block j => exact other _ _ _ x .block fun e => ne (e ▸ rfl)
    | _ => rfl
  | element f =>
    refine putIf_preserves (P := fun u => u.record m = s.record m) rfl fun x => ?_
    cases m with
    | element j => exact other _ _ _ x .element fun e => ne (e ▸ rfl)
    | _ => rfl
  | lockout k =>
    refine putIf_preserves (P := fun u => u.record m = s.record m) rfl fun x => ?_
    cases m with
    | lockout j => exact other _ _ _ x .lockout fun e => ne (e ▸ rfl)
    | _ => rfl
  | scheme =>
    refine putIf_preserves (P := fun u => u.record m = s.record m) rfl fun x => ?_
    cases m with
    | scheme => exact absurd rfl ne
    | _ => rfl
  | point p =>
    refine putIf_preserves (P := fun u => u.record m = s.record m) rfl fun x => ?_
    cases m with
    | point j => exact other _ _ _ x .point fun e => ne (e ▸ rfl)
    | _ => rfl

/-! ## The check on use by name (R10, R11) -/

theorem useRecord_valid (stored : s.record n = some h) (valid : h.valid) : useRecord n s = (s, some h.settings) := by
  rw [useRecord, stored, useHeld_valid _ _ _ _ _ valid]

theorem useRecord_nearValid (stored : s.record n = some h) (intact : h.integrity ≠ .damaged)
    (differs : h.settings ≠ h.code.covers) (restores : h.code.restores = true) :
    useRecord n s = (((s.putRecord n h.restore).raise .record).mark n.position, some h.code.covers) := by
  rw [useRecord, stored, useHeld_nearValid _ _ _ _ _ intact differs restores]

theorem useRecord_invalid (stored : s.record n = some h) (intact : h.integrity ≠ .damaged)
    (differs : h.settings ≠ h.code.covers) (lost : h.code.restores = false) :
    useRecord n s = (damageNotice n (((s.putRecord n h.damage).raise .record).mark n.position), none) := by
  rw [useRecord, stored, useHeld_invalid _ _ _ _ _ intact differs lost]

end

/-- Settles O11: the three outcomes of the check, and the record written at each. -/
theorem checkOutcomes : Obligations.CheckOutcomes := fun _ _ _ stored intact =>
  have fits := record_fits stored
  ⟨fun same => useRecord_valid stored ⟨intact, same⟩,
   fun differs restores => ⟨useRecord_nearValid stored intact differs restores, record_putRecord ⟨fits.2, fits.2⟩⟩,
   fun differs lost => ⟨useRecord_invalid stored intact differs lost, record_putRecord fits⟩⟩

/-! ## READ (R177) -/

theorem kinds_none {kind : Nat} (h : 10 ≤ kind) : RecordKind.all[kind]? = none := List.getElem?_eq_none_iff.2 h

/-- The inquiry of an owner whose answer is known. -/
theorem inquiry_answers (code : Nat) (t : Byte) {owner : Parts → Parts × Status × List Byte} {s : State} {u : Parts}
    {a : Status} {body : List Byte} (high : s.inReset = false) (e : owner s.parts = (u, a, body)) :
    inquiry code t owner s = .next (s.answers code t a body u) := by
  rw [inquiry_live code t owner s high, e]

theorem soundAgain_writes (n : RecordName) (s : Parts) : ∃ st, soundAgain n s = { s with store := st } := by
  unfold soundAgain
  split
  · split
    · exact putRecord_writes ..
    · exact ⟨s.store, rfl⟩
  · exact ⟨s.store, rfl⟩

theorem record_soundAgain (n : RecordName) (s : Parts) : (soundAgain n s).record n = (s.record n).map fun h =>
    { h with integrity := if h.integrity = .corrected then .sound else h.integrity } := by
  unfold soundAgain
  cases stored : s.record n with
  | none => exact stored
  | some h =>
    dsimp only
    split
    next corrected =>
      obtain ⟨own, covers⟩ := record_fits stored
      have fits : n.fits { h with integrity := .sound } := ⟨own, covers⟩
      rw [record_putRecord fits]
      simp only [Option.map_some, corrected, if_true]
    next other =>
      rw [stored]
      simp only [Option.map_some, other, if_false]

theorem record_soundAgain_ne {n m : RecordName} (ne : m ≠ n) (s : Parts) : (soundAgain n s).record m = s.record m := by
  unfold soundAgain
  split
  · split
    · exact record_putRecord_ne s _ ne
    · rfl
  · rfl

theorem record_unmark (s : Parts) (i : StoreIndex) (n : RecordName) : (s.unmark i).record n = s.record n := by
  cases n <;> rfl

/-- Settles O9: a READ writes the integrity of a CORRECTED record and the changed mark. -/
theorem readReturnsTheRecord : Obligations.ReadReturnsTheRecord := by
  intro t kind index s high
  refine ⟨fun outside => ?_, fun k hk => ⟨fun unnamed => ?_, fun n named => ?_⟩⟩
  · exact inquiry_answers 0x01 t high (by simp only [readRequest, kinds_none outside])
  · exact inquiry_answers 0x01 t high (by simp only [readRequest, hk, unnamed])
  · refine ⟨(soundAgain n s.parts).unmark n.position, inquiry_answers 0x01 t high ?_, ?_, fun m ne => ?_, ?_, ?_⟩
    · simp only [readRequest, hk, named]
    · rw [record_unmark, record_soundAgain]
    · rw [record_unmark, record_soundAgain_ne ne]
    · obtain ⟨st, e⟩ := soundAgain_writes n s.parts
      rw [e]
      rfl
    · obtain ⟨st, e⟩ := soundAgain_writes n s.parts
      rw [e]
      rfl

/-! ## The other inquiries and ACKNOWLEDGE (R60, R174 to R177) -/

theorem testBit_maskOf (bs : List Bool) (n : Nat) : (maskOf bs).testBit n = bs.getD n false := by
  induction bs generalizing n with
  | nil => simp [maskOf]
  | cons b bs ih =>
    cases n with
    | zero => cases b <;> simp [maskOf, Nat.testBit_zero]
    | succ n =>
      have half : maskOf (b :: bs) / 2 = maskOf bs := by
        cases b
        · simp [maskOf]
        · simp [maskOf]; omega
      rw [Nat.testBit_succ, half, ih, List.getD_cons_succ]

/-- The flags lowered are those that the mask does not name. -/
theorem lower_mask (fs : AttentionFlags) (m : Nat) {n : Nat} (h : n < 9) :
    (fs.lower m).mask.testBit n = (fs.mask.testBit n && !m.testBit n) := by
  simp only [AttentionFlags.mask, testBit_maskOf, AttentionFlags.lower, bitAt]
  interval_cases n <;> rfl

/-- Settles O10: the inquiries change nothing, and ACKNOWLEDGE lowers the flags it names. -/
theorem inquiriesAndAcknowledge : Obligations.InquiriesAndAcknowledge := by
  intro t s high
  refine ⟨fun kind k hk => ?_, fun kind outside => ?_, ?_, ?_, fun c rest => ?_, fun flags =>
    ⟨fun none => ?_, fun some small => ⟨s.parts.attention.flags.lower flags, ?_, fun n hn => lower_mask _ _ hn⟩⟩⟩
  · exact (inquiry_live 0x02 t (fun s => (s, readChangedRequest kind s)) s high).trans (by simp only [readChangedRequest, hk])
  · exact (inquiry_live 0x02 t (fun s => (s, readChangedRequest kind s)) s high).trans
      (by simp only [readChangedRequest, kinds_none outside])
  · exact inquiry_live 0x03 t (fun s => (s, .ok, islandsBody s)) s high
  · exact inquiry_live 0x04 t (fun s => (s, .ok, summaryBody s)) s high
  · exact inquiry_live c.toNat t (fun s => (s, unknownStatus (c :: t :: rest), [])) s high
  · exact inquiry_answers 0x05 t high (by simp only [bare, acknowledgeRequest, ge_iff_le, none, if_true])
  · have named : ¬(flags = 0 ∨ flags ≥ 512) := by omega
    exact inquiry_answers 0x05 t high (by simp only [bare, acknowledgeRequest, named, if_false])

end Sys2Proof.Machine

/-!
PROOF. LOAD, AMEND and RETIRE (R13 to R15): one equation for each row of the three judgements, the refusals in their order, and
the requests carried out in CONFIGURING on records without a derived index.
-/

namespace Sys2Proof.Machine

section
variable {s : Parts} {n : RecordName} {k : RecordKind} {kind index : Nat} {ps : List FieldPair} {h : Held AnySettings}
  {x : AnySettings}

/-! ## The record that a request names -/

theorem loadRequest_badKind (outside : 10 ≤ kind) : loadRequest kind index ps s = (s, .badKind) := by
  simp only [loadRequest, kinds_none outside]

theorem loadRequest_badIndex (hk : RecordKind.all[kind]? = some k) (unnamed : recordNamed k index = none) :
    loadRequest kind index ps s = (s, .badIndex) := by simp only [loadRequest, hk, unnamed]

theorem loadRequest_named (hk : RecordKind.all[kind]? = some k) (named : recordNamed k index = some n) :
    loadRequest kind index ps s = loadNamed n ps s := by simp only [loadRequest, hk, named]

theorem amendRequest_badKind (outside : 10 ≤ kind) : amendRequest kind index ps s = (s, .badKind) := by
  simp only [amendRequest, kinds_none outside]

theorem amendRequest_lockout : amendRequest 7 index ps s = (s, .badKind) := rfl

theorem amendRequest_badIndex (hk : RecordKind.all[kind]? = some k) (other : k ≠ .lockout)
    (unnamed : recordNamed k index = none) : amendRequest kind index ps s = (s, .badIndex) := by
  unfold amendRequest
  rw [hk]
  cases k with
  | lockout => exact absurd rfl other
  | _ => simp only [unnamed]

theorem amendRequest_named (hk : RecordKind.all[kind]? = some k) (other : k ≠ .lockout)
    (named : recordNamed k index = some n) : amendRequest kind index ps s = amendNamed n ps s := by
  unfold amendRequest
  rw [hk]
  cases k with
  | lockout => exact absurd rfl other
  | _ => simp only [named]

theorem retireRequest_badKind (outside : 10 ≤ kind) : retireRequest kind index s = (s, .badKind) := by
  simp only [retireRequest, kinds_none outside]

theorem retireRequest_lockout : retireRequest 7 index s = (s, .badKind) := rfl

theorem retireRequest_badIndex (hk : RecordKind.all[kind]? = some k) (other : k ≠ .lockout)
    (unnamed : recordNamed k index = none) : retireRequest kind index s = (s, .badIndex) := by
  unfold retireRequest
  rw [hk]
  cases k with
  | lockout => exact absurd rfl other
  | _ => simp only [unnamed]

theorem retireRequest_named (hk : RecordKind.all[kind]? = some k) (other : k ≠ .lockout)
    (named : recordNamed k index = some n) : retireRequest kind index s = retireNamed n s := by
  unfold retireRequest
  rw [hk]
  cases k with
  | lockout => exact absurd rfl other
  | _ => simp only [named]

/-! ## LOAD of a record that exists (R13) -/

theorem loadNamed_badRequest (h : (fieldsFit n.kind ps && fieldsComplete n.kind ps) = false) :
    loadNamed n ps s = (s, .badRequest) := by
  have form : (!fieldsFit n.kind ps || !fieldsComplete n.kind ps) = true := by rw [← Bool.not_and, h, Bool.not_false]
  rw [loadNamed, if_pos form]

variable (fit : fieldsFit n.kind ps = true)

section
variable (complete : fieldsComplete n.kind ps = true)
include fit complete

theorem loadNamed_unread (read : readSettings n.kind ps = none) : loadNamed n ps s = (s, .range) := by
  simp [loadNamed, fit, complete, read]

theorem loadNamed_cycle (read : readSettings n.kind ps = some x) (cycle : closesCycle n x s = true) :
    loadNamed n ps s = (s, .range) := by simp [loadNamed, fit, complete, read, cycle]

theorem loadNamed_barred (read : readSettings n.kind ps = some x) (acyclic : closesCycle n x s = false)
    (barred : loadAdmitted n s = false) : loadNamed n ps s = (s, .state) := by
  simp [loadNamed, fit, complete, read, acyclic, barred]

theorem loadNamed_admitted (read : readSettings n.kind ps = some x) (acyclic : closesCycle n x s = false)
    (admitted : loadAdmitted n s = true) : loadNamed n ps s = (loadRecord n x s, .ok) := by
  simp [loadNamed, fit, complete, read, acyclic, admitted]

end

/-! ## AMEND of a record that exists (R14) -/

theorem amendNamed_badRequest (form : ps = [] ∨ fieldsFit n.kind ps = false) : amendNamed n ps s = (s, .badRequest) := by
  rcases form with rfl | unfit
  · simp [amendNamed]
  · simp [amendNamed, unfit]

section
variable (some_field : ps ≠ [])
include fit some_field

theorem amendNamed_empty (empty : s.record n = none) : amendNamed n ps s = (s, .state) := by
  simp [amendNamed, fit, some_field, empty]

theorem amendNamed_barred (barred : amendAdmitted n ps s = false) : amendNamed n ps s = (s, .state) := by
  cases stored : s.record n with
  | none => exact amendNamed_empty fit some_field stored
  | some h => simp [amendNamed, fit, some_field, stored, barred]

variable (stored : s.record n = some h) (admitted : amendAdmitted n ps s = true)
include stored admitted

theorem amendNamed_damaged (damaged : h.integrity = .damaged) : amendNamed n ps s = (s, .damaged) := by
  simp [amendNamed, fit, some_field, stored, admitted, damaged]

theorem amendNamed_invalid (intact : h.integrity ≠ .damaged) (differs : h.settings ≠ h.code.covers)
    (lost : h.code.restores = false) : amendNamed n ps s =
      (damageNotice n (((s.putRecord n h.damage).raise .record).mark n.position), .damaged) := by
  simp [amendNamed, fit, some_field, stored, admitted, intact, useRecord_invalid stored intact differs lost]

theorem amendNamed_unread (valid : h.valid) (read : readSettings n.kind (amendedPairs (settingsPairs h.settings) ps) = none) :
    amendNamed n ps s = (s, .range) := by
  simp [amendNamed, fit, some_field, stored, admitted, valid.1, useRecord_valid stored valid, read]

theorem amendNamed_cycle (valid : h.valid)
    (read : readSettings n.kind (amendedPairs (settingsPairs h.settings) ps) = some x) (cycle : closesCycle n x s = true) :
    amendNamed n ps s = (s, .range) := by
  simp [amendNamed, fit, some_field, stored, admitted, valid.1, useRecord_valid stored valid, read, cycle]

theorem amendNamed_admitted (valid : h.valid)
    (read : readSettings n.kind (amendedPairs (settingsPairs h.settings) ps) = some x) (acyclic : closesCycle n x s = false) :
    amendNamed n ps s = (amendRecord n h x (ps.map FieldPair.field) s, .ok) := by
  simp [amendNamed, fit, some_field, stored, admitted, valid.1, useRecord_valid stored valid, read, acyclic]

end

/-! ## RETIRE of a record that exists (R15) -/

theorem retireNamed_empty (empty : s.record n = none) : retireNamed n s = (s, .state) := by simp [retireNamed, empty]

theorem retireNamed_barred (barred : retireAdmitted n s = false) : retireNamed n s = (s, .state) := by
  cases stored : s.record n with
  | none => exact retireNamed_empty stored
  | some h => simp [retireNamed, stored, barred]

theorem retireNamed_already (stored : s.record n = some h) (admitted : retireAdmitted n s = true) (retired : h.retired = true) :
    retireNamed n s = (s, .already) := by simp [retireNamed, stored, admitted, retired]

theorem retireNamed_admitted (stored : s.record n = some h) (admitted : retireAdmitted n s = true)
    (active : h.retired = false) : retireNamed n s =
      (retireNotice n (rebuildFor n (s.putRecord n { h with retired := true })), .ok) := by
  simp [retireNamed, stored, admitted, active]

/-! ## Where a request is admitted (R14, R15) -/

theorem amendAdmitted_configuring (configuring : s.service.inService = false) : amendAdmitted n ps s = true := by
  simp [amendAdmitted, configuring]

theorem retireAdmitted_configuring (configuring : s.service.inService = false) : retireAdmitted n s = true := by
  simp [retireAdmitted, configuring]

theorem loadAdmitted_configuring (configuring : s.service.inService = false) (other : n.kind ≠ .lockout) :
    loadAdmitted n s = true := by
  cases n with
  | lockout => exact absurd rfl other
  | _ => simp [loadAdmitted, configuring]

/-- Only settings of an element, for an element, can lead back to their record. -/
theorem closesCycle_other (other : n.kind ≠ .element) : closesCycle n x s = false := by
  cases n with
  | element => exact absurd rfl other
  | _ => rfl

end

/-! ## The refusals in their order -/

theorem exec_load (t : Byte) (kind index : Nat) (ps : List FieldPair) (s : State) :
    exec (.load t kind index ps) s = taking 0x10 t (bare (loadRequest kind index ps)) s := rfl
theorem exec_amend (t : Byte) (kind index : Nat) (ps : List FieldPair) (s : State) :
    exec (.amend t kind index ps) s = taking 0x11 t (bare (amendRequest kind index ps)) s := rfl
theorem exec_retire (t : Byte) (kind index : Nat) (s : State) :
    exec (.retire t kind index) s = taking 0x12 t (bare (retireRequest kind index)) s := rfl

theorem kindAt_lt {kind : Nat} {k : RecordKind} (h : RecordKind.all[kind]? = some k) : kind < 10 := by
  obtain ⟨lt, -⟩ := List.getElem?_eq_some_iff.1 h
  exact lt

end Sys2Proof.Machine

/-!
PROOF. The requests on a device: OPERATE and its close chain (R26 to R33), ACKNOWLEDGE FAILURE (R42), and an input change at
a device that is not in service (R17).
-/

namespace Sys2Proof.Machine

/-! ## A device's live half written -/

/-- A write of a device's live half, with the changed mark it adds written out (R20). -/
theorem Parts.setDevice_eq (s : Parts) (d : DeviceId) (x : DeviceLive) :
    s.setDevice d x = { s with
      switching.devices := s.switching.devices.set d x
      attention.changed := s.attention.changed.set (deviceIndex d) (s.attention.changed[deviceIndex d] ||
        (s.store.devices[d].isSome && s.switching.devices[d].shown != x.shown)) } := by
  unfold Parts.setDevice Parts.markIf Parts.mark
  cases s.store.devices[d].isSome && s.switching.devices[d].shown != x.shown with
  | true => simp only [if_true, Bool.or_true]
  | false => simp only [Bool.false_eq_true, if_false, Bool.or_false, set_fin_getElem]

/-- A write that keeps the pattern moves no position. -/
theorem Parts.setDevice_position (s : Parts) (d e : DeviceId) (x : DeviceLive)
    (h : x.pattern = s.switching.devices[d].pattern) : (s.setDevice d x).position e = s.position e := by
  simp only [Parts.position, Parts.setDevice_pattern s d e x h]

theorem Parts.setDevice_self (s : Parts) (d : DeviceId) (x : DeviceLive) :
    (s.setDevice d x).switching.devices[d] = x := by
  rw [Parts.setDevice_switching, getElem_set_fin_self]

/-- A write that keeps the pattern moves no generator's liveness. -/
theorem Parts.setDevice_generatorLive (s : Parts) (d : DeviceId) (x : DeviceLive)
    (h : x.pattern = s.switching.devices[d].pattern) (g : GeneratorId) :
    (s.setDevice d x).generatorLive g = s.generatorLive g :=
  Parts.generatorLive_congr _ _ g (by simp) fun e => Parts.setDevice_pattern s d e x h

theorem Parts.sendAll_nil (s : Parts) : s.sendAll [] = s := by
  simp only [Parts.sendAll, List.append_nil]

/-- Notices sent where none waits. -/
theorem Parts.sendAll_onto {s : Parts} {ns : List Notice} (h : s.notices = []) :
    s.sendAll ns = { s with notices := ns } := by
  simp only [Parts.sendAll, h, List.nil_append]

/-! ## The close chain (R26) -/

/-- The checks of a close before step 6, in order, each with the reason it refuses for. -/
def closeEarly (s : Parts) (d : DeviceId) : List (Bool × RefusalReason) :=
  let v := s.switching.devices[d]
  [(s.inHold, .hold), (v.state == .failed, .failed), (v.state == .uncertain, .uncertain),
   (v.state == .open && s.position d != .open, .uncertain), (v.state == .closing, .busy), (v.state == .opening, .busy)]

/-- The topology check of a close under authorisations. -/
def closeSub (s : Parts) (x : DeviceSettings) (au : Authorisations) : Option TopologySub :=
  topologyCheck s x.terminalA x.terminalB au

/-- The checks of a close after step 6, in order, each with the reason it refuses for. -/
def closeLate (s : Parts) (d : DeviceId) (r : Requester) (au : Authorisations) (x : DeviceSettings) :
    List (Bool × RefusalReason) :=
  [(s.isLocked d, .locked), (!hasAuthority s r x, .authority), (s.protection.unprotected[d], .unprotected),
   (notReady x.mask s.switching.devices[d].pattern, .notReady), ((closeSub s x au).isSome, .topology),
   (!fitsHeadroom s x, .capacity)]

/-- A refusal of a close for a reason of the late checks: TOPOLOGY has its sub-reason. -/
def lateRefusal (s : Parts) (x : DeviceSettings) (au : Authorisations) (why : RefusalReason) : Refused :=
  ⟨why, if why = .topology then closeSub s x au else none⟩

variable {s : Parts} {d : DeviceId} {r : Requester} {au : Authorisations} {x : DeviceSettings}

theorem closeChain_damaged (h₁ : s.switching.devices[d].state ≠ .retired) (h₂ : s.switching.devices[d].state ≠ .unset) :
    closeChain s d r au none = .refused ⟨.damaged, none⟩ := by
  simp only [closeChain, h₁, h₂, or_self, if_false]

/-- The chain refuses for the first early check that fails. -/
theorem closeChain_early {f : Bool × RefusalReason} (h₁ : s.switching.devices[d].state ≠ .retired)
    (h₂ : s.switching.devices[d].state ≠ .unset) (h : (closeEarly s d).find? (·.1) = some f) :
    closeChain s d r au (some x) = .refused ⟨f.2, none⟩ := by
  unfold closeChain
  simp only [h₁, h₂, or_self, if_false]
  simp only [closeEarly] at h
  generalize s.inHold = hold, s.position d = p at *
  generalize s.switching.devices[d].state = st at *
  cases hold with
  | true => cases h; rfl
  | false => cases st <;> cases p <;> cases h <;> rfl

/-- Past the early checks a close of a CLOSED device is ALREADY. -/
theorem closeChain_closed (hold : s.inHold = false) (h : s.switching.devices[d].state = .closed) :
    closeChain s d r au (some x) = .already := by
  simp only [closeChain, h, hold, reduceCtorEq, or_self, false_and, if_false, if_true, DeviceState.inFlight,
    Bool.false_eq_true]

/-- With no early check failed, a device that is not CLOSED is OPEN and observed OPEN. -/
theorem open_of_closeEarly_none (h₁ : s.switching.devices[d].state ≠ .retired)
    (h₂ : s.switching.devices[d].state ≠ .unset) (h₃ : s.switching.devices[d].state ≠ .closed)
    (h : (closeEarly s d).find? (·.1) = none) :
    s.inHold = false ∧ s.switching.devices[d].state = .open ∧ s.position d = .open := by
  simp only [closeEarly] at h
  generalize s.inHold = hold, s.position d = p at *
  generalize s.switching.devices[d].state = st at *
  cases hold with
  | true => cases h
  | false =>
    cases st with
    | retired | unset | closed => contradiction
    | closing | opening | failed | uncertain => cases h
    | _ =>
      cases p with
      | closed | travel | disagree => cases h
      | _ => exact ⟨rfl, rfl, rfl⟩

/-- For an OPEN device observed OPEN outside a hold, the chain is its late checks. -/
theorem closeChain_open (hold : s.inHold = false) (h : s.switching.devices[d].state = .open) (hp : s.position d = .open) :
    closeChain s d r au (some x) =
      match (closeLate s d r au x).find? (·.1) with
      | some f => .refused (lateRefusal s x au f.2)
      | none => .accepted := by
  simp only [closeChain, h, hp, hold, reduceCtorEq, or_self, ne_eq, not_true, and_false, if_false, DeviceState.inFlight,
    Bool.false_eq_true, closeLate, List.find?_cons, List.find?_nil, lateRefusal, closeSub]
  cases s.isLocked d <;> cases hasAuthority s r x <;> cases s.protection.unprotected[d] <;>
    cases notReady x.mask s.switching.devices[d].pattern <;>
    cases topologyCheck s x.terminalA x.terminalB au <;> cases fitsHeadroom s x <;> simp

/-! ## OPERATE (R23) -/

theorem exec_operate (t : Byte) (device : Nat) (a : Action) (s : State) :
    exec (.operate t device a) s = taking 0x20 t (replying (operateRequest device a)) s := rfl

/-- What the owner answers is the response, after the notices it sends. -/
theorem exec_operate_judged {t : Byte} {device : Nat} {a : Action} {s : State} {u : Parts} {y : Reply}
    (h : s.inReset = false) (hj : operateRequest device a s.parts = (u, y)) :
    exec (.operate t device a) s = .next (s.answers 0x20 t y.code y.body (settle u)) := by
  rw [exec_operate, taking_live _ _ _ _ h]
  simp only [replying, hj]

/-- The same where the owner sends none. -/
theorem exec_operate_calm {t : Byte} {device : Nat} {a : Action} {s : State} {u : Parts} {y : Reply}
    (h : s.inReset = false) (hj : operateRequest device a s.parts = (u, y)) (hc : u.calm) :
    exec (.operate t device a) s = .next (s.answers 0x20 t y.code y.body u) := by
  rw [exec_operate_judged h hj, settle_calm u hc]

theorem operateRequest_badIndex {device : Nat} (a : Action) (s : Parts) (h : 48 ≤ device) :
    operateRequest device a s = (s, .status .badIndex) := by simp only [operateRequest, index?_none h]

theorem operateRequest_configuring (a : Action) (h : s.service.inService = false) :
    operateRequest d.val a s = (s, .status .state) := by
  simp only [operateRequest, index?_val, h, Bool.not_false, if_true]

theorem operateRequest_close {u : Parts} {y : Answer} (h : s.service.inService = true)
    (hc : closeRequest d .supervisor ⟨false, false⟩ s = (u, y)) : operateRequest d.val .close s = (u, .answer y) := by
  simp only [operateRequest, index?_val, h, hc, Bool.not_true, Bool.false_eq_true, if_false]

theorem operateRequest_open {u : Parts} {y : Answer} (h : s.service.inService = true)
    (hc : openRequest d .supervisor s = (u, y)) : operateRequest d.val .open s = (u, .answer y) := by
  simp only [operateRequest, index?_val, h, hc, Bool.not_true, Bool.false_eq_true, if_false]

theorem closeRequest_retired (h : s.switching.devices[d].state = .retired) :
    closeRequest d r au s = (storeRefusal s d ⟨.retired, none⟩, .refused ⟨.retired, none⟩) := by
  simp only [closeRequest, h, true_or, if_true]

theorem openRequest_retired (h : s.switching.devices[d].state = .retired) :
    openRequest d r s = (storeRefusal s d ⟨.openRetired, none⟩, .refused ⟨.openRetired, none⟩) := by
  simp only [openRequest, h, true_or, if_true]

theorem closeRequest_damaged {h : Held DeviceSettings} (h₁ : s.switching.devices[d].state ≠ .retired)
    (h₂ : s.switching.devices[d].state ≠ .unset) (hd : s.store.devices[d] = some h) (hi : h.integrity = .damaged) :
    closeRequest d r au s = (storeRefusal s d ⟨.damaged, none⟩, .refused ⟨.damaged, none⟩) := by
  simp only [closeRequest, h₁, h₂, or_self, if_false, useDevice_damaged d h s hd hi, closeChain_damaged h₁ h₂]

theorem storeRefusal_calm (y : Refused) (h : s.calm) : (storeRefusal s d y).calm := Parts.setDevice_calm _ _ _ h

/-- A close that the chain refuses is answered with the reason, which the device keeps. -/
theorem exec_operate_refused {t : Byte} {a : Action} {s : State} {y : Refused} (live : s.live)
    (hj : operateRequest d.val a s.parts = (storeRefusal s.parts d y, .answer (.refused y))) :
    exec (.operate t d.val a) s = .next (s.answers 0x20 t .refused
      [byte y.reason.number, byte (y.sub.elim 0 TopologySub.number)]
      (s.parts.setDevice d { s.parts.switching.devices[d] with lastRefusal := some y })) :=
  exec_operate_calm live.1 hj (storeRefusal_calm y live.2)

/-- Settles O19: the chain is its early checks and its late ones, each refused for at the first that fails. -/
theorem operateIsRefusedAtTheFirstFailedCheck : Obligations.OperateIsRefusedAtTheFirstFailedCheck := by
  intro t s live
  refine ⟨fun a device bad => ?_, fun d => ⟨fun a conf => ?_, fun serving retired => ?_, ?_⟩⟩
  · exact exec_operate_calm live.1 (operateRequest_badIndex a _ bad) live.2
  · exact exec_operate_calm live.1 (operateRequest_configuring a conf) live.2
  · exact ⟨exec_operate_refused live (operateRequest_close serving (closeRequest_retired retired)),
      exec_operate_refused live (operateRequest_open serving (openRequest_retired retired))⟩
  intro h serving h₁ h₂ hd v x refuses early sub late
  have judged : h.valid → ∀ y, closeChain s.parts d .supervisor ⟨false, false⟩ (some h.settings) = .refused y →
      refuses y.reason y.sub := fun valid y chain =>
    exec_operate_refused live (operateRequest_close serving (by rw [closeRequest_valid d _ _ h _ h₁ h₂ hd valid, chain]))
  refine ⟨fun damaged => ?_, fun valid f first => ?_, fun valid none notClosed f first => ?_⟩
  · exact exec_operate_refused live (operateRequest_close serving (closeRequest_damaged h₁ h₂ hd damaged))
  · exact judged valid ⟨f.2, Option.none⟩ (closeChain_early h₁ h₂ first)
  · obtain ⟨hold, isOpen, observed⟩ := open_of_closeEarly_none h₁ h₂ notClosed none
    have authority : (!hasAuthority s.parts .supervisor x) = (s.parts.switching.authority == .localControl) := by
      simp only [hasAuthority]; cases s.parts.switching.authority <;> rfl
    have same : closeLate s.parts d .supervisor ⟨false, false⟩ x = late := by simp only [closeLate, authority]; rfl
    refine judged valid (lateRefusal s.parts x ⟨false, false⟩ f.2) ?_
    rw [closeChain_open hold isOpen observed, same, first]

/-! ## An accepted close (R29) -/

/-- An accepted close makes the device conducting in the Map. -/
theorem acceptClose_eq (limit : Nat) : acceptClose s d r au limit =
    let p := s.setDevice d { s.switching.devices[d] with
      state := .closing, owner := some r, origin := some r, authorisations := au, operateTimer := .running limit }
    recompute { p with topology.conducting := p.topology.conducting.set d true } := by
  simp only [acceptClose, takeConducting, Parts.isConducting, Parts.setDevice_self, DeviceLive.isConducting]

theorem closeRequest_already {h : Held DeviceSettings} (hold : s.inHold = false)
    (hc : s.switching.devices[d].state = .closed) (hd : s.store.devices[d] = some h) (hv : h.valid) :
    closeRequest d r au s = (s, .already) := by
  rw [closeRequest_valid d r au h s (by simp only [hc]; decide) (by simp only [hc]; decide) hd hv,
    closeChain_closed hold hc]

theorem closeRequest_accepted {h : Held DeviceSettings} (ho : s.switching.devices[d].state = .open)
    (hd : s.store.devices[d] = some h) (hv : h.valid) (passes : closeChain s d r au (some h.settings) = .accepted) :
    closeRequest d r au s = (acceptClose s d r au h.settings.closeLimit, .accepted) := by
  rw [closeRequest_valid d r au h s (by simp only [ho]; decide) (by simp only [ho]; decide) hd hv, passes]

/-- Settles O20: past the early checks a CLOSED device is ALREADY, and an OPEN one that passes the late checks is closed. -/
theorem closeThatPassesIsAccepted : Obligations.CloseThatPassesIsAccepted := by
  intro t d h s live serving hd valid hold v
  refine ⟨fun closed => ?_, ?_⟩
  · exact exec_operate_calm live.1 (operateRequest_close serving (closeRequest_already hold closed hd valid)) live.2
  · intro isOpen observed cover pending remote unprotected ready sub fits p
    have locked : s.parts.isLocked d = false := by simp only [Parts.isLocked, cover, pending]; rfl
    have passes : closeChain s.parts d .supervisor ⟨false, false⟩ (some h.settings) = .accepted := by
      rw [closeChain_open hold isOpen observed]
      simp only [closeLate, locked, hasAuthority, remote, unprotected, v, ready, closeSub, sub, fits, beq_self_eq_true,
        Bool.not_true, Option.isSome_none, List.find?_cons, List.find?_nil]
    refine exec_operate_judged live.1 (operateRequest_close (y := .accepted) serving ?_)
    rw [closeRequest_accepted isOpen hd valid passes, acceptClose_eq]

/-! ## Opens (R30 to R32) -/

theorem openRequest_open (h : s.switching.devices[d].state = .open) (hp : s.position d = .open) :
    openRequest d r s = (s, .already) := by
  simp only [openRequest, h, hp, reduceCtorEq, or_self, and_self, if_false, if_true]

/-- An open that is not a trip is ALREADY of an OPENING device. -/
theorem openRequest_opening (h : s.switching.devices[d].state = .opening) (hr : r.isTrip = false) :
    openRequest d r s = (s, .already) := by
  simp only [openRequest, h, hr, reduceCtorEq, or_self, false_and, if_false, if_true, Bool.false_and, Bool.false_eq_true]

theorem openRequest_local (h₁ : s.switching.devices[d].state ≠ .retired) (h₂ : s.switching.devices[d].state ≠ .unset)
    (h₃ : ¬(s.switching.devices[d].state = .open ∧ s.position d = .open)) (h₄ : s.switching.devices[d].state ≠ .opening)
    (ha : s.switching.authority = .localControl) : openRequest d .supervisor s =
      (storeRefusal s d ⟨.openAuthority, none⟩, .refused ⟨.openAuthority, none⟩) := by
  simp only [openRequest, h₁, h₂, h₃, h₄, ha, or_self, and_self, if_false, if_true]

/-- An open of a device that is neither open nor opening starts, for any requester but SUPERVISOR or under REMOTE. -/
theorem openRequest_starts {h : Held DeviceSettings} (h₁ : s.switching.devices[d].state ≠ .retired)
    (h₂ : s.switching.devices[d].state ≠ .unset) (h₃ : ¬(s.switching.devices[d].state = .open ∧ s.position d = .open))
    (h₄ : s.switching.devices[d].state ≠ .opening) (ha : r = .supervisor → s.switching.authority = .remoteControl)
    (hd : s.store.devices[d] = some h) (hv : h.valid) :
    openRequest d r s = (startOpening s d r (openTime r (some h.settings)), .accepted) := by
  have allowed : ¬(r = .supervisor ∧ s.switching.authority = .localControl) := fun ⟨a, b⟩ =>
    absurd ((ha a).symm.trans b) (by decide)
  simp only [openRequest, h₁, h₂, h₃, h₄, allowed, or_self, if_false, useDevice_valid d h s hd hv]

/-- An open of a device that is not CLOSING sends nothing. -/
theorem startOpening_quiet (time : Nat) (h : s.switching.devices[d].state ≠ .closing) :
    startOpening s d r time = s.setDevice d (s.switching.devices[d].openedBy r time) := by
  simp only [startOpening, DeviceLive.openedBy, beq_eq_false_iff_ne.mpr h, Bool.false_eq_true, if_false]

/-- An open of a CLOSING device tells the owner of the close. -/
theorem startOpening_closing (time : Nat) (h : s.switching.devices[d].state = .closing) :
    startOpening s d r time =
      (s.setDevice d (s.switching.devices[d].openedBy r time)).sendCompletion s.switching.devices[d] d .aborted .close := by
  simp only [startOpening, DeviceLive.openedBy, h, beq_self_eq_true, if_true]

/-- Settles O21: each row of the open's table is an equation of the request. -/
theorem openIsAcceptedInEveryOtherState : Obligations.OpenIsAcceptedInEveryOtherState := by
  intro t d h s live serving hd valid v h₁ h₂
  refine ⟨fun there => ?_, fun h₃ h₄ => ⟨fun byHand => ?_, fun remote => ⟨fun notClosing => ?_, fun o closing ho => ?_⟩⟩⟩
  · refine exec_operate_calm live.1 (operateRequest_open (y := .already) serving ?_) live.2
    rcases there with ⟨isOpen, observed⟩ | opening
    · exact openRequest_open isOpen observed
    · exact openRequest_opening opening rfl
  · exact exec_operate_refused live (operateRequest_open serving (openRequest_local h₁ h₂ h₃ h₄ byHand))
  · refine exec_operate_calm live.1 (operateRequest_open (y := .accepted) serving ?_) (Parts.setDevice_calm _ _ _ live.2)
    rw [openRequest_starts h₁ h₂ h₃ h₄ (fun _ => remote) hd valid, startOpening_quiet _ notClosing]
    rfl
  · refine exec_operate_judged live.1 (operateRequest_open (y := .accepted) serving ?_)
    rw [openRequest_starts h₁ h₂ h₃ h₄ (fun _ => remote) hd valid, startOpening_closing _ closing,
      sendCompletion_some _ _ _ _ _ o ho]
    rfl

/-! ## ACKNOWLEDGE FAILURE (R42) -/

theorem exec_acknowledgeFailure (t : Byte) (device : Nat) (s : State) :
    exec (.acknowledgeFailure t device) s = taking 0x22 t (bare (acknowledgeFailureRequest device)) s := rfl

theorem acknowledgeFailureRequest_val (d : DeviceId) : acknowledgeFailureRequest d.val = acknowledgeDevice d := by
  funext s
  simp only [acknowledgeFailureRequest, index?_val]

/-- A device that is neither in service nor at rest has no failure to acknowledge. -/
theorem acknowledgeDevice_state (h : s.switching.devices[d].state = .closing ∨ s.switching.devices[d].state = .opening ∨
    s.switching.devices[d].state = .retired ∨ s.switching.devices[d].state = .unset) :
    acknowledgeDevice d s = (s, .state) := by
  unfold acknowledgeDevice
  rcases h with h | h | h | h <;> simp only [h]

theorem acknowledgeDevice_resting (h : s.switching.devices[d].state = .open ∨ s.switching.devices[d].state = .closed ∨
    s.switching.devices[d].state = .uncertain) : acknowledgeDevice d s =
      if s.switching.devices[d].discrepancy then
        (s.setDevice d { s.switching.devices[d] with discrepancy := false }, .ok) else (s, .state) := by
  unfold acknowledgeDevice
  rcases h with h | h | h <;> simp only [h]

/-- What the acknowledgement of a failure tells the units. -/
def acknowledgedTells (d : DeviceId) : Position → List Notice
  | .open => tellsPosition d .open .settled
  | .closed => tellsPosition d .closed .settled
  | _ => []

/-- A device whose failure is acknowledged conducts as before, so that its position alone is told. -/
theorem acknowledgeDevice_failed (h : s.switching.devices[d].state = .failed) : acknowledgeDevice d s =
    ((s.setDevice d { s.switching.devices[d] with
        state := stateOfPosition (s.position d), failure := none, discrepancy := false }).sendAll
      (acknowledgedTells d (s.position d)), .ok) := by
  unfold acknowledgeDevice
  simp only [h]
  generalize hx : ({ s.switching.devices[d] with
    state := stateOfPosition (s.position d), failure := none, discrepancy := false } : DeviceLive) = x
  have kept : x.pattern = s.switching.devices[d].pattern := by rw [← hx]
  have conducts : x.isConducting = s.switching.devices[d].isConducting := by
    simp only [← hx, DeviceLive.isConducting, h, Parts.position]
    cases positionOf s.switching.devices[d].pattern <;> rfl
  have quiet (u : Parts) (hp : u.paralleling = s.paralleling) (hs : u.switching = (s.setDevice d x).switching) :
      u.sendConducting s d = u := by
    rw [Parts.sendConducting_quiet u s d fun g => ?_]
    · simp only [Parts.isConducting, hs, Parts.setDevice_self, conducts, bne_self_eq_false, Bool.false_eq_true, if_false]
    · exact Parts.generatorLive_congr _ _ g hp fun e => by rw [hs]; exact Parts.setDevice_pattern s d e x kept
  cases hp : s.position d <;> simp only [acknowledgedTells]
  · exact congrArg (·, Status.ok) (quiet _ (by simp [Parts.sendPosition]) (by simp [Parts.sendPosition]))
  · exact congrArg (·, Status.ok) (quiet _ (by simp [Parts.sendPosition]) (by simp [Parts.sendPosition]))
  · rw [quiet _ (by simp) rfl, Parts.sendAll_nil]
  · rw [quiet _ (by simp) rfl, Parts.sendAll_nil]

/-- Settles O24: each row of R42's table is an equation of the request. -/
theorem acknowledgeFailureFollowsTheDeviceState : Obligations.AcknowledgeFailureFollowsTheDeviceState := by
  intro t s live
  have judged (d : DeviceId) {u : Parts} {a : Status} (hj : acknowledgeDevice d s.parts = (u, a)) :
      exec (.acknowledgeFailure t d.val) s = .next (s.answers 0x22 t a [] (settle u)) := by
    rw [exec_acknowledgeFailure, taking_live _ _ _ _ live.1]
    simp only [bare, acknowledgeFailureRequest_val, hj]
  have calmly (d : DeviceId) {u : Parts} {a : Status} (hj : acknowledgeDevice d s.parts = (u, a)) (hc : u.calm) :
      exec (.acknowledgeFailure t d.val) s = .next (s.answers 0x22 t a [] u) := by
    rw [judged d hj, settle_calm u hc]
  refine ⟨fun device bad => ?_, fun d => ?_⟩
  · rw [exec_acknowledgeFailure]
    exact taking_judged _ _ live.1 (by simp only [acknowledgeFailureRequest, index?_none bad]) live.2
  intro v settled told
  refine ⟨fun failed => ⟨fun seen => ?_, fun seen => ?_, fun seen => ?_⟩,
    fun rest marked => ?_, fun rest clear => ?_, fun other => ?_⟩
  · rw [judged d (acknowledgeDevice_failed failed), seen]
    rw [Parts.sendAll_onto (by rw [Parts.setDevice_notices, live.2.1])]
    rfl
  · rw [judged d (acknowledgeDevice_failed failed), seen]
    rw [Parts.sendAll_onto (by rw [Parts.setDevice_notices, live.2.1])]
    rfl
  · have untold : acknowledgedTells d (s.parts.position d) = [] := by rcases seen with e | e <;> rw [e] <;> rfl
    have uncertain : stateOfPosition (s.parts.position d) = .uncertain := by rcases seen with e | e <;> rw [e] <;> rfl
    have same : acknowledgeDevice d s.parts = (settled .uncertain, .ok) := by
      rw [acknowledgeDevice_failed failed, untold, uncertain, Parts.sendAll_nil]
    exact calmly d same (Parts.setDevice_calm _ _ _ live.2)
  · exact calmly d (by rw [acknowledgeDevice_resting rest, if_pos marked]) (Parts.setDevice_calm _ _ _ live.2)
  · exact calmly d (by rw [acknowledgeDevice_resting rest, if_neg (by simp only [v] at clear; simp only [clear]; decide)]) live.2
  · exact calmly d (acknowledgeDevice_state other) live.2

/-! ## An input change at a device that is not in service (R17) -/

theorem exec_deviceInputChange (d : DeviceId) (x : DeviceInput) (level : Bool) (s : State) :
    exec (.deviceInputChange d x level) s = event (takeInput d x level) s := rfl

/-- Of what a READ of a device shows, an input changes the pattern. -/
theorem DeviceLive.shown_pattern (v : DeviceLive) (q : Pattern) :
    (v.shown != { v with pattern := q }.shown) = (v.pattern != q) := by
  by_cases h : v.pattern = q
  · subst h; simp
  · have shows : v.shown ≠ { v with pattern := q }.shown := fun e => h (congrArg (fun y => y.2.1) e)
    rw [bne_iff_ne.mpr shows, bne_iff_ne.mpr h]

/-- The pattern of a device taken, with the changed mark of a record whose pattern has changed. -/
theorem Parts.setDevice_ofPattern (s : Parts) (d : DeviceId) (q : Pattern) :
    s.setDevice d { s.switching.devices[d] with pattern := q } = { s with
      switching.devices := s.switching.devices.set d { s.switching.devices[d] with pattern := q }
      attention.changed := s.attention.changed.set (deviceIndex d) (s.attention.changed[deviceIndex d] ||
        (s.store.devices[d].isSome && s.switching.devices[d].pattern != q)) } := by
  rw [Parts.setDevice_eq, DeviceLive.shown_pattern]

theorem takeInput_same {x : DeviceInput} {level : Bool}
    (h : putInput s.switching.devices[d].pattern x level = s.switching.devices[d].pattern) :
    takeInput d x level s = s := by simp only [takeInput, h, if_true]

/-- At a device that is UNSET or RETIRED an input changes the pattern alone. -/
theorem takeInput_outOfService {x : DeviceInput} {level : Bool}
    (h : s.switching.devices[d].state = .unset ∨ s.switching.devices[d].state = .retired) : takeInput d x level s =
      s.setDevice d { s.switching.devices[d] with pattern := putInput s.switching.devices[d].pattern x level } := by
  by_cases same : putInput s.switching.devices[d].pattern x level = s.switching.devices[d].pattern
  · rw [takeInput_same same, same, Parts.setDevice_ofPattern, bne_self_eq_false, Bool.and_false, Bool.or_false,
      set_fin_getElem, set_fin_getElem]
  · simp only [takeInput, same, h, if_true, if_false]

/-- Settles O6: a position is decoded by cases, and out of service an input reaches the pattern alone. -/
theorem inputsMoveThePatternAndTheAuthority : Obligations.InputsMoveThePatternAndTheAuthority := by
  refine ⟨fun ready trip => ⟨rfl, rfl, rfl, rfl⟩, fun d x level s live out => ?_, fun a s high => ?_⟩
  · rw [exec_deviceInputChange, event_live _ _ live.1, takeInput_outOfService out,
      State.settled_calm _ _ (Parts.setDevice_calm _ _ _ live.2), Parts.setDevice_ofPattern]
  · exact if_neg (by rw [high]; decide)

end Sys2Proof.Machine

/-!
PROOF. What a device tells when an operation ends or its observed position moves: the operate timers (R34, R35, R37) and the
input changes of a device in service (R34 to R41).
-/

namespace Sys2Proof.Machine

/-! ## The notices of an event of a device -/

theorem Parts.sendAll_sendAll (s : Parts) (ns ms : List Notice) : (s.sendAll ns).sendAll ms = s.sendAll (ns ++ ms) := by
  simp only [Parts.sendAll, List.append_assoc]

/-- The completion notice of an operation, where it has an owner. -/
def completes (v : DeviceLive) (d : DeviceId) (r : Result) (a : Action) : List Notice :=
  (v.owner.map fun o => Notice.completion o d r a (v.origin.getD o)).toList

theorem sendCompletion_eq (s : Parts) (v : DeviceLive) (d : DeviceId) (r : Result) (a : Action) :
    s.sendCompletion v d r a = s.sendAll (completes v d r a) := by
  unfold completes
  cases h : v.owner with
  | none => rw [sendCompletion_none _ _ _ _ _ h]; exact (Parts.sendAll_nil s).symm
  | some o => rw [sendCompletion_some _ _ _ _ _ o h]; rfl

theorem sendPosition_eq (s : Parts) (d : DeviceId) (p : Position) (c : Cause) :
    s.sendPosition d p c = s.sendAll (tellsPosition d p c) := rfl

/-- The source notice of a change of a generator's liveness, then the conducting notice of a change of the device's. -/
def conducts (before s : Parts) (d : DeviceId) : List Notice :=
  (if allGenerators.any fun g => before.generatorLive g != s.generatorLive g then [.source] else []) ++
    if before.isConducting d != s.isConducting d then [.conducting d] else []

theorem sendConducting_eq (before s : Parts) (d : DeviceId) :
    s.sendConducting before d = s.sendAll (conducts before s d) := by
  unfold Parts.sendConducting conducts
  generalize allGenerators.any _ = source
  cases source with
  | true =>
    have same : (s.send .source).isConducting d = s.isConducting d := rfl
    simp only [if_true, same]
    cases before.isConducting d != s.isConducting d with
    | true => exact Parts.sendAll_sendAll s [.source] [_]
    | false => rfl
  | false =>
    simp only [Bool.false_eq_true, if_false, List.nil_append]
    cases before.isConducting d != s.isConducting d with
    | true => rfl
    | false => exact (Parts.sendAll_nil s).symm

/-- A device written with its pattern kept moves no liveness, so that its conducting alone is told. -/
theorem conducts_setDevice {before s : Parts} {d : DeviceId} {x : DeviceLive}
    (hs : s.switching = (before.setDevice d x).switching) (hp : s.paralleling = before.paralleling)
    (h : x.pattern = before.switching.devices[d].pattern) :
    conducts before s d = if before.isConducting d != x.isConducting then [.conducting d] else [] := by
  have live (g : GeneratorId) : s.generatorLive g = before.generatorLive g :=
    Parts.generatorLive_congr _ _ g hp fun e => by rw [hs]; exact Parts.setDevice_pattern before d e x h
  have quiet : (allGenerators.any fun g => before.generatorLive g != s.generatorLive g) = false :=
    List.any_eq_false.mpr fun g _ => by simp only [live g, bne_self_eq_false, Bool.false_eq_true, not_false_eq_true]
  have now : s.isConducting d = x.isConducting := by rw [Parts.isConducting, hs, Parts.setDevice_self]
  simp only [conducts, quiet, now, Bool.false_eq_true, if_false, List.nil_append]

/-- An operation that ends DONE tells its owner, the units of the position, and the Map of a change of conducting. -/
theorem endDone_eq (before s : Parts) (d : DeviceId) (st : DeviceState) (p : Position) (a : Action) :
    let v := s.switching.devices[d]
    let t := s.setDevice d (v.ended st)
    let ns := completes v d .done a ++ v.origin.elim [] fun o => tellsPosition d p (.origin o)
    endDone before s d st p a = (t.sendAll ns).sendAll (conducts before (t.sendAll ns) d) := by
  intro v t ns
  have told : (match v.origin with
      | some o => ((t.sendCompletion v d .done a).sendPosition d p (.origin o))
      | none => t.sendCompletion v d .done a) = t.sendAll ns := by
    cases h : v.origin with
    | none => simp only [ns, h, Option.elim_none, List.append_nil, sendCompletion_eq]
    | some o => simp only [ns, h, Option.elim_some, sendCompletion_eq, sendPosition_eq, Parts.sendAll_sendAll]
  rw [← sendConducting_eq, ← told]
  rfl

/-! ## The operate timers (R34, R35, R37) -/

theorem exec_closeLimitExpiry (d : DeviceId) (s : State) :
    exec (.closeLimitExpiry d) s = event (closeLimitExpires d) s := rfl

theorem exec_openTimerExpiry (d : DeviceId) (s : State) :
    exec (.openTimerExpiry d) s = event (openTimerExpires d) s := rfl

theorem exec_persistenceTimerExpiry (d : DeviceId) (s : State) :
    exec (.persistenceTimerExpiry d) s = event (persistenceExpires d) s := rfl

/-- A device failed, its operation over, with the DEVICE flag. -/
def failedAs (s : Parts) (d : DeviceId) (why : FailureKind) : Parts :=
  (s.setDevice d { s.switching.devices[d].ended .failed with failure := some why }).raise .device

variable {s : Parts} {d : DeviceId}

theorem failedAs_notices (why : FailureKind) : (failedAs s d why).notices = s.notices := by
  simp [failedAs]

theorem conducts_failedAs (why : FailureKind) (ns : List Notice) : conducts s ((failedAs s d why).sendAll ns) d =
    if s.isConducting d != (s.position d != .open) then [.conducting d] else [] :=
  conducts_setDevice (x := { s.switching.devices[d].ended .failed with failure := some why })
    (by simp [failedAs]) (by simp [failedAs]) rfl

/-- The close limit of a CLOSING device fails the close. -/
theorem closeLimitExpires_fails (h : s.switching.devices[d].state = .closing)
    (ht : s.switching.devices[d].operateTimer.isRunning = true) : closeLimitExpires d s =
      (failedAs s d .failedClose).sendAll (completes s.switching.devices[d] d .failed .close ++
        if s.position d = .open then [.conducting d] else []) := by
  have was : s.isConducting d = true := by simp only [Parts.isConducting, DeviceLive.isConducting, h]
  simp only [closeLimitExpires, h, ht, and_self, if_true]
  change ((failedAs s d .failedClose).sendCompletion _ d .failed .close).sendConducting s d = _
  rw [sendCompletion_eq, sendConducting_eq, conducts_failedAs, was, Parts.sendAll_sendAll]
  cases s.position d <;> rfl

/-- The timer of an OPENING device that is not observed OPEN fails the open. -/
theorem openTimerExpires_fails (h : s.switching.devices[d].state = .opening)
    (ht : s.switching.devices[d].operateTimer.isRunning = true) (hp : s.position d ≠ .open) : openTimerExpires d s =
      (failedAs s d .failedOpen).sendAll (completes s.switching.devices[d] d .failed .open ++
        ((s.switching.devices[d].origin.filter Requester.isTrip).map fun o => Notice.breakerFailure d o).toList) := by
  have still : (s.isConducting d != (s.position d != .open)) = false := by
    have away : (s.position d != .open) = true := bne_iff_ne.mpr hp
    have was : s.isConducting d = true := by
      simp only [Parts.isConducting, DeviceLive.isConducting, h]
      exact (congrArg _ away).trans (Bool.or_true _)
    rw [was, away]; rfl
  have ends (ns : List Notice) : ((failedAs s d .failedOpen).sendAll ns).sendConducting s d =
      (failedAs s d .failedOpen).sendAll ns := by
    rw [sendConducting_eq, conducts_failedAs, still]
    exact Parts.sendAll_nil _
  simp only [openTimerExpires, h, ht, hp, and_self, if_true, if_false]
  change Parts.sendConducting (match s.switching.devices[d].origin with
      | some o => if o.isTrip then ((failedAs s d .failedOpen).sendCompletion _ d .failed .open).send (.breakerFailure d o)
        else (failedAs s d .failedOpen).sendCompletion _ d .failed .open
      | none => (failedAs s d .failedOpen).sendCompletion _ d .failed .open) s d = _
  rw [sendCompletion_eq]
  refine Eq.trans (congrArg (Parts.sendConducting · s d) ?_) (ends _)
  cases s.switching.devices[d].origin with
  | none => exact congrArg ((failedAs s d .failedOpen).sendAll ·) (List.append_nil _).symm
  | some o =>
    cases ho : o.isTrip with
    | true => simp only [if_true, Option.filter, ho]; exact Parts.sendAll_sendAll _ _ [_]
    | false => simp [Option.filter, ho]

/-- The timer of an OPENING device that is observed OPEN ends the open DONE. -/
theorem openTimerExpires_done {o : Requester} (h : s.switching.devices[d].state = .opening)
    (ht : s.switching.devices[d].operateTimer.isRunning = true) (hp : s.position d = .open)
    (ho : s.switching.devices[d].origin = some o) : openTimerExpires d s =
      (s.setDevice d (s.switching.devices[d].ended .open)).sendAll
        (completes s.switching.devices[d] d .done .open ++ tellsPosition d .open (.origin o) ++
          if s.switching.devices[d].abortedClose then [.conducting d] else []) := by
  have was : s.isConducting d = s.switching.devices[d].abortedClose := by
    simp only [Parts.isConducting, DeviceLive.isConducting, h]
    exact (congrArg (fun p => _ || p != Position.open) hp).trans (Bool.or_false _)
  have now : (s.switching.devices[d].ended .open).isConducting = false := congrArg (· != Position.open) hp
  simp only [openTimerExpires, h, ht, hp, and_self, if_true]
  rw [endDone_eq, conducts_setDevice (s := Parts.sendAll _ _) (x := s.switching.devices[d].ended .open) rfl (by simp) rfl,
    was, now, Parts.sendAll_sendAll, ho, Bool.bne_false]
  rfl

theorem persistenceExpires_running (h : s.switching.devices[d].persistence.isRunning = true) :
    persistenceExpires d s = (s.setDevice d
      { s.switching.devices[d] with state := .uncertain, persistence := .stopped }).raise .device := by
  simp only [persistenceExpires, h, if_true]

/-- Settles O26: each expiry is an equation of the unit, its notices sent where none waits. -/
theorem deviceTimersExpire : Obligations.DeviceTimersExpire := by
  intro d s live v ended told
  have calm (x : DeviceLive) : (s.parts.setDevice d x).notices = [] := (Parts.setDevice_notices _ _ _).trans live.2.1
  refine ⟨fun closing runs => ?_, fun opening runs away => ?_, fun opening runs there o ho => ?_, fun runs => ?_⟩
  · rw [exec_closeLimitExpiry, event_live _ _ live.1, closeLimitExpires_fails closing runs,
      Parts.sendAll_onto ((failedAs_notices _).trans live.2.1)]
    rfl
  · rw [exec_openTimerExpiry, event_live _ _ live.1, openTimerExpires_fails opening runs away,
      Parts.sendAll_onto ((failedAs_notices _).trans live.2.1)]
    rfl
  · rw [exec_openTimerExpiry, event_live _ _ live.1, openTimerExpires_done opening runs there ho,
      Parts.sendAll_onto (calm _)]
    rfl
  · rw [exec_persistenceTimerExpiry, event_live _ _ live.1, persistenceExpires_running runs, State.settled_calm]
    exact (Parts.setDevice_calm _ _ _ live.2).of_eq rfl rfl

/-! ## An input change of a device in service (R34 to R41) -/

/-- Where a device's pattern alone has been taken, with what its marks become, and its live half is z. -/
def Parts.observed (s : Parts) (d : DeviceId) (q : Pattern) (z : DeviceLive) (ns : List Notice) : Parts := { s with
  switching.devices := s.switching.devices.set d { z with pattern := q }
  attention.flags.device := s.attention.flags.device ||
    (!notReady (s.supervisionMask d) s.switching.devices[d].pattern && notReady (s.supervisionMask d) q)
  attention.changed := if s.store.devices[d].isSome then s.attention.changed.set (deviceIndex d) true
    else s.attention.changed
  notices := ns }

variable {q : Pattern} {z x : DeviceLive} {ns ms : List Notice}

theorem observed_device : (s.observed d q z ns).switching.devices[d] = { z with pattern := q } :=
  getElem_set_fin_self _ _ _

theorem observed_position : (s.observed d q z ns).position d = positionOf q := by
  rw [Parts.position, observed_device]

theorem observed_sendAll : (s.observed d q z ns).sendAll ms = s.observed d q z (ns ++ ms) := rfl

/-- A mark set under a condition covers any further mark under it. -/
theorem mark_again {n : Nat} (v : Vector Bool n) (i : Fin n) (b c : Bool) :
    (if b then v.set i true else v).set i ((if b then v.set i true else v)[i] || (b && c)) =
      if b then v.set i true else v := by
  cases b with
  | true => simp only [if_true, getElem_set_fin_self, Bool.true_or, Vector.set_set]
  | false => simp only [Bool.false_eq_true, if_false, Bool.false_and, Bool.or_false, set_fin_getElem]

/-- The record of an observed device is marked already, so that a further write of its live half is the write alone. -/
theorem observed_setDevice (y : DeviceLive) (h : x = { y with pattern := q }) :
    (s.observed d q z ns).setDevice d x = s.observed d q y ns := by
  subst h
  rw [Parts.setDevice_eq]
  simp only [Parts.observed, mark_again, Vector.set_set]

/-- The pattern taken and the entry into NOT_READY flagged. -/
theorem observed_start (hq : q ≠ s.switching.devices[d].pattern) (hn : s.notices = []) :
    (if !notReady (s.supervisionMask d) s.switching.devices[d].pattern && notReady (s.supervisionMask d) q then
      (s.setDevice d { s.switching.devices[d] with pattern := q }).raise .device
      else s.setDevice d { s.switching.devices[d] with pattern := q }) = s.observed d q s.switching.devices[d] [] := by
  have moved : (s.switching.devices[d].pattern != q) = true := bne_iff_ne.mpr (Ne.symm hq)
  rw [Parts.setDevice_ofPattern, moved]
  unfold Parts.observed
  cases s.store.devices[d].isSome <;>
    cases !notReady (s.supervisionMask d) s.switching.devices[d].pattern && notReady (s.supervisionMask d) q <;>
    simp [Parts.raise, AttentionFlags.raise, hn]

/-! ## What an observation tells -/

/-- The observation of one device moves the liveness of the generators it is the device of, where it comes to CLOSED or
leaves it. -/
theorem observed_generatorLive (g : GeneratorId) : (s.observed d q z ns).generatorLive g =
    if s.generatorDevice g = some d then s.paralleling.generators[g].state.isRunning && positionOf q == .closed
    else s.generatorLive g := by
  have device : (s.observed d q z ns).generatorDevice g = s.generatorDevice g := rfl
  have state : (s.observed d q z ns).paralleling = s.paralleling := rfl
  unfold Parts.generatorLive
  rw [device, state]
  cases h : s.generatorDevice g with
  | none => simp
  | some e =>
    by_cases he : d = e
    · subst he
      simp only [observed_position, if_true]
    · have kept : (s.observed d q z ns).position e = s.position e := by
        unfold Parts.position
        exact congrArg (fun y : DeviceLive => positionOf y.pattern) (getElem_set_fin_ne _ _ _ _ he)
      have other : ¬ some e = some d := fun e' => he (Option.some.inj e').symm
      simp only [kept, if_neg other]

/-- A source notice is sent exactly where the device of a running generator comes to CLOSED or leaves it (R51). -/
theorem source_observed : (if allGenerators.any fun g => s.generatorLive g != (s.observed d q z ns).generatorLive g
      then [Notice.source] else []) =
    s.sourceMoved d (positionOf s.switching.devices[d].pattern) (positionOf q) := by
  unfold Parts.sourceMoved
  refine if_congr ?_ rfl rfl
  have told (g : GeneratorId) : (s.generatorLive g != (s.observed d q z ns).generatorLive g) = true ↔
      ((positionOf s.switching.devices[d].pattern == .closed) != (positionOf q == .closed)) = true ∧
        s.generatorDevice g = some d ∧ s.paralleling.generators[g].state.isRunning = true := by
    rw [observed_generatorLive]
    by_cases h : s.generatorDevice g = some d
    · rw [if_pos h]
      have was : s.generatorLive g = (s.paralleling.generators[g].state.isRunning &&
          positionOf s.switching.devices[d].pattern == .closed) := by
        unfold Parts.generatorLive
        rw [h]
        rfl
      rw [was]
      cases s.paralleling.generators[g].state.isRunning <;> simp [h]
    · simp [h]
  simp only [List.any_eq_true, told]
  exact ⟨fun ⟨g, _, moved, mine⟩ => ⟨moved, g, mine⟩, fun ⟨moved, g, mine⟩ => ⟨g, List.mem_finRange g, moved, mine⟩⟩

theorem conducts_observed : conducts s (s.observed d q z ns) d =
    s.sourceMoved d (positionOf s.switching.devices[d].pattern) (positionOf q) ++
      if s.switching.devices[d].isConducting != { z with pattern := q }.isConducting then [.conducting d] else [] := by
  unfold conducts
  rw [source_observed]
  unfold Parts.isConducting
  rw [observed_device]

/-- The states in which a device conducts by its observed position alone. -/
def DeviceState.rests : DeviceState → Bool
  | .open | .closed | .uncertain | .failed => true
  | _ => false

theorem isConducting_resting (h : x.state.rests = true) : x.isConducting = (positionOf x.pattern != .open) := by
  unfold DeviceLive.isConducting
  cases hx : x.state <;> rw [hx] at h <;> first | rfl | cases h

theorem isConducting_closing (h : x.state = .closing) : x.isConducting = true := by
  unfold DeviceLive.isConducting
  rw [h]

theorem isConducting_opening (h : x.state = .opening) :
    x.isConducting = (x.abortedClose || positionOf x.pattern != .open) := by
  unfold DeviceLive.isConducting
  rw [h]

/-- What an observation of a device at rest tells the Map. -/
def moves (s : Parts) (d : DeviceId) (q : Pattern) : List Notice :=
  s.sourceMoved d (positionOf s.switching.devices[d].pattern) (positionOf q) ++
    if (positionOf s.switching.devices[d].pattern == .open) != (positionOf q == .open) then [.conducting d] else []

theorem conducts_resting (h : s.switching.devices[d].state.rests = true) (hz : z.state.rests = true) :
    conducts s (s.observed d q z ns) d = moves s d q := by
  rw [conducts_observed, isConducting_resting h, isConducting_resting (x := { z with pattern := q }) hz]
  unfold moves
  cases positionOf s.switching.devices[d].pattern <;> cases positionOf q <;> rfl

/-- A device at rest whose live half is rewritten at an observation tells of the position and of what moves. -/
theorem observed_rests (h : s.switching.devices[d].state.rests = true) (hz : z.state.rests = true) :
    (s.observed d q z ns).sendConducting s d = s.observed d q z (ns ++ moves s d q) := by
  rw [sendConducting_eq, conducts_resting h hz, observed_sendAll]

/-- An operation that ends DONE at an observation. -/
theorem observed_endDone (st : DeviceState) (p : Position) (a : Action) :
    endDone s (s.observed d q s.switching.devices[d] []) d st p a =
      s.observed d q (s.switching.devices[d].ended st) (completes s.switching.devices[d] d .done a ++
        s.switching.devices[d].origin.elim [] (fun o => tellsPosition d p (.origin o)) ++
        conducts s (s.observed d q (s.switching.devices[d].ended st) []) d) := by
  rw [endDone_eq, observed_device, observed_setDevice (s.switching.devices[d].ended st) ?_, observed_sendAll]
  · rfl
  · rfl

/-! ## The position taken (R34 to R41) -/

/-- An input of a device in service takes the pattern, and then the position where that has moved. -/
theorem takeInput_observed {i : DeviceInput} {level : Bool} (hn : s.notices = [])
    (h : s.switching.devices[d].state ≠ .unset ∧ s.switching.devices[d].state ≠ .retired)
    (hq : putInput s.switching.devices[d].pattern i level ≠ s.switching.devices[d].pattern) :
    let q := putInput s.switching.devices[d].pattern i level
    let t := s.observed d q s.switching.devices[d] []
    takeInput d i level s =
      if positionOf q = positionOf s.switching.devices[d].pattern then t else takePosition s d t := by
  intro q t
  unfold takeInput
  simp only [h.1, h.2, or_self, if_false, if_neg hq]
  rw [observed_start hq hn]

/-- A CLOSING device that is not observed CLOSED stays so, conducting. -/
theorem takePosition_closing (h : s.switching.devices[d].state = .closing) (hp : positionOf q ≠ .closed) :
    takePosition s d (s.observed d q s.switching.devices[d] []) = s.observed d q s.switching.devices[d]
      (s.sourceMoved d (positionOf s.switching.devices[d].pattern) (positionOf q)) := by
  have sent : (s.observed d q s.switching.devices[d] []).sendConducting s d = s.observed d q s.switching.devices[d]
      (s.sourceMoved d (positionOf s.switching.devices[d].pattern) (positionOf q)) := by
    rw [sendConducting_eq, conducts_observed, isConducting_closing h,
      isConducting_closing (x := { s.switching.devices[d] with pattern := q }) h, observed_sendAll]
    simp only [bne_self_eq_false, Bool.false_eq_true, if_false, List.append_nil, List.nil_append]
  rw [← sent]
  unfold takePosition
  simp only [observed_device, observed_position, h]
  cases e : positionOf q with
  | closed => exact absurd e hp
  | _ => rfl

/-- A CLOSING device observed CLOSED ends its close. -/
theorem takePosition_closingDone (h : s.switching.devices[d].state = .closing) (hp : positionOf q = .closed) :
    takePosition s d (s.observed d q s.switching.devices[d] []) =
      s.observed d q (s.switching.devices[d].ended .closed) (completes s.switching.devices[d] d .done .close ++
        s.switching.devices[d].origin.elim [] (fun o => tellsPosition d .closed (.origin o)) ++
        s.sourceMoved d (positionOf s.switching.devices[d].pattern) .closed) := by
  have now : ({ s.switching.devices[d].ended .closed with pattern := q } : DeviceLive).isConducting = true :=
    congrArg (· != Position.open) hp
  unfold takePosition
  simp only [observed_device, observed_position, h, hp]
  rw [observed_endDone, conducts_observed, hp, isConducting_closing h, now]
  simp only [bne_self_eq_false, Bool.false_eq_true, if_false, List.append_nil]

/-- An OPENING device observed OPEN ends its open. -/
theorem takePosition_openingDone (h : s.switching.devices[d].state = .opening) (hp : positionOf q = .open)
    (was : positionOf s.switching.devices[d].pattern ≠ .open) :
    takePosition s d (s.observed d q s.switching.devices[d] []) =
      s.observed d q (s.switching.devices[d].ended .open) (completes s.switching.devices[d] d .done .open ++
        s.switching.devices[d].origin.elim [] (fun o => tellsPosition d .open (.origin o)) ++
        (s.sourceMoved d (positionOf s.switching.devices[d].pattern) .open ++ [.conducting d])) := by
  have now : ({ s.switching.devices[d].ended .open with pattern := q } : DeviceLive).isConducting = false :=
    congrArg (· != Position.open) hp
  unfold takePosition
  simp only [observed_device, observed_position, h, hp]
  rw [observed_endDone, conducts_observed, hp, isConducting_opening h, now, bne_iff_ne.mpr was, Bool.or_true]
  rfl

/-- An OPENING device that is not observed OPEN stays so. -/
theorem takePosition_opening (h : s.switching.devices[d].state = .opening) (hp : positionOf q ≠ .open) :
    takePosition s d (s.observed d q s.switching.devices[d] []) = s.observed d q s.switching.devices[d]
      (s.sourceMoved d (positionOf s.switching.devices[d].pattern) (positionOf q) ++
        if s.switching.devices[d].abortedClose = false ∧ positionOf s.switching.devices[d].pattern = .open
          then [.conducting d] else []) := by
  have sent : (s.observed d q s.switching.devices[d] []).sendConducting s d = s.observed d q s.switching.devices[d]
      (s.sourceMoved d (positionOf s.switching.devices[d].pattern) (positionOf q) ++
        if s.switching.devices[d].abortedClose = false ∧ positionOf s.switching.devices[d].pattern = .open
          then [.conducting d] else []) := by
    rw [sendConducting_eq, conducts_observed, isConducting_opening h,
      isConducting_opening (x := { s.switching.devices[d] with pattern := q }) h, observed_sendAll, bne_iff_ne.mpr hp]
    cases s.switching.devices[d].abortedClose <;> cases positionOf s.switching.devices[d].pattern <;> rfl
  rw [← sent]
  unfold takePosition
  simp only [observed_device, observed_position, h]
  cases e : positionOf q with
  | closed | travel | disagree => rfl
  | _ => exact absurd e hp

/-- An OPEN device observed OPEN, or a CLOSED one CLOSED, is back at its position. -/
theorem takePosition_back (h : s.switching.devices[d].state = .open ∧ positionOf q = .open ∨
      s.switching.devices[d].state = .closed ∧ positionOf q = .closed) :
    takePosition s d (s.observed d q s.switching.devices[d] []) =
      s.observed d q { s.switching.devices[d] with persistence := .stopped } (moves s d q) := by
  have rests : s.switching.devices[d].state.rests = true := by rcases h with ⟨h, _⟩ | ⟨h, _⟩ <;> rw [h] <;> rfl
  have stops : takePosition s d (s.observed d q s.switching.devices[d] []) =
      ((s.observed d q s.switching.devices[d] []).setDevice d
        { s.switching.devices[d] with pattern := q, persistence := .stopped }).sendConducting s d := by
    unfold takePosition
    rcases h with ⟨h, hp⟩ | ⟨h, hp⟩ <;> simp only [observed_device, observed_position, h, hp]
  rw [stops, observed_setDevice { s.switching.devices[d] with persistence := .stopped } rfl,
    observed_rests rests (by exact rests), List.nil_append]

/-- An OPEN or CLOSED device that leaves its position runs its persistence timer. -/
theorem takePosition_leaves (h : s.switching.devices[d].state = .open ∨ s.switching.devices[d].state = .closed)
    (hp : positionOf q = .travel ∨ positionOf q = .disagree) :
    takePosition s d (s.observed d q s.switching.devices[d] []) = s.observed d q { s.switching.devices[d] with
      persistence := if s.switching.devices[d].persistence.isRunning then s.switching.devices[d].persistence
        else .running (s.persistenceTime d) } (moves s d q) := by
  have rests : s.switching.devices[d].state.rests = true := by rcases h with h | h <;> rw [h] <;> rfl
  have begun : startPersistence (s.observed d q s.switching.devices[d] []) d = s.observed d q { s.switching.devices[d] with
      persistence := if s.switching.devices[d].persistence.isRunning then s.switching.devices[d].persistence
        else .running (s.persistenceTime d) } [] := by
    unfold startPersistence
    simp only [observed_device]
    split
    · rfl
    · exact observed_setDevice _ rfl
  have leaves : takePosition s d (s.observed d q s.switching.devices[d] []) =
      (startPersistence (s.observed d q s.switching.devices[d] []) d).sendConducting s d := by
    unfold takePosition
    rcases h with h | h <;> rcases hp with hp | hp <;> simp only [observed_device, observed_position, h, hp]
  rw [leaves, begun, observed_rests rests (by exact rests), List.nil_append]

/-- An UNCERTAIN device settles at OPEN or CLOSED. -/
theorem takePosition_settles (h : s.switching.devices[d].state = .uncertain)
    (hp : positionOf q = .open ∨ positionOf q = .closed) :
    takePosition s d (s.observed d q s.switching.devices[d] []) =
      s.observed d q { s.switching.devices[d] with state := stateOfPosition (positionOf q) }
        (tellsPosition d (positionOf q) .settled ++ moves s d q) := by
  have rests : s.switching.devices[d].state.rests = true := by rw [h]; rfl
  have then_ : (stateOfPosition (positionOf q)).rests = true := by rcases hp with hp | hp <;> rw [hp] <;> rfl
  have settles : takePosition s d (s.observed d q s.switching.devices[d] []) =
      (((s.observed d q s.switching.devices[d] []).setDevice d
        { s.switching.devices[d] with pattern := q, state := stateOfPosition (positionOf q) }).sendPosition
          d (positionOf q) .settled).sendConducting s d := by
    unfold takePosition
    rcases hp with hp | hp <;> simp only [observed_device, observed_position, h, hp, stateOfPosition]
  rw [settles, observed_setDevice { s.switching.devices[d] with state := stateOfPosition (positionOf q) } rfl,
    sendPosition_eq, observed_sendAll, observed_rests rests (by exact then_), List.nil_append]

theorem takePosition_uncertain (h : s.switching.devices[d].state = .uncertain)
    (hp : positionOf q = .travel ∨ positionOf q = .disagree) :
    takePosition s d (s.observed d q s.switching.devices[d] []) = s.observed d q s.switching.devices[d] (moves s d q) := by
  have rests : s.switching.devices[d].state.rests = true := by rw [h]; rfl
  rw [← List.nil_append (moves s d q), ← observed_rests rests rests]
  unfold takePosition
  rcases hp with hp | hp <;> simp only [observed_device, observed_position, h, hp]

/-- A FAILED device that comes to OPEN or leaves it tells the units LATE. -/
theorem takePosition_failed (h : s.switching.devices[d].state = .failed) :
    takePosition s d (s.observed d q s.switching.devices[d] []) = s.observed d q s.switching.devices[d]
      ((if (positionOf s.switching.devices[d].pattern == .open) != (positionOf q == .open)
        then tellsPosition d (positionOf q) .late else []) ++ moves s d q) := by
  have rests : s.switching.devices[d].state.rests = true := by rw [h]; rfl
  rw [← observed_rests rests rests]
  unfold takePosition Parts.leftOrEnteredOpen
  simp only [observed_device, observed_position, h]
  unfold Parts.position
  split <;> rfl

/-! ## The commands -/

/-- One input moves a pattern by one contact, and so never between OPEN and CLOSED. -/
theorem putInput_adjacent (p : Pattern) (i : DeviceInput) (level : Bool) :
    ¬(positionOf p = .open ∧ positionOf (putInput p i level) = .closed) ∧
      ¬(positionOf p = .closed ∧ positionOf (putInput p i level) = .open) := by
  obtain ⟨a, b, r, t⟩ := p
  cases i <;> decide +revert

/-- An input that moves the position leaves the two health inputs. -/
theorem notReady_putInput (m : SupervisionMask) {p : Pattern} {i : DeviceInput} {level : Bool}
    (h : positionOf (putInput p i level) ≠ positionOf p) : notReady m (putInput p i level) = notReady m p := by
  cases i with
  | openContact | closedContact => rfl
  | ready | tripHealthy => exact absurd rfl h

/-- An input that moves the position of a device in service is taken as a position. -/
theorem exec_inputMoves {s : State} {i : DeviceInput} {level : Bool} {u : Parts} (live : s.live)
    (h : s.parts.switching.devices[d].state ≠ .unset ∧ s.parts.switching.devices[d].state ≠ .retired)
    (moved : positionOf (putInput s.parts.switching.devices[d].pattern i level) ≠
      positionOf s.parts.switching.devices[d].pattern)
    (taken : takePosition s.parts d (s.parts.observed d (putInput s.parts.switching.devices[d].pattern i level)
      s.parts.switching.devices[d] []) = u) :
    exec (.deviceInputChange d i level) s = .next (s.settled u) := by
  rw [exec_deviceInputChange, event_live _ _ live.1,
    takeInput_observed live.2.1 h fun same => moved (congrArg positionOf same), if_neg moved, taken]

/-- An input that leaves the position is taken as a pattern alone. -/
theorem exec_inputStays {s : State} {i : DeviceInput} {level : Bool} (live : s.live)
    (h : s.parts.switching.devices[d].state ≠ .unset ∧ s.parts.switching.devices[d].state ≠ .retired)
    (change : putInput s.parts.switching.devices[d].pattern i level ≠ s.parts.switching.devices[d].pattern)
    (stays : positionOf (putInput s.parts.switching.devices[d].pattern i level) =
      positionOf s.parts.switching.devices[d].pattern) :
    exec (.deviceInputChange d i level) s = .next (s.settled (s.parts.observed d
      (putInput s.parts.switching.devices[d].pattern i level) s.parts.switching.devices[d] [])) := by
  rw [exec_deviceInputChange, event_live _ _ live.1, takeInput_observed live.2.1 h change, if_pos stays]

/-- Settles O23: a row of the table is an equation of the taken position, and the rows agree on what moves. -/
theorem observationsEndOperationsAndMoveTimers : Obligations.ObservationsEndOperationsAndMoveTimers := by
  intro d i level s live v q was now m becomes ended done source moved started
  have inService {st : DeviceState} (h : v.state = st) (hu : st ≠ .unset) (hr : st ≠ .retired) :
      v.state ≠ .unset ∧ v.state ≠ .retired := by rw [h]; exact ⟨hu, hr⟩
  refine ⟨fun same => ?_, fun hu hr change stays => ?_, fun moves => ⟨fun h hp => ?_, fun h hp => ?_, fun h hp => ?_,
    fun h hp => ?_, fun h hp => ?_, fun h hp => ?_, fun h hp => ?_, fun h hp => ?_, fun h hp => ?_, fun h hp => ?_,
    fun h => ?_⟩⟩
  · rw [exec_deviceInputChange, event_live _ _ live.1, takeInput_same same, State.settled_calm _ _ live.2]
  · exact exec_inputStays live ⟨hu, hr⟩ change stays
  · refine exec_inputMoves live (inService h (by decide) (by decide)) moves ((takePosition_closingDone h hp).trans ?_)
    simp only [done, source, hp]
    rfl
  · exact exec_inputMoves live (inService h (by decide) (by decide)) moves (takePosition_closing h hp)
  · refine exec_inputMoves live (inService h (by decide) (by decide)) moves
      ((takePosition_openingDone h hp fun e => moves (hp.trans e.symm)).trans ?_)
    simp only [done, source, hp, List.append_assoc]
    rfl
  · exact exec_inputMoves live (inService h (by decide) (by decide)) moves (takePosition_opening h hp)
  · exact exec_inputMoves live (inService h (by decide) (by decide)) moves (takePosition_back (.inl ⟨h, hp⟩))
  · exact exec_inputMoves live (inService h (by decide) (by decide)) moves (takePosition_back (.inr ⟨h, hp⟩))
  · refine exec_inputMoves live ?_ moves (takePosition_leaves h hp)
    rcases h with h | h <;> exact inService h (by decide) (by decide)
  · have settled := takePosition_settles (q := q) h (.inl hp)
    have st : stateOfPosition (positionOf q) = .open := congrArg stateOfPosition hp
    rw [st] at settled
    exact exec_inputMoves live (inService h (by decide) (by decide)) moves settled
  · have settled := takePosition_settles (q := q) h (.inr hp)
    have st : stateOfPosition (positionOf q) = .closed := congrArg stateOfPosition hp
    rw [st] at settled
    exact exec_inputMoves live (inService h (by decide) (by decide)) moves settled
  · exact exec_inputMoves live (inService h (by decide) (by decide)) moves (takePosition_uncertain h hp)
  · exact exec_inputMoves live (inService h (by decide) (by decide)) moves (takePosition_failed h)

/-! ## Uncommanded changes (R38, R39) -/

/-- An uncommanded closing under REMOTE raises the DEVICE flag. -/
theorem takePosition_strayClosed (h : s.switching.devices[d].state = .open) (hp : positionOf q = .closed) :
    let remote := s.switching.authority == .remoteControl
    let t := s.observed d q { s.switching.devices[d] with
      state := .closed, persistence := .stopped, discrepancy := s.switching.devices[d].discrepancy || remote }
      (tellsPosition d .closed s.uncommanded ++ moves s d q)
    takePosition s d (s.observed d q s.switching.devices[d] []) = if remote then t.raise .device else t := by
  intro remote t
  have rests : s.switching.devices[d].state.rests = true := by rw [h]; rfl
  let z : DeviceLive := { s.switching.devices[d] with
    state := .closed, persistence := .stopped, discrepancy := s.switching.devices[d].discrepancy || remote }
  have strays : takePosition s d (s.observed d q s.switching.devices[d] []) =
      ((if remote then ((s.observed d q s.switching.devices[d] []).setDevice d { z with pattern := q }).raise .device
        else (s.observed d q s.switching.devices[d] []).setDevice d { z with pattern := q }).sendPosition
          d .closed s.uncommanded).sendConducting s d := by
    unfold takePosition
    simp only [observed_device, observed_position, h, hp]
    rfl
  rw [strays, observed_setDevice z rfl, sendPosition_eq]
  cases remote with
  | true =>
    simp only [if_true]
    rw [sendConducting_eq]
    change Parts.raise ((s.observed d q z (tellsPosition d .closed s.uncommanded)).sendAll
      (conducts s (s.observed d q z []) d)) .device = _
    rw [conducts_resting rests (by rfl), observed_sendAll]
  | false =>
    simp only [Bool.false_eq_true, if_false]
    rw [observed_sendAll, observed_rests rests (by rfl)]
    rfl

/-- An uncommanded opening raises nothing. -/
theorem takePosition_strayOpen (h : s.switching.devices[d].state = .closed) (hp : positionOf q = .open) :
    takePosition s d (s.observed d q s.switching.devices[d] []) =
      s.observed d q { s.switching.devices[d] with state := .open, persistence := .stopped }
        (tellsPosition d .open s.uncommanded ++ moves s d q) := by
  have rests : s.switching.devices[d].state.rests = true := by rw [h]; rfl
  have strays : takePosition s d (s.observed d q s.switching.devices[d] []) =
      (((s.observed d q s.switching.devices[d] []).setDevice d
        { s.switching.devices[d] with pattern := q, state := .open, persistence := .stopped }).sendPosition
          d .open s.uncommanded).sendConducting s d := by
    unfold takePosition
    simp only [observed_device, observed_position, h, hp]
    rfl
  rw [strays, observed_setDevice { s.switching.devices[d] with state := .open, persistence := .stopped } rfl,
    sendPosition_eq, observed_sendAll, observed_rests rests (by rfl), List.nil_append]

theorem Parts.uncommanded_eq (s : Parts) : s.uncommanded =
    if decide (s.switching.authority = .remoteControl) then .external else .localChange := by
  unfold Parts.uncommanded
  cases s.switching.authority <;> rfl

/-- An observation that leaves the health inputs leaves the DEVICE flag. -/
theorem observed_attention (h : notReady (s.supervisionMask d) q =
      notReady (s.supervisionMask d) s.switching.devices[d].pattern) : (s.observed d q z ns).attention =
    ⟨s.attention.flags, if s.store.devices[d].isSome then s.attention.changed.set (deviceIndex d) true
      else s.attention.changed⟩ := by
  unfold Parts.observed
  simp only [h, Bool.not_and_self, Bool.or_false]

/-- Settles O22: a stray change is the taken position's row, and an input moves it from neither contact or both. -/
theorem uncommandedChangesAreTaken : Obligations.UncommandedChangesAreTaken := by
  intro d i level s live v q remote cause told changed moved
  have ready := notReady_putInput (s.parts.supervisionMask d) moved
  obtain ⟨fromOpen, fromClosed⟩ := putInput_adjacent v.pattern i level
  have cause_eq : s.parts.uncommanded = cause := Parts.uncommanded_eq _
  have untold : { s.parts with notices := [] } = s.parts := by rw [← live.2.1]
  refine ⟨fun h hp => ?_, fun h hp => ?_⟩
  · have apart : (positionOf v.pattern == .open) = false := beq_eq_false_iff_ne.mpr fun e => fromOpen ⟨e, hp⟩
    have quiet : moves s.parts d q = s.parts.sourceMoved d (positionOf v.pattern) .closed := by
      unfold moves
      rw [apart, hp]
      exact List.append_nil _
    refine ⟨_, exec_inputMoves live ⟨?_, ?_⟩ moved (takePosition_strayClosed h hp), ?_⟩
    · rw [h]; decide
    · rw [h]; decide
    · have same : (s.parts.switching.authority == .remoteControl) = remote := rfl
      rw [same, quiet, cause_eq]
      cases remote with
      | true =>
        refine ⟨rfl, ?_, rfl, untold⟩
        simp only [if_true, Parts.raise, AttentionFlags.raise, Bool.or_true]
        rfl
      | false =>
        refine ⟨rfl, ?_, rfl, untold⟩
        simp only [Bool.false_eq_true, if_false, Bool.or_false]
        exact observed_attention ready
  · have apart : (positionOf v.pattern == .open) = false :=
      beq_eq_false_iff_ne.mpr fun e => moved (hp.trans e.symm)
    have notClosed : (positionOf v.pattern == .closed) = false := beq_eq_false_iff_ne.mpr fun e => fromClosed ⟨e, hp⟩
    have tells : moves s.parts d q = [.conducting d] := by
      unfold moves Parts.sourceMoved
      rw [apart, notClosed, hp]
      rfl
    refine ⟨_, exec_inputMoves live ⟨?_, ?_⟩ moved (takePosition_strayOpen h hp), rfl, observed_attention ready, ?_, untold⟩
    · rw [h]; decide
    · rw [h]; decide
    · rw [tells, cause_eq]
      rfl

end Sys2Proof.Machine

/-!
PROOF. The lanes (chapter 5): characters and frames, break and silence, SETPOINT transmission, and the tests of points.
-/

namespace Sys2Proof.Machine

variable {f : LaneId} {s : Parts} {y : LaneCharacter}

/-! ## A lane written -/

theorem setLane_self (x : LaneLive) : (s.setLane f x).lanes.lanes[f] = x := getElem_set_fin_self _ _ _

theorem setLane_setLane (x z : LaneLive) : (s.setLane f x).setLane f z = s.setLane f z := by
  simp only [Parts.setLane, Vector.set_set]

theorem setLane_calm (x : LaneLive) (h : s.calm) : (s.setLane f x).calm := h.of_eq rfl rfl

/-- An event that writes one lane. -/
theorem event_setLane {s : State} {g : Parts → Parts} {z : LaneLive} (live : s.live) (h : g s.parts = s.parts.setLane f z) :
    event g s = .next { s with parts.lanes.lanes := s.parts.lanes.lanes.set f z } := by
  rw [event_live _ _ live.1, h, State.settled_calm _ _ (setLane_calm _ live.2)]
  rfl

/-- An event that does nothing. -/
theorem event_idle {s : State} {g : Parts → Parts} (live : s.live) (h : g s.parts = s.parts) : event g s = .next s := by
  rw [event_live _ _ live.1, h, State.settled_calm _ _ live.2]

/-! ## Characters (R72, R73) -/

/-- A lane with the errors of a character counted. -/
def LaneLive.withErrors (x : LaneLive) (n : Nat) : LaneLive :=
  { x with counts := { x.counts with character := addCount x.counts.character n } }

theorem exec_laneCharacter (f : LaneId) (y : LaneCharacter) (s : State) :
    exec (.laneCharacter f y) s = event (takeCharacter f y) s := rfl

theorem takeCharacter_none (h : s.lanes.lanes[f].state = .disabled ∨ s.lanes.lanes[f].spacing = true) :
    takeCharacter f y s = s := by simp only [takeCharacter, h, if_true]

theorem takesCharacters {x : LaneLive} (h₁ : x.state ≠ .disabled) (h₂ : x.spacing = false) :
    ¬(x.state = .disabled ∨ x.spacing = true) := by simp only [h₁, h₂, Bool.false_eq_true, or_self, not_false_eq_true]

/-- A character with its marker bit set, on a lane that takes characters. -/
theorem takeCharacter_header (h₁ : s.lanes.lanes[f].state ≠ .disabled) (h₂ : s.lanes.lanes[f].spacing = false)
    (hm : majority y.marker = true) : takeCharacter f y s =
      takeHeader f (characterByte y) (errorCount y) (s.setLane f (s.lanes.lanes[f].withErrors (errorCount y))) := by
  unfold takeCharacter
  dsimp only
  rw [if_neg (takesCharacters h₁ h₂), if_pos hm]
  rfl

/-- A character with its marker bit clear, on a lane that takes characters. -/
theorem takeCharacter_body (h₁ : s.lanes.lanes[f].state ≠ .disabled) (h₂ : s.lanes.lanes[f].spacing = false)
    (hm : majority y.marker = false) : takeCharacter f y s =
      takeBody f (characterByte y) (errorCount y) (s.setLane f (s.lanes.lanes[f].withErrors (errorCount y))) := by
  unfold takeCharacter
  dsimp only
  rw [if_neg (takesCharacters h₁ h₂), if_neg (by rw [hm]; decide)]
  rfl

/-- A lane's counts with an assembly under way ended as TRUNCATED. -/
def LaneLive.cutCounts (x : LaneLive) : DiscardCounts :=
  if x.assembly.isSome then { x.counts with truncated := addCount x.counts.truncated 1 } else x.counts

theorem LaneLive.cutCounts_eq (x : LaneLive) : x.cutCounts = { x.counts with
    truncated := if x.assembly.isSome then addCount x.counts.truncated 1 else x.counts.truncated } := by
  unfold LaneLive.cutCounts
  split <;> rfl

theorem takeHeader_bad {b : Byte} {errors : Nat} (h : 0 < errors) (x : LaneLive) :
    takeHeader f b errors (s.setLane f x) = s.setLane f { x with counts := x.cutCounts, assembly := none } := by
  simp only [takeHeader, setLane_self, setLane_setLane, gt_iff_lt, h, if_true, LaneLive.cutCounts]

theorem takeHeader_begins {b : Byte} {n : Nat} (h : headerLength b = some n) (x : LaneLive) :
    takeHeader f b 0 (s.setLane f x) = s.setLane f { x with
      counts := x.cutCounts, assembly := some { header := b, length := n, bad := false, bytes := [] } } := by
  simp only [takeHeader, setLane_self, setLane_setLane, gt_iff_lt, Nat.lt_irrefl, if_false, h, LaneLive.cutCounts]

theorem takeHeader_unknown {b : Byte} (h : headerLength b = none) (x : LaneLive) :
    takeHeader f b 0 (s.setLane f x) = s.setLane f { x with
      counts := { x.cutCounts with kind := addCount x.cutCounts.kind 1 }, assembly := none } := by
  simp only [takeHeader, setLane_self, setLane_setLane, gt_iff_lt, Nat.lt_irrefl, if_false, h, LaneLive.cutCounts]

theorem takeBody_none {b : Byte} {errors : Nat} {x : LaneLive} (h : x.assembly = none) :
    takeBody f b errors (s.setLane f x) = s.setLane f x := by
  simp only [takeBody, setLane_self, h]

/-- An assembly with a byte more. -/
def Assembly.push (a : Assembly) (b : Byte) (errors : Nat) : Assembly :=
  { a with bytes := a.bytes ++ [b], bad := a.bad || 0 < errors }

theorem takeBody_joins {b : Byte} {errors : Nat} {x : LaneLive} {a : Assembly} (h : x.assembly = some a)
    (hl : a.bytes.length + 2 < a.length) :
    takeBody f b errors (s.setLane f x) = s.setLane f { x with assembly := some (a.push b errors) } := by
  have short : ¬ (a.bytes ++ [b]).length + 1 ≥ a.length := by
    rw [List.length_append, List.length_singleton]
    omega
  simp only [takeBody, setLane_self, setLane_setLane, h, if_neg short]
  rfl

theorem takeBody_last {b : Byte} {errors : Nat} {x : LaneLive} {a : Assembly} (h : x.assembly = some a)
    (hl : a.bytes.length + 2 = a.length) :
    takeBody f b errors (s.setLane f x) = judgeFrame f (a.push b errors) (s.setLane f { x with assembly := none }) := by
  have full : (a.bytes ++ [b]).length + 1 ≥ a.length := by
    rw [List.length_append, List.length_singleton]
    omega
  simp only [takeBody, setLane_self, setLane_setLane, h, if_pos full]
  rfl

theorem judgeFrame_bad {a : Assembly} (h : a.bad = true) : judgeFrame f a s = s := by
  unfold judgeFrame
  split
  · rw [if_pos h]
  · rfl

theorem judgeFrame_kind {a : Assembly} {k : FrameKind} {x : LaneLive} (hk : headerKind a.header = some k)
    (hb : a.bytes ≠ []) (h : a.bad = false) (hx : kindMatches k x = false) : judgeFrame f a (s.setLane f x) =
      s.setLane f { x with counts := { x.counts with kind := addCount x.counts.kind 1 } } := by
  unfold judgeFrame
  obtain ⟨q, rest, e⟩ := List.exists_cons_of_ne_nil hb
  simp only [hk, e, h, setLane_self, setLane_setLane, hx, Bool.false_eq_true, if_false, Bool.not_false, if_true]

/-- Settles O33: the lane's equations for a header and for a body, each of which writes the lane alone. -/
theorem charactersAssembleFrames : Obligations.CharactersAssembleFrames := by
  intro f y s live x b errors counts cut writes
  have wrote {z : LaneLive} (h : takeCharacter f y s.parts = s.parts.setLane f z) : writes z :=
    (exec_laneCharacter f y s).trans (event_setLane live h)
  have cut_eq : (x.withErrors errors).cutCounts = cut := LaneLive.cutCounts_eq _
  refine ⟨fun none => ?_, fun h₁ h₂ => ⟨fun hm => ⟨fun bad => ?_, fun n good len => ?_, fun good len => ?_⟩,
    fun hm => ⟨fun none => ?_, fun a ha => ⟨fun short => ?_, fun last bad => ?_, fun k last clean good hk hx => ?_⟩⟩⟩⟩
  · exact event_idle live (takeCharacter_none none)
  · refine wrote ((takeCharacter_header h₁ h₂ hm).trans ((takeHeader_bad bad _).trans ?_))
    rw [cut_eq]
    rfl
  · have read := takeHeader_begins (f := f) (s := s.parts) len (x.withErrors errors)
    rw [cut_eq, ← good] at read
    exact wrote ((takeCharacter_header h₁ h₂ hm).trans read)
  · have read := takeHeader_unknown (f := f) (s := s.parts) len (x.withErrors errors)
    rw [cut_eq, ← good] at read
    exact wrote ((takeCharacter_header h₁ h₂ hm).trans read)
  · exact wrote ((takeCharacter_body h₁ h₂ hm).trans (takeBody_none none))
  · exact wrote ((takeCharacter_body h₁ h₂ hm).trans (takeBody_joins ha short))
  · refine wrote ((takeCharacter_body h₁ h₂ hm).trans ((takeBody_last (x := x.withErrors errors) ha last).trans (judgeFrame_bad ?_)))
    rcases bad with bad | bad
    · simp only [Assembly.push, bad, Bool.true_or]
    · simp only [Assembly.push, errors, bad, decide_true, Bool.or_true]
  · have whole : (a.push b errors).bad = false := by simp only [Assembly.push, clean, good, Nat.lt_irrefl]; rfl
    exact wrote ((takeCharacter_body h₁ h₂ hm).trans ((takeBody_last (x := x.withErrors errors) ha last).trans
      (judgeFrame_kind hk (List.append_ne_nil_of_right_ne_nil _ (List.cons_ne_nil _ _)) whole hx)))

/-! ## SETPOINT transmission (R82) -/

theorem exec_setpointTransmitDone (f : LaneId) (s : State) :
    exec (.setpointTransmitDone f) s = event (transmissionEnds f) s := rfl

theorem transmissionEnds_idle (h : s.lanes.lanes[f].sending = none) : transmissionEnds f s = s := by
  simp only [transmissionEnds, h]

theorem transmissionEnds_last {w : Sending} (h : s.lanes.lanes[f].sending = some w)
    (hw : s.lanes.lanes[f].waiting = none) :
    transmissionEnds f s = s.setLane f { s.lanes.lanes[f] with sending := none } := by
  simp only [transmissionEnds, h, hw]

theorem transmissionEnds_next {w : Sending} {c : Content} (h : s.lanes.lanes[f].sending = some w)
    (hw : s.lanes.lanes[f].waiting = some c) :
    transmissionEnds f s = s.setLane f ({ s.lanes.lanes[f] with waiting := none }.transmit c) := by
  simp only [transmissionEnds, h, hw]

theorem transmitLine_eq {s : State} {w : Option Sending} (high : s.inReset = false)
    (h : s.parts.lanes.lanes[f].sending = w) : s.transmitLine f = w.elim [] Sending.characters := by
  simp only [State.transmitLine, high, h, Bool.false_eq_true, if_false]

/-- A sent character reads as its byte and its marker bit, without an error. -/
theorem characterOf_reads (b : Byte) (m : Bool) : characterByte (characterOf b m) = b ∧
    majority (characterOf b m).marker = m ∧ errorCount (characterOf b m) = 0 := characterOf_read m b.toFin

/-- A frame's characters read as its bytes, without an error, the header alone marked. -/
theorem characters_read (w : Sending) (h : Byte) (rest : List Byte) (e : w.bytes = h :: rest) :
    w.characters.map characterByte = h :: rest ∧ (∀ x ∈ w.characters, errorCount x = 0) ∧
      (w.characters.map fun x => majority x.marker) = true :: List.replicate (w.characters.length - 1) false := by
  have chars : w.characters = characterOf h true :: rest.map (characterOf · false) := by
    simp only [Sending.characters, e]
  obtain ⟨byte, marker, errors⟩ := characterOf_reads h true
  rw [chars]
  refine ⟨?_, ?_, ?_⟩
  · have bytes : characterByte ∘ (characterOf · false) = id := funext fun b => (characterOf_reads b false).1
    rw [List.map_cons, byte, List.map_map, bytes, List.map_id]
  · intro x hx
    rcases List.mem_cons.mp hx with rfl | hx
    · exact errors
    · obtain ⟨b, _, rfl⟩ := List.mem_map.mp hx
      exact (characterOf_reads b false).2.2
  · have markers : (fun x : LaneCharacter => majority x.marker) ∘ (characterOf · false) = fun _ => false :=
      funext fun b => (characterOf_reads b false).2.1
    rw [List.map_cons, marker, List.map_map, markers, List.map_const', List.length_cons, List.length_map,
      Nat.add_sub_cancel]

/-- Settles O36: the end of a transmission is an equation of the lane, and a sent character reads as its byte. -/
theorem transmissionsFollowOneAnother : Obligations.TransmissionsFollowOneAnother := by
  intro f s live x
  refine ⟨fun free => ⟨event_idle live (transmissionEnds_idle free), transmitLine_eq live.1 free⟩,
    fun busy last => ?_, fun c busy next => ?_, fun y sends => ?_⟩
  · obtain ⟨w, h⟩ := Option.isSome_iff_exists.mp busy
    exact (exec_setpointTransmitDone f s).trans (event_setLane live (transmissionEnds_last h last))
  · obtain ⟨w, h⟩ := Option.isSome_iff_exists.mp busy
    exact (exec_setpointTransmitDone f s).trans (event_setLane live (transmissionEnds_next h next))
  · intro run body line
    have command : byte (codeIn RunCommand.all y.content.run) = run := by
      simp only [run]
      cases y.content.run <;> rfl
    have sent : line = y.characters := transmitLine_eq live.1 sends
    rw [sent]
    refine characters_read y _ _ ?_
    simp only [Sending.bytes, command, body]
    rfl

/-! ## Points written (R78, R81) -/

/-- Points written, with their changed marks and the notices sent. -/
def Parts.pointed (s : Parts) (ps : Vector PointLive 64) (m : Vector Bool 256) (ns : List Notice) : Parts :=
  { s with lanes.points := ps, attention.changed := m, notices := s.notices ++ ns }

variable {p : PointId}

theorem setPoint_pointed (x : PointLive) : ∃ m, s.setPoint p x = s.pointed (s.lanes.points.set p x) m [] := by
  obtain ⟨m, e⟩ := markIf_marks (x.kind.isSome && s.lanes.points[p].shown != x.shown) (pointIndex p)
    { s with lanes.points := s.lanes.points.set p x }
  exact ⟨m, e.trans (by simp only [Parts.pointed, List.append_nil])⟩

/-- The notices of a point to the blocks that use it (R81). -/
def pointTells (s : Parts) (k : Option PointKind) (n : PointNotice) : List Notice :=
  ((if (allElements.any fun e => s.protection.watch[e] == some n.point) = true then [PointUser.protection] else []) ++
    k.elim [] pointUsers).map fun u => .point u n

/-- A point written and told of. -/
theorem setPoint_sendPoint (x : PointLive) (u : Option UpdateMark) (e : Bool) : ∃ m,
    (s.setPoint p x).sendPoint p u e = s.pointed (s.lanes.points.set p x) m (pointTells s x.kind
      { point := p, status := x.status, values := x.values, update := u, endOfTest := e }) := by
  obtain ⟨m, w⟩ := setPoint_pointed (s := s) (p := p) x
  refine ⟨m, ?_⟩
  have now : (s.setPoint p x).lanes.points[p] = x := by
    rw [w]
    exact getElem_set_fin_self _ _ _
  unfold Parts.sendPoint
  simp only [now]
  rw [w]
  simp only [Parts.pointed, Parts.sendAll, List.append_nil]
  rfl

/-- A step on the points that writes one of them as a function of what it held, whatever the state. -/
def PointStep (p : PointId) (F : PointLive → PointLive) (g : Parts → Parts) : Prop :=
  ∀ s : Parts, ∃ m ns, g s = s.pointed (s.lanes.points.set p (F s.lanes.points[p])) m ns

theorem Parts.pointed_self (s : Parts) : s.pointed s.lanes.points s.attention.changed [] = s := by
  simp only [Parts.pointed, List.append_nil]

/-- Steps over different points write each as a function of what it held, and leave the others. -/
theorem pointSteps_fold {α : Type} (place : α → PointId) (inj : Function.Injective place) (F : α → PointLive → PointLive)
    (g : Parts → α → Parts) (step : ∀ k, PointStep (place k) (F k) (g · k)) (ks : List α) (nodup : ks.Nodup) (s : Parts) :
    ∃ ps m ns, ks.foldl g s = s.pointed ps m ns ∧ (∀ k ∈ ks, ps[place k] = F k s.lanes.points[place k]) ∧
      ∀ p : PointId, (∀ k ∈ ks, place k ≠ p) → ps[p] = s.lanes.points[p] := by
  induction ks generalizing s with
  | nil => exact ⟨_, _, _, s.pointed_self.symm, by nofun, fun _ _ => rfl⟩
  | cons k ks ih =>
    obtain ⟨fresh, nodup⟩ := List.nodup_cons.mp nodup
    obtain ⟨m, ns, e⟩ := step k s
    replace e : g s k = _ := e
    obtain ⟨ps, m', ns', e', now, others⟩ := ih nodup (g s k)
    have apart : ∀ j ∈ ks, place j ≠ place k := fun j hj same => fresh (inj same ▸ hj)
    have written : (g s k).lanes.points = s.lanes.points.set (place k) (F k s.lanes.points[place k]) := by rw [e]; rfl
    refine ⟨ps, m', ns ++ ns', ?_, fun j hj => ?_, fun p hp => ?_⟩
    · rw [List.foldl_cons, e', e]
      simp only [Parts.pointed, List.append_assoc]
    · rcases List.mem_cons.mp hj with rfl | hj
      · rw [others _ apart, written, getElem_set_fin_self]
      · rw [now j hj, written, getElem_set_fin_ne _ _ _ _ (apart j hj).symm]
    · rw [others p fun j hj => hp j (List.mem_cons_of_mem _ hj), written,
        getElem_set_fin_ne _ _ _ _ (hp k List.mem_cons_self)]

theorem slotPoint_injective (f : LaneId) : Function.Injective (slotPoint f) := by
  intro j k h
  have same := congrArg Fin.val h
  simp only [slotPoint] at same
  exact Fin.ext (by omega)

theorem laneOfPoint_slotPoint (f : LaneId) (k : Fin 4) : laneOfPoint (slotPoint f k) = f := by
  refine Fin.ext ?_
  simp only [laneOfPoint, slotPoint]
  omega

/-! ## Break and silence (R74, R77) -/

/-- A FRESH point of a lane that is dropped becomes STALE. -/
def staled (x : PointLive) : PointLive := { x with status := if x.status = .fresh then .stale else x.status }

theorem makeStale_step : PointStep p staled
    (fun s => if s.lanes.points[p].status = .fresh then makeStale p s else s) := by
  intro s
  unfold staled
  by_cases fresh : s.lanes.points[p].status = .fresh
  · obtain ⟨m, e⟩ := setPoint_sendPoint (s := s) (p := p) { s.lanes.points[p] with status := .stale } none false
    simp only [if_pos fresh]
    exact ⟨m, _, e⟩
  · simp only [if_neg fresh]
    exact ⟨_, _, by rw [set_fin_getElem]; exact s.pointed_self.symm⟩

theorem stalePoints_pointed (f : LaneId) (s : Parts) : ∃ ps m ns, stalePoints f s = s.pointed ps m ns ∧
    (∀ k, ps[slotPoint f k] = staled s.lanes.points[slotPoint f k]) ∧
      ∀ p : PointId, laneOfPoint p ≠ f → ps[p] = s.lanes.points[p] := by
  obtain ⟨ps, m, ns, e, now, others⟩ := pointSteps_fold (slotPoint f) (slotPoint_injective f) (fun _ => staled)
    (fun s k => if s.lanes.points[slotPoint f k].status = .fresh then makeStale (slotPoint f k) s else s)
    (fun k => makeStale_step) allSlotNumbers (List.nodup_finRange 4) s
  exact ⟨ps, m, ns, e, fun k => now k (List.mem_finRange k),
    fun p hp => others p fun k _ same => hp (same ▸ laneOfPoint_slotPoint f k)⟩

theorem exec_laneBreak (f : LaneId) (s : State) : exec (.laneBreak f) s = event (takeBreak f) s := rfl

theorem exec_silenceTimerExpiry (f : LaneId) (s : State) :
    exec (.silenceTimerExpiry f) s = event (silenceExpires f) s := rfl

/-- A lane dropped from UP or SILENT, in what the statement of R74 and R77 says of it. -/
theorem dropLane_drops (st : LaneState) (x : LaneLive) :
    let u := dropLane f st (s.setLane f x)
    u.lanes.lanes = s.lanes.lanes.set f { x with state := st, silence := .stopped } ∧
      u.attention.flags = { s.attention.flags with lane := true } ∧
      (∀ k : Fin 4, u.lanes.points[slotPoint f k] = staled s.lanes.points[slotPoint f k]) ∧
      (∀ p : PointId, laneOfPoint p ≠ f → u.lanes.points[p] = s.lanes.points[p]) ∧
      (x.isGeneratorLane = true → Notice.lane f x.state st ∈ u.notices) ∧
      { u with lanes := s.lanes, attention := s.attention, notices := [] } = { s with notices := [] } := by
  intro u
  have told : ∃ told, (x.isGeneratorLane = true → told = [Notice.lane f x.state st]) ∧
      u = stalePoints f (((s.setLane f { x with state := st, silence := .stopped }).raise .lane).sendAll told) := by
    refine ⟨if x.isGeneratorLane then [Notice.lane f x.state st] else [], fun h => if_pos h, ?_⟩
    simp only [u, dropLane, setLane_self, setLane_setLane]
    cases x.isGeneratorLane with
    | true => rfl
    | false => simp only [Bool.false_eq_true, if_false, Parts.sendAll_nil]
  obtain ⟨told, tells, e⟩ := told
  obtain ⟨ps, m, ns, e', now, others⟩ := stalePoints_pointed f
    (((s.setLane f { x with state := st, silence := .stopped }).raise .lane).sendAll told)
  rw [e, e']
  refine ⟨rfl, rfl, now, others, fun h => ?_, rfl⟩
  exact List.mem_append_left _ (List.mem_append_right _ (by rw [tells h]; exact List.mem_singleton_self _))

/-- Settles O35: a lane that leaves UP or SILENT is dropped, and from DOWN a break writes the lane alone. -/
theorem breakAndSilenceDropTheLane : Obligations.BreakAndSilenceDropTheLane := by
  intro f s live x broken dropped
  have untold : { s.parts with notices := [] } = s.parts := by rw [← live.2.1]
  have takes (h₁ : x.state ≠ .disabled) (h₂ : x.spacing = false) : takeBreak f s.parts =
      if x.state = .down then s.parts.setLane f broken else dropLane f .down (s.parts.setLane f broken) := by
    unfold takeBreak
    dsimp only
    rw [if_neg (takesCharacters h₁ h₂)]
    rfl
  refine ⟨fun deaf => event_idle live ?_, fun down marking => ?_, fun there marking => ?_, fun up runs => ?_,
    event_setLane live rfl⟩
  · simp only [takeBreak]
    exact if_pos deaf
  · exact (exec_laneBreak f s).trans (event_setLane live
      ((takes (by rw [down]; decide) marking).trans (if_pos down)))
  · have off : x.state ≠ .disabled ∧ x.state ≠ .down := by rcases there with h | h <;> rw [h] <;> decide
    obtain ⟨lanes, flags, now, others, told, kept⟩ := dropLane_drops (f := f) (s := s.parts) .down broken
    refine ⟨_, (exec_laneBreak f s).trans (event_live _ _ live.1), ?_⟩
    rw [takes off.1 marking, if_neg off.2]
    exact ⟨lanes, flags, now, others, told, kept.trans untold⟩
  · obtain ⟨lanes, flags, now, others, told, kept⟩ := dropLane_drops (f := f) (s := s.parts) .silent x
    have same : s.parts.setLane f x = s.parts := by
      simp only [Parts.setLane, x, set_fin_getElem]
    have expires : silenceExpires f s.parts = dropLane f .silent (s.parts.setLane f x) := by
      rw [same]
      exact if_pos ⟨up, runs⟩
    refine ⟨_, (exec_silenceTimerExpiry f s).trans (event_live _ _ live.1), ?_⟩
    rw [expires]
    exact ⟨lanes, flags, now, others, told, kept.trans untold⟩

end Sys2Proof.Machine

/-!
PROOF. The frames of a lane (R75 to R80), each slot a step on its own point, and the tests of points (R83, R84).
-/

namespace Sys2Proof.Machine

variable {f : LaneId} {p : PointId}

/-! ## One slot (R79) -/

/-- A point after a slot of an accepted frame. -/
def slotTaken (delta : Nat) (v : PointValues) (valid : Bool) (x : PointLive) : PointLive :=
  if x.kind.isNone ∨ x.status = .test then x
  else if valid then { x with status := .fresh, values := v, delta := delta, missed := 0 }
  else { x with status := .stale, missed := 0 }

/-- A point after an accepted frame that leaves its slot out. -/
def slotMissed (limit : Nat) (x : PointLive) : PointLive :=
  if x.kind.isNone ∨ x.status ≠ .fresh then x
  else if x.missed + 1 ≥ limit then { x with missed := x.missed + 1, status := .stale }
  else { x with missed := x.missed + 1 }

/-- A step that leaves the point it would write. -/
theorem pointed_idle (s : Parts) (p : PointId) : ∃ m ns, s = s.pointed (s.lanes.points.set p s.lanes.points[p]) m ns :=
  ⟨_, _, by rw [set_fin_getElem]; exact s.pointed_self.symm⟩

theorem takeSlot_step (delta : Nat) (v : PointValues) (valid : Bool) :
    PointStep p (slotTaken delta v valid) (takeSlot p delta v valid) := by
  intro s
  unfold takeSlot slotTaken
  dsimp only
  split
  · exact pointed_idle s p
  · split
    · obtain ⟨m, e⟩ := setPoint_sendPoint (s := s) (p := p)
        { s.lanes.points[p] with status := .fresh, values := v, delta := delta, missed := 0 }
        (some { delta := delta, test := none }) false
      exact ⟨m, _, e⟩
    · split
      · obtain ⟨m, e⟩ := setPoint_pointed (s := s) (p := p) { s.lanes.points[p] with status := .stale, missed := 0 }
        exact ⟨m, _, e⟩
      · obtain ⟨m, e⟩ := setPoint_sendPoint (s := s) (p := p)
          { s.lanes.points[p] with status := .stale, missed := 0 } none false
        exact ⟨m, _, e⟩

theorem missSlot_step (limit : Nat) : PointStep p (slotMissed limit) (missSlot p limit) := by
  intro s
  unfold missSlot slotMissed
  dsimp only
  split
  · exact pointed_idle s p
  · split
    · obtain ⟨m, e⟩ := setPoint_sendPoint (s := s) (p := p)
        { s.lanes.points[p] with missed := s.lanes.points[p].missed + 1, status := .stale } none false
      exact ⟨m, _, e⟩
    · obtain ⟨m, e⟩ := setPoint_pointed (s := s) (p := p)
        { s.lanes.points[p] with missed := s.lanes.points[p].missed + 1 }
      exact ⟨m, _, e⟩

theorem slotTaken_out {delta : Nat} {v : PointValues} {valid : Bool} {x : PointLive}
    (h : x.kind = none ∨ x.status = .test) : slotTaken delta v valid x = x :=
  if_pos (h.imp_left fun e => by rw [e]; rfl)

theorem slotMissed_out {limit : Nat} {x : PointLive} (h : x.kind = none ∨ x.status ≠ .fresh) :
    slotMissed limit x = x :=
  if_pos (h.imp_left fun e => by rw [e]; rfl)

theorem slotTaken_in {delta : Nat} {v : PointValues} {valid : Bool} {x : PointLive} (h₁ : x.kind.isSome = true)
    (h₂ : x.status ≠ .test) : slotTaken delta v valid x =
      if valid then { x with status := .fresh, values := v, delta := delta, missed := 0 }
      else { x with status := .stale, missed := 0 } := by
  refine if_neg fun h => ?_
  rcases h with h | h
  · rw [Option.isNone_iff_eq_none] at h
    rw [h] at h₁
    cases h₁
  · exact h₂ h

theorem slotMissed_in {limit : Nat} {x : PointLive} (h₁ : x.kind.isSome = true) (h₂ : x.status = .fresh) :
    slotMissed limit x = { x with
      missed := x.missed + 1, status := if limit ≤ x.missed + 1 then .stale else .fresh } := by
  unfold slotMissed
  rw [if_neg]
  · split
    · rfl
    · rw [← h₂]
  · rintro (h | h)
    · rw [Option.isNone_iff_eq_none] at h
      rw [h] at h₁
      cases h₁
    · exact h h₂

/-! ## The points of an accepted frame (R79, R80) -/

/-- A point of a slot after an accepted frame of a kind. -/
def frameTaken (k : FrameKind) (h : Byte) (body : List Byte) (delta limit : Nat) (g : Fin 4) (x : PointLive) : PointLive :=
  match k with
  | .measure =>
    if inMask h g then
      match readGroup (groupAt body (slotsBelow h g.val)) with
      | some (v, q) => slotTaken delta v (bitAt q.toNat 0) x
      | none => x
    else slotMissed limit x
  | .genstate =>
    if g = 0 then
      match readGroup (groupAt body 0) with
      | some (v, q) => slotTaken delta v (bitAt q.toNat 0) x
      | none => x
    else x

theorem takeMeasure_pointed (f : LaneId) (h : Byte) (body : List Byte) (delta limit : Nat) (s : Parts) :
    ∃ ps m ns, takeMeasure f h body delta limit s = s.pointed ps m ns ∧
      ∀ g, ps[slotPoint f g] = frameTaken .measure h body delta limit g s.lanes.points[slotPoint f g] := by
  have step (g : Fin 4) : PointStep (slotPoint f g) (frameTaken .measure h body delta limit g) (fun s =>
      if inMask h g then
        match readGroup (groupAt body (slotsBelow h g.val)) with
        | some (v, q) => takeSlot (slotPoint f g) delta v (bitAt q.toNat 0) s
        | none => s
      else missSlot (slotPoint f g) limit s) := by
    intro s
    unfold frameTaken
    dsimp only
    cases inMask h g with
    | false => exact missSlot_step limit s
    | true =>
      simp only [if_true]
      cases readGroup (groupAt body (slotsBelow h g.val)) with
      | none => exact pointed_idle s _
      | some w => exact takeSlot_step delta w.1 _ s
  obtain ⟨ps, m, ns, e, now, _⟩ := pointSteps_fold (slotPoint f) (slotPoint_injective f) _ _ step allSlotNumbers
    (List.nodup_finRange 4) s
  exact ⟨ps, m, ns, e, fun g => now g (List.mem_finRange g)⟩

theorem takeGenstate_pointed (f : LaneId) (h : Byte) (body : List Byte) (delta limit : Nat) (s : Parts) :
    ∃ ps m ns, takeGenstate f body delta s = s.pointed ps m ns ∧
      (∀ g, ps[slotPoint f g] = frameTaken .genstate h body delta limit g s.lanes.points[slotPoint f g]) ∧
      ∀ v z, readGroup (groupAt body 0) = some (v, z) →
        Notice.generatorState f (z.toNat.testBit 1) (z.toNat.testBit 2) delta ∈ ns ∧ Notice.formContent f ∈ ns := by
  unfold takeGenstate frameTaken
  cases e : readGroup (groupAt body 0) with
  | none => exact ⟨_, _, _, s.pointed_self.symm, fun g => (ite_self _).symm, by nofun⟩
  | some w =>
    obtain ⟨m, ns, t⟩ := takeSlot_step (p := slotPoint f 0) delta w.1 (bitAt w.2.toNat 0) s
    refine ⟨s.lanes.points.set (slotPoint f 0) (slotTaken delta w.1 (bitAt w.2.toNat 0) s.lanes.points[slotPoint f 0]),
      m, ns ++ [.generatorState f (bitAt w.2.toNat 1) (bitAt w.2.toNat 2) delta, .formContent f], ?_,
      fun g => ?_, fun v z same => ?_⟩
    · dsimp only
      rw [t]
      simp only [Parts.pointed, Parts.sendAll, List.append_assoc]
    · by_cases hg : g = 0
      · subst hg
        exact getElem_set_fin_self _ _ _
      · rw [if_neg hg]
        exact getElem_set_fin_ne _ _ _ _ fun same => hg (slotPoint_injective f same).symm
    · cases same
      exact ⟨List.mem_append_right _ List.mem_cons_self,
        List.mem_append_right _ (List.mem_cons_of_mem _ (List.mem_singleton_self _))⟩

/-! ## Acceptance (R76) -/

/-- A lane at an accepted frame. -/
def LaneLive.accepts (x : LaneLive) (q : Byte) (interval : Nat) : LaneLive := { x with
  state := .up, lastSequence := some q, silence := .running (x.entry.elim 0 LaneSettings.silenceLimit * interval)
  counts := { x.counts with accepted := addCount x.counts.accepted 1 } }

theorem acceptFrame_pointed (f : LaneId) (k : FrameKind) (h q : Byte) (body : List Byte) (delta : Nat) (x : LaneLive)
    (s : Parts) : ∃ ps m ns, acceptFrame f k h q body delta (s.setLane f x) =
      (s.setLane f (x.accepts q s.interval)).pointed ps m ns ∧
      (x.state ≠ .up → x.isGeneratorLane = true → Notice.lane f x.state .up ∈ ns) ∧
      (∀ v z, k = .genstate → readGroup (groupAt body 0) = some (v, z) →
        Notice.generatorState f (z.toNat.testBit 1) (z.toNat.testBit 2) delta ∈ ns ∧ Notice.formContent f ∈ ns) ∧
      ∀ g, ps[slotPoint f g] = frameTaken k h body delta (x.entry.elim 0 LaneSettings.silenceLimit) g
        s.lanes.points[slotPoint f g] := by
  have told : ∃ told, (x.state ≠ .up → x.isGeneratorLane = true → told = [Notice.lane f x.state .up]) ∧
      acceptFrame f k h q body delta (s.setLane f x) = match k with
        | .measure => takeMeasure f h body delta (x.entry.elim 0 LaneSettings.silenceLimit)
          ((s.setLane f (x.accepts q s.interval)).sendAll told)
        | .genstate => takeGenstate f body delta ((s.setLane f (x.accepts q s.interval)).sendAll told) := by
    refine ⟨if x.state ≠ .up ∧ x.isGeneratorLane = true then [Notice.lane f x.state .up] else [],
      fun h₁ h₂ => if_pos ⟨h₁, h₂⟩, ?_⟩
    have sent : (if x.state ≠ .up ∧ x.isGeneratorLane = true then
          (s.setLane f (x.accepts q s.interval)).send (.lane f x.state .up) else s.setLane f (x.accepts q s.interval)) =
        (s.setLane f (x.accepts q s.interval)).sendAll
          (if x.state ≠ .up ∧ x.isGeneratorLane = true then [Notice.lane f x.state .up] else []) := by
      split
      · rfl
      · exact (Parts.sendAll_nil _).symm
    rw [← sent]
    simp only [acceptFrame, setLane_self, setLane_setLane]
    rfl
  obtain ⟨told, tells, e⟩ := told
  have joined (ps : Vector PointLive 64) (m : Vector Bool 256) (ns : List Notice) (t : Parts) :
      (t.sendAll told).pointed ps m ns = t.pointed ps m (told ++ ns) := by
    simp only [Parts.pointed, Parts.sendAll, List.append_assoc]
  have first (ns : List Notice) (h₁ : x.state ≠ .up) (h₂ : x.isGeneratorLane = true) :
      Notice.lane f x.state .up ∈ told ++ ns := by
    rw [tells h₁ h₂]
    exact List.mem_cons_self
  rw [e]
  cases k with
  | measure =>
    obtain ⟨ps, m, ns, t, now⟩ := takeMeasure_pointed f h body delta (x.entry.elim 0 LaneSettings.silenceLimit)
      ((s.setLane f (x.accepts q s.interval)).sendAll told)
    exact ⟨ps, m, told ++ ns, t.trans (joined ..), first ns, by nofun, now⟩
  | genstate =>
    obtain ⟨ps, m, ns, t, now, states⟩ := takeGenstate_pointed f h body delta (x.entry.elim 0 LaneSettings.silenceLimit)
      ((s.setLane f (x.accepts q s.interval)).sendAll told)
    exact ⟨ps, m, told ++ ns, t.trans (joined ..), first ns, fun v z _ r =>
      ⟨List.mem_append_right _ (states v z r).1, List.mem_append_right _ (states v z r).2⟩, now⟩

/-! ## The judgement of a frame (R75, R76) -/

variable {s : Parts} {x : LaneLive} {a : Assembly} {k : FrameKind} {q : Byte} {h : Byte} {body : List Byte}

theorem judgeSequence_restarts (off : x.state ≠ .up) : judgeSequence f k h q body (s.setLane f x) =
    acceptFrame f k h q body s.interval (s.setLane f x) := by
  simp only [judgeSequence, setLane_self]
  exact if_pos off

theorem judgeSequence_up {last : Byte} (up : x.state = .up) (hl : x.lastSequence = some last) :
    judgeSequence f k h q body (s.setLane f x) =
      if (q - last).toNat = 0 then
        s.setLane f { x with counts := { x.counts with duplicate := addCount x.counts.duplicate 1 } }
      else if (q - last).toNat < 128 then acceptFrame f k h q body (min (q - last).toNat 4 * s.interval) (s.setLane f x)
      else s.setLane f { x with counts := { x.counts with old := addCount x.counts.old 1 } } := by
  simp only [judgeSequence, setLane_self, setLane_setLane, up, hl, Option.getD_some, ne_eq, not_true, if_false]
  rfl

/-- A clean frame of the lane's kind is counted under CHECK or judged by its sequence number. -/
theorem judgeFrame_clean (hk : headerKind a.header = some k) (hb : a.bad = false) (hx : kindMatches k x = true)
    {rest : List Byte} (e : a.bytes = q :: rest) : judgeFrame f a (s.setLane f x) =
      if (q :: rest).drop ((q :: rest).length - 2) ≠ crcBytes ((q :: rest).take ((q :: rest).length - 2)) then
        s.setLane f { x with counts := { x.counts with check := addCount x.counts.check 1 } }
      else judgeSequence f k a.header q (rest.take (rest.length - 2)) (s.setLane f x) := by
  unfold judgeFrame
  simp only [hk, e, hb, setLane_self, setLane_setLane, hx, Bool.false_eq_true, if_false, Bool.not_true]

theorem crcBytes_length (bs : List Byte) : (crcBytes bs).length = 2 := rfl

/-- The CRC of a frame that carries it holds, and leaves its body. -/
theorem crc_split (q : Byte) (body : List Byte) :
    let bytes := q :: (body ++ crcBytes (q :: body))
    bytes.drop (bytes.length - 2) = crcBytes (bytes.take (bytes.length - 2)) ∧
      (body ++ crcBytes (q :: body)).take ((body ++ crcBytes (q :: body)).length - 2) = body := by
  intro bytes
  have shape : bytes = (q :: body) ++ crcBytes (q :: body) := rfl
  refine ⟨?_, ?_⟩
  · rw [shape, List.length_append, crcBytes_length, Nat.add_sub_cancel, List.drop_left, List.take_left]
  · rw [List.length_append, crcBytes_length, Nat.add_sub_cancel, List.take_left]

theorem LaneLive.withErrors_zero (hc : x.counts.character ≤ 65535) : x.withErrors 0 = x := by
  have same : addCount x.counts.character 0 = x.counts.character := Nat.min_eq_right hc
  simp only [LaneLive.withErrors, same]

/-- Settles O34: the last character hands the frame to its judgement, and an accepted frame takes each slot's point. -/
theorem framesAreJudgedBySequence : Obligations.FramesAreJudgedBySequence := by
  intro f y a k q body s live x limit bytes gap counted carries accepted h₁ h₂ clean hc hm ha hb hl hk hx
  have untold : { s.parts with notices := [] } = s.parts := by rw [← live.2.1]
  let z : LaneLive := { x with assembly := none }
  have judged : takeCharacter f y s.parts = judgeFrame f (a.push (characterByte y) 0) (s.parts.setLane f z) := by
    have full : a.bytes.length + 2 = a.length := by
      rw [hl, List.length_append, List.length_singleton]
    rw [takeCharacter_body h₁ h₂ hm, clean, LaneLive.withErrors_zero hc, takeBody_last ha full]
  have whole : (a.push (characterByte y) 0).bad = false := by
    simp only [Assembly.push, hb, Nat.lt_irrefl, decide_false, Bool.or_false]
  have counts {w : LaneLive} (e : takeCharacter f y s.parts = s.parts.setLane f w) :
      exec (.laneCharacter f y) s = .next { s with parts.lanes.lanes := s.parts.lanes.lanes.set f w } :=
    (exec_laneCharacter f y s).trans (event_setLane live e)
  have accepts {delta : Nat} (e : takeCharacter f y s.parts =
      acceptFrame f k a.header q body delta (s.parts.setLane f z)) : accepted delta := by
    obtain ⟨ps, m, ns, t, brought, states, now⟩ := acceptFrame_pointed f k a.header q body delta z s.parts
    refine ⟨_, (exec_laneCharacter f y s).trans (event_live _ _ live.1), ?_⟩
    rw [e, t]
    refine ⟨rfl, untold, fun up gen => List.mem_append_right _ (brought up gen),
      fun v w hg r => ⟨List.mem_append_right _ (states v w hg r).1, List.mem_append_right _ (states v w hg r).2⟩, ?_⟩
    intro g o n
    have hn : n = frameTaken k a.header body delta limit g o := now g
    refine ⟨fun out => hn.trans ?_, fun v w used notTest carried => ?_, fun measure left used => ?_⟩
    · unfold frameTaken
      split
      · split
        · split
          · exact slotTaken_out out
          · rfl
        · refine slotMissed_out (out.imp_right fun e => ?_)
          rw [e]
          decide
      · split
        · split
          · exact slotTaken_out out
          · rfl
        · rfl
    · have taken : n = slotTaken delta v (bitAt w.toNat 0) o := by
        rw [hn]
        unfold frameTaken
        rcases carried with ⟨rfl, mask, r⟩ | ⟨rfl, rfl, r⟩
        · simp only [mask, if_true, r]
        · simp only [if_true, r]
      rw [taken, slotTaken_in used notTest]
      exact ⟨fun bit => if_pos bit, fun bit => if_neg fun on => Bool.false_ne_true (bit.symm.trans on)⟩
    · have missed : n = slotMissed limit o := by
        rw [hn, measure]
        unfold frameTaken
        simp only [left, Bool.false_eq_true, if_false]
      exact ⟨fun fresh => missed.trans (slotMissed_in used fresh), fun other => missed.trans (slotMissed_out (.inr other))⟩
  refine ⟨fun broken => ?_, fun carried => ?_⟩
  · obtain ⟨q', rest, e⟩ := List.exists_cons_of_ne_nil
      (List.append_ne_nil_of_right_ne_nil a.bytes (List.cons_ne_nil (characterByte y) []))
    have checked := judgeFrame_clean (a := a.push (characterByte y) 0) (f := f) (s := s.parts) (x := z) hk whole hx e
    have fails : (q' :: rest).drop ((q' :: rest).length - 2) ≠ crcBytes ((q' :: rest).take ((q' :: rest).length - 2)) := by
      rw [← e]
      exact broken
    rw [if_pos fails] at checked
    exact counts (judged.trans checked)
  · obtain ⟨holds, rest⟩ := crc_split q body
    have sequenced : takeCharacter f y s.parts = judgeSequence f k a.header q body (s.parts.setLane f z) := by
      have e : (a.push (characterByte y) 0).bytes = q :: (body ++ crcBytes (q :: body)) := carried
      rw [judged, judgeFrame_clean (a := a.push (characterByte y) 0) (x := z) hk whole hx e,
        if_neg (not_not.mpr holds), rest]
      rfl
    refine ⟨fun off => accepts (sequenced.trans (judgeSequence_restarts ?_)), fun last up hlast => ?_⟩
    · rcases off with e | e <;> (intro e'; exact absurd (e.symm.trans e') (by decide))
    · have by_ := sequenced.trans (judgeSequence_up up hlast)
      refine ⟨fun same => ?_, fun behind => ?_, fun ahead near => ?_⟩
      · exact counts (by_.trans (if_pos same))
      · have ne : (q - last).toNat ≠ 0 := fun e => by simp only [gap] at behind; omega
        exact counts (by_.trans ((if_neg ne).trans (if_neg (Nat.not_lt.mpr behind))))
      · have ne : (q - last).toNat ≠ 0 := fun e => by simp only [gap] at ahead; omega
        exact accepts (by_.trans ((if_neg ne).trans (if_pos near)))

/-! ## Tests (R83, R84) -/

/-- A point with test values applied to it. -/
def PointLive.tested (x : PointLive) (t : TestHold) (interval : Nat) : PointLive :=
  { x with status := .test, values := t.values, delta := interval, missed := 0, test := some t }

/-- An application of test values writes the point and is told as one update. -/
theorem applyTest_pointed (t : TestHold) (x : PointLive) (hx : x.status = .test) (ht : x.test = some t) :
    ∃ m, applyTest p t (s.setPoint p x) = s.pointed (s.lanes.points.set p (x.tested t s.interval)) m
      (pointTells s x.kind { point := p, status := .test, values := t.values, endOfTest := false,
                             update := some { delta := s.interval, test := some t.mode } }) := by
  obtain ⟨m, e⟩ := setPoint_pointed (s := s) (p := p) x
  have now : (s.pointed (s.lanes.points.set p x) m []).lanes.points[p] = x := getElem_set_fin_self _ _ _
  obtain ⟨m', e'⟩ := setPoint_sendPoint (s := s.pointed (s.lanes.points.set p x) m []) (p := p)
    { x with values := t.values, delta := s.interval, missed := 0 } (some { delta := s.interval, test := some t.mode }) false
  have tested : ({ x with values := t.values, delta := s.interval, missed := 0 } : PointLive) = x.tested t s.interval := by
    simp only [PointLive.tested, ← hx, ← ht]
  refine ⟨m', ?_⟩
  have begun : applyTest p t (s.setPoint p x) = ((s.pointed (s.lanes.points.set p x) m []).setPoint p
      { (s.pointed (s.lanes.points.set p x) m []).lanes.points[p] with
        values := t.values, delta := s.interval, missed := 0 }).sendPoint p
        (some { delta := s.interval, test := some t.mode }) false := by
    rw [e]
    rfl
  rw [begun, now, e', tested]
  simp only [Parts.pointed, Vector.set_set, List.append_nil]
  rfl

/-- The end of a test gives the point back what it held, and tells of it. -/
theorem endTestOf_pointed (t : TestHold) : ∃ m, endTestOf p t s =
    let back := statusAfterTest t.heldStatus (s.lanes.lanes[laneOfPoint p].state == .up)
    let u := s.pointed (s.lanes.points.set p { s.lanes.points[p] with
      status := back, values := t.heldValues, delta := t.heldDelta, missed := 0, test := none }) m
      (pointTells s s.lanes.points[p].kind
        { point := p, status := back, values := t.heldValues, update := none, endOfTest := true })
    { u with lanes.testCount := s.lanes.testCount - 1 } := by
  obtain ⟨m, e⟩ := setPoint_sendPoint (s := s) (p := p) { s.lanes.points[p] with
    values := t.heldValues, delta := t.heldDelta
    status := statusAfterTest t.heldStatus (s.lanes.lanes[laneOfPoint p].state == .up), missed := 0, test := none } none true
  refine ⟨m, ?_⟩
  unfold endTestOf
  dsimp only
  rw [e]
  rfl

theorem statusAfterTest_eq (held : PointStatus) (state : LaneState) : statusAfterTest held (state == .up) =
    if held = .fresh then (if state = .up then .fresh else .stale) else if held = .stale then .stale else .none := by
  cases held <;> cases state <;> rfl

theorem exec_testInject (t : Byte) (point : Nat) (v : PointValues) (m : TestMode) (n : Nat) (s : State) :
    exec (.testInject t point v m n) s = taking 0x41 t (bare (injectRequest point v m n)) s := rfl

theorem exec_endTest (t : Byte) (point : Nat) (s : State) :
    exec (.endTest t point) s = taking 0x42 t (bare (endTestRequest point)) s := rfl

theorem exec_testIntervalExpiry (p : PointId) (s : State) :
    exec (.testIntervalExpiry p) s = event (testIntervalExpires p) s := rfl

theorem exec_testDurationExpiry (p : PointId) (s : State) :
    exec (.testDurationExpiry p) s = event (testDurationExpires p) s := rfl

/-- What a request of a status alone answers, after the notices its owner sends. -/
theorem taking_settled (code : Nat) (t : Byte) {owner : Parts → Parts × Status} {s : State} {u : Parts} {a : Status}
    (h : s.inReset = false) (hj : owner s.parts = (u, a)) :
    taking code t (bare owner) s = .next (s.answers code t a [] (settle u)) := by
  rw [taking_live _ _ _ _ h]
  simp only [bare, hj]

/-- The hold of a test that begins. -/
def PointLive.testHold (x : PointLive) (v : PointValues) (m : TestMode) (interval n : Nat) : TestHold :=
  { heldStatus := x.status, heldValues := x.values, heldDelta := x.delta, values := v, mode := m,
    interval := .running interval, duration := .running (n * 1000) }

theorem injectRequest_begins {v : PointValues} {m : TestMode} {n : Nat} (serving : s.service.inService = true)
    (hk : s.lanes.points[p].kind = some .feeder) (hs : s.lanes.points[p].status ≠ .test) (hv : valuesInRange v = true)
    (h₁ : 1 ≤ n) (h₂ : n ≤ 600) : injectRequest p.val v m n s =
      let t := s.lanes.points[p].testHold v m s.interval n
      let u := applyTest p t (s.setPoint p { s.lanes.points[p] with status := .test, test := some t })
      ({ u with lanes.testCount := u.lanes.testCount + 1 }, .ok) := by
  have ranged : ¬((!valuesInRange v) = true ∨ n < 1 ∨ n > 600) := by
    rw [hv]
    rintro (h | h | h)
    · cases h
    · omega
    · omega
  have allowed : ¬((!s.service.inService) = true ∨ s.lanes.points[p].kind ≠ some .feeder ∨
      s.lanes.points[p].status = .test) := by
    rw [serving]
    rintro (h | h | h)
    · cases h
    · exact h hk
    · exact hs h
  simp only [injectRequest, index?_val, if_neg ranged, if_neg allowed]
  rfl

/-- Settles O37: an application and an end of a test each write the one point and tell the blocks that use it. -/
theorem testsSubstituteAndReturnAPoint : Obligations.TestsSubstituteAndReturnAPoint := by
  intro t p s live serving x users applied
  have untold : { s.parts with notices := [] } = s.parts := by rw [← live.2.1]
  have tells (ns : List Notice) : s.parts.notices ++ ns = ns := by rw [live.2.1, List.nil_append]
  refine ⟨fun v m n hk hs hv h₁ h₂ => ?_, fun h ht hs runs => ?_, fun h ht => ?_⟩
  · let hold := x.testHold v m s.parts.interval n
    obtain ⟨marks, e⟩ := applyTest_pointed (s := s.parts) (p := p) hold
      { x with status := .test, test := some hold } rfl rfl
    refine ⟨_, (exec_testInject ..).trans (taking_settled _ _ live.1 (injectRequest_begins serving hk hs hv h₁ h₂)), ?_⟩
    dsimp only
    rw [e]
    exact ⟨⟨rfl, rfl, tells _, rfl, untold⟩, rfl⟩
  · obtain ⟨marks, e⟩ := applyTest_pointed (s := s.parts) (p := p) { h with interval := .running s.parts.interval }
      { x with test := some { h with interval := .running s.parts.interval } } hs rfl
    have expires : testIntervalExpires p s.parts = applyTest p { h with interval := .running s.parts.interval }
        (s.parts.setPoint p { x with test := some { h with interval := .running s.parts.interval } }) := by
      simp only [testIntervalExpires, show s.parts.lanes.points[p].test = some h from ht, runs, if_true]
      rfl
    refine ⟨_, (exec_testIntervalExpiry p s).trans (event_live _ _ live.1), ?_⟩
    rw [expires, e]
    exact ⟨⟨rfl, rfl, tells _, rfl, untold⟩, rfl⟩
  · intro back
    obtain ⟨marks, e⟩ := endTestOf_pointed (s := s.parts) (p := p) h
    have status : statusAfterTest h.heldStatus (s.parts.lanes.lanes[laneOfPoint p].state == .up) = back :=
      statusAfterTest_eq _ _
    rw [status] at e
    refine ⟨endTestOf p h s.parts, ?_⟩
    have ended : endTestRequest p.val s.parts = (endTestOf p h s.parts, .ok) := by
      simp only [endTestRequest, index?_val, show s.parts.lanes.points[p].test = some h from ht]
    have expires (runs : h.duration.isRunning = true) : testDurationExpires p s.parts = endTestOf p h s.parts := by
      simp only [testDurationExpires, show s.parts.lanes.points[p].test = some h from ht, runs, if_true]
    refine ⟨(congrArg (fun u : Parts => u.lanes.lanes) e).trans rfl, (congrArg (fun u : Parts => u.lanes.points) e).trans rfl,
      (congrArg (fun u : Parts => u.lanes.testCount) e).trans rfl, (congrArg Parts.notices e).trans (tells _), ?_,
      (exec_endTest ..).trans (taking_settled _ _ live.1 ended), fun runs => ?_⟩
    · rw [e]
      exact untold
    · rw [exec_testDurationExpiry, event_live _ _ live.1, expires runs]

end Sys2Proof.Machine

/-!
PROOF. The Lockout Table at the host (R62 to R69): what the aborts of R65 leave and do, and the requests that rewrite or free
a record.
-/

namespace Sys2Proof.Machine

/-! ## Flags and marks that stay set -/

/-- Whether an attention flag is set. -/
def AttentionFlags.has (fs : AttentionFlags) : AttentionFlag → Bool
  | .device => fs.device
  | .protection => fs.protection
  | .lockout => fs.lockout
  | .changeover => fs.changeover
  | .generator => fs.generator
  | .load => fs.load
  | .record => fs.record
  | .lane => fs.lane
  | .hold => fs.hold

/-- Nothing that called for attention no longer does. -/
structure Parts.Alerts (s t : Parts) : Prop where
  flags : ∀ f, s.attention.flags.has f = true → t.attention.flags.has f = true
  marks : ∀ i : StoreIndex, s.attention.changed[i] = true → t.attention.changed[i] = true

section
variable {r s t : Parts}

theorem Parts.Alerts.refl : s.Alerts s := ⟨fun _ => id, fun _ => id⟩

theorem Parts.Alerts.trans (h : r.Alerts s) (k : s.Alerts t) : r.Alerts t :=
  ⟨fun f => k.flags f ∘ h.flags f, fun i => k.marks i ∘ h.marks i⟩

/-- An update that leaves the attention block. -/
theorem Parts.Alerts.of_eq (e : t.attention = s.attention) : s.Alerts t :=
  ⟨fun f h => by rw [e]; exact h, fun i h => by rw [e]; exact h⟩

theorem set_marks {v : Vector Bool 256} {i j : StoreIndex} (h : v[j] = true) : (v.set i true)[j] = true := by
  by_cases e : i = j
  · subst e
    exact getElem_set_fin_self _ _ _
  · rw [getElem_set_fin_ne _ _ _ _ e, h]

theorem mark_alerts (i : StoreIndex) : s.Alerts (s.mark i) := ⟨fun _ => id, fun _ => set_marks⟩

theorem raise_alerts (f : AttentionFlag) : s.Alerts (s.raise f) := by
  refine ⟨fun g h => ?_, fun _ => id⟩
  cases f <;> cases g <;> first | rfl | exact h

theorem raise_has (f : AttentionFlag) : (s.raise f).attention.flags.has f = true := by cases f <;> rfl

theorem mark_marks (i : StoreIndex) : (s.mark i).attention.changed[i] = true := getElem_set_fin_self _ _ _

theorem markIf_alerts (b : Bool) (i : StoreIndex) : s.Alerts (s.markIf b i) := by
  unfold Parts.markIf
  split
  · exact mark_alerts i
  · exact .refl

theorem setDevice_alerts (d : DeviceId) (x : DeviceLive) : s.Alerts (s.setDevice d x) :=
  Parts.Alerts.trans (s := { s with switching.devices := s.switching.devices.set d x }) (.of_eq rfl) (markIf_alerts _ _)

theorem useHeld_alerts {α : Type} [DecidableEq α] {o : Option (Held α)} {put : Held α → Parts → Parts} {i : StoreIndex}
    {fallback : Parts → Parts} (written : ∀ (u : Parts) x, u.Alerts (put x u))
    (falls : ∀ u : Parts, u.Alerts (fallback u)) :
    s.Alerts (useHeld o put i fallback s).1 :=
  useHeld_preserves (P := fun u => s.Alerts u) (fun {u} x h => h.trans (written u x))
    (fun h => h.trans ((raise_alerts _).trans (mark_alerts _))) (fun {u} h => h.trans (falls u)) .refl

theorem useDevice_alerts (d : DeviceId) : s.Alerts (useDevice d s).1 :=
  useHeld_alerts (fun _ _ => .of_eq rfl) (fun _ => .refl)

theorem sendCompletion_alerts (x : DeviceLive) (d : DeviceId) (w : Result) (a : Action) :
    s.Alerts (s.sendCompletion x d w a) := by
  rw [sendCompletion_eq]
  exact .of_eq rfl

theorem startOpening_alerts (d : DeviceId) (q : Requester) (n : Nat) : s.Alerts (startOpening s d q n) := by
  unfold startOpening
  dsimp only
  split
  · exact (setDevice_alerts _ _).trans (sendCompletion_alerts _ _ _ _)
  · exact setDevice_alerts _ _

theorem openRequest_alerts (d : DeviceId) (q : Requester) : s.Alerts (openRequest d q s).1 := by
  unfold openRequest storeRefusal
  dsimp only
  split
  · exact setDevice_alerts _ _
  split
  · exact .refl
  split
  · split
    · exact (useDevice_alerts d).trans (setDevice_alerts _ _)
    · exact .refl
  split
  · exact setDevice_alerts _ _
  · exact (useDevice_alerts d).trans (startOpening_alerts _ _ _)

end

/-! ## Opens as updates of the devices -/

/-- An update of the devices, their records and the attention block, with the notices it sends. -/
def Parts.operated (s : Parts) (vs : Vector DeviceLive 48) (ds : Vector (Option (Held DeviceSettings)) 48) (a : Attention)
    (ns : List Notice) : Parts :=
  { s with switching.devices := vs, store.devices := ds, attention := a, notices := ns }

section
variable {s : Parts}

theorem Parts.operated_self (s : Parts) :
    s.operated s.switching.devices s.store.devices s.attention s.notices = s := rfl

theorem openRequest_operated (d : DeviceId) (q : Requester) (s : Parts) :
    ∃ vs ds a ns, (openRequest d q s).1 = s.operated vs ds a ns := by
  obtain ⟨ds, a, e⟩ := useDevice_writes d s
  have wrote (u : Parts) (x : DeviceLive) : ∃ b, u.setDevice d x = { u with
      switching.devices := u.switching.devices.set d x, attention := b } := ⟨_, Parts.setDevice_eq u d x⟩
  unfold openRequest storeRefusal
  dsimp only
  split
  · obtain ⟨b, w⟩ := wrote s { s.switching.devices[d] with lastRefusal := some ⟨.openRetired, none⟩ }
    exact ⟨_, _, _, _, w⟩
  split
  · exact ⟨_, _, _, _, s.operated_self.symm⟩
  split
  · split
    · rw [e]
      obtain ⟨b, w⟩ := wrote { s with store.devices := ds, attention := a } { s.switching.devices[d] with
        origin := some q, operateTimer := .running (openTime q (useDevice d s).2) }
      exact ⟨_, _, _, _, w⟩
    · exact ⟨_, _, _, _, s.operated_self.symm⟩
  split
  · obtain ⟨b, w⟩ := wrote s { s.switching.devices[d] with lastRefusal := some ⟨.openAuthority, none⟩ }
    exact ⟨_, _, _, _, w⟩
  · rw [e]
    obtain ⟨b, w⟩ := wrote { s with store.devices := ds, attention := a }
      (s.switching.devices[d].openedBy q (openTime q (useDevice d s).2))
    by_cases closing : s.switching.devices[d].state = .closing
    · rw [startOpening_closing (s := { s with store.devices := ds, attention := a }) _ closing, w, sendCompletion_eq]
      exact ⟨_, _, _, _, rfl⟩
    · rw [startOpening_quiet (s := { s with store.devices := ds, attention := a }) _ closing, w]
      exact ⟨_, _, _, _, rfl⟩

theorem sendOpen_operated (d : DeviceId) (q : Requester) (s : Parts) :
    ∃ vs ds a ns, sendOpen d q s = s.operated vs ds a ns := openRequest_operated d q s

theorem sendOpen_alerts (d : DeviceId) (q : Requester) (s : Parts) : s.Alerts (sendOpen d q s) := openRequest_alerts d q

/-- A read of a device's record leaves every other one. -/
theorem useDevice_record {d e : DeviceId} (h : d ≠ e) : (useDevice d s).1.store.devices[e] = s.store.devices[e] :=
  useHeld_preserves (P := fun u => u.store.devices[e] = s.store.devices[e])
    (fun _ k => (getElem_set_fin_ne _ _ _ _ h).trans k) id id rfl

/-- A device and its record left as they were. -/
structure Parts.SameDevice (e : DeviceId) (s t : Parts) : Prop where
  device : t.switching.devices[e] = s.switching.devices[e]
  record : t.store.devices[e] = s.store.devices[e]

theorem Parts.SameDevice.trans {r s t : Parts} {e : DeviceId} (h : r.SameDevice e s) (k : s.SameDevice e t) :
    r.SameDevice e t := ⟨k.device.trans h.device, k.record.trans h.record⟩

theorem setDevice_other {d e : DeviceId} (x : DeviceLive) (h : d ≠ e) : s.SameDevice e (s.setDevice d x) := by
  rw [Parts.setDevice_eq]
  exact ⟨getElem_set_fin_ne _ _ _ _ h, rfl⟩

theorem useDevice_other {d e : DeviceId} (h : d ≠ e) : s.SameDevice e (useDevice d s).1 :=
  ⟨congrArg (fun u : SwitchingUnit => u.devices[e]) (useDevice_switching d s), useDevice_record h⟩

theorem startOpening_sameDevice {d e : DeviceId} (q : Requester) (n : Nat) (h : d ≠ e) :
    s.SameDevice e (startOpening s d q n) := by
  by_cases closing : s.switching.devices[d].state = .closing
  · rw [startOpening_closing _ closing, sendCompletion_eq]
    exact (setDevice_other _ h).trans ⟨rfl, rfl⟩
  · rw [startOpening_quiet _ closing]
    exact setDevice_other _ h

/-- An open leaves every other device, and its record. -/
theorem sendOpen_other {d e : DeviceId} (q : Requester) (h : d ≠ e) : s.SameDevice e (sendOpen d q s) := by
  unfold sendOpen openRequest storeRefusal
  dsimp only
  split
  · exact setDevice_other _ h
  split
  · exact ⟨rfl, rfl⟩
  split
  · split
    · exact (useDevice_other h).trans (setDevice_other _ h)
    · exact ⟨rfl, rfl⟩
  split
  · exact setDevice_other _ h
  · exact (useDevice_other h).trans (startOpening_sameDevice _ _ h)

/-- A trip of a device in service, neither open nor OPENING, whose record is VALID. -/
theorem sendOpen_trips {d : DeviceId} {r : Requester} {h : Held DeviceSettings} (hr : r.isTrip = true)
    (st : s.switching.devices[d].state = .closed ∨ s.switching.devices[d].state = .closing)
    (hd : s.store.devices[d] = some h) (hv : h.valid) :
    (sendOpen d r s).switching.devices[d] = s.switching.devices[d].openedBy r h.settings.breakerFailureTime := by
  have notSupervisor : r = .supervisor → s.switching.authority = .remoteControl := fun e => by rw [e] at hr; cases hr
  have time : openTime r (some h.settings) = h.settings.breakerFailureTime := by
    unfold openTime
    rw [if_pos hr]
    rfl
  have starts : sendOpen d r s = startOpening s d r h.settings.breakerFailureTime := by
    unfold sendOpen
    rw [openRequest_starts ?_ ?_ ?_ ?_ notSupervisor hd hv, time] <;>
      (rcases st with st | st <;> rw [st] <;> simp)
  rw [starts]
  by_cases closing : s.switching.devices[d].state = .closing
  · rw [startOpening_closing _ closing, sendCompletion_switching, Parts.setDevice_self]
  · rw [startOpening_quiet _ closing, Parts.setDevice_self]

/-! ## The aborts of R65 -/

/-- With no locked device CLOSING there is nothing to abort. -/
theorem abortLocked_none (h : s.noLockedClose) : abortLocked s = s := by
  rw [abortLocked_eq]
  refine List.foldl_fixed' (fun d => if_neg ?_) _
  rintro ⟨closing, locked⟩
  rw [h d closing] at locked
  cases locked

/-- What an abort leaves: the lockouts, and every device that is not CLOSING. -/
theorem abortOne_operated (s : Parts) (d : DeviceId) : ∃ vs ds a ns, abortOne s d = s.operated vs ds a ns := by
  unfold abortOne
  split
  · exact sendOpen_operated d .lockout s
  · exact ⟨_, _, _, _, s.operated_self.symm⟩

theorem abortLocked_operated (s : Parts) : ∃ vs ds a ns, abortLocked s = s.operated vs ds a ns := by
  rw [abortLocked_eq]
  generalize allDevices = l
  induction l generalizing s with
  | nil => exact ⟨_, _, _, _, s.operated_self.symm⟩
  | cons d l ih =>
    obtain ⟨vs, ds, a, ns, e⟩ := abortOne_operated s d
    obtain ⟨vs', ds', a', ns', e'⟩ := ih (abortOne s d)
    exact ⟨vs', ds', a', ns', by rw [List.foldl_cons, e', e]; rfl⟩

theorem abortLocked_alerts (s : Parts) : s.Alerts (abortLocked s) := by
  rw [abortLocked_eq]
  generalize allDevices = l
  induction l generalizing s with
  | nil => exact .refl
  | cons d l ih =>
    refine Parts.Alerts.trans ?_ (ih _)
    unfold abortOne
    split
    · exact sendOpen_alerts d .lockout s
    · exact .refl

theorem abortOne_other {d e : DeviceId} (h : d ≠ e) : s.SameDevice e (abortOne s d) := by
  unfold abortOne
  split
  · exact sendOpen_other .lockout h
  · exact ⟨rfl, rfl⟩

theorem abortOne_lockouts (s : Parts) (d : DeviceId) : (abortOne s d).lockouts = s.lockouts := (abortOne_closing d s).1

theorem foldl_abortOne_other {l : List DeviceId} {e : DeviceId} (h : e ∉ l) :
    (l.foldl abortOne s).switching.devices[e] = s.switching.devices[e] := by
  induction l generalizing s with
  | nil => rfl
  | cons d l ih =>
    rw [List.foldl_cons, ih fun m => h (List.mem_cons_of_mem d m)]
    exact (abortOne_other (d := d) (e := e) fun same => h (same ▸ List.mem_cons_self)).device

/-- The aborts act on each device by its own abort. -/
theorem abortLocked_device (s : Parts) (e : DeviceId) :
    ∃ u, (abortLocked s).switching.devices[e] = (abortOne u e).switching.devices[e] ∧
      u.switching.devices[e] = s.switching.devices[e] ∧ u.store.devices[e] = s.store.devices[e] ∧
      u.lockouts = s.lockouts := by
  rw [abortLocked_eq]
  have mem : e ∈ allDevices := List.mem_finRange e
  have nodup : allDevices.Nodup := List.nodup_finRange 48
  generalize allDevices = l at mem nodup
  induction l generalizing s with
  | nil => cases mem
  | cons d l ih =>
    obtain ⟨fresh, nodup⟩ := List.nodup_cons.mp nodup
    rw [List.foldl_cons]
    by_cases same : d = e
    · subst same
      exact ⟨s, foldl_abortOne_other fresh, rfl, rfl, rfl⟩
    · obtain ⟨u, now, device, record, table⟩ := ih (abortOne s d) ((List.mem_cons.mp mem).resolve_left (Ne.symm same)) nodup
      obtain ⟨device', record'⟩ := abortOne_other (s := s) same
      exact ⟨u, now, device.trans device', record.trans record', table.trans (abortOne_lockouts s d)⟩

/-- A device that is not CLOSING is left by the aborts. -/
theorem abortLocked_kept {e : DeviceId} (h : s.switching.devices[e].state ≠ .closing) :
    (abortLocked s).switching.devices[e] = s.switching.devices[e] := by
  obtain ⟨u, now, device, _, _⟩ := abortLocked_device s e
  rw [now, ← device]
  unfold abortOne
  rw [if_neg fun c => h (device ▸ c.1)]

/-- A CLOSING device that is locked is opened for LOCKOUT under its breaker-failure time. -/
theorem abortLocked_aborts {e : DeviceId} {y : Held DeviceSettings} (closing : s.switching.devices[e].state = .closing)
    (locked : s.isLocked e = true) (hd : s.store.devices[e] = some y) (hv : y.valid) :
    (abortLocked s).switching.devices[e] = s.switching.devices[e].openedBy .lockout y.settings.breakerFailureTime := by
  obtain ⟨u, now, device, record, table⟩ := abortLocked_device s e
  rw [now, ← device]
  have acts : u.switching.devices[e].state = .closing ∧ u.isLocked e = true :=
    ⟨by rw [device]; exact closing, by rw [isLocked_congr table]; exact locked⟩
  unfold abortOne
  rw [if_pos acts]
  exact sendOpen_trips rfl (.inr acts.1) (record.trans hd) hv

/-! ## Lockout notices (R64) -/

/-- The lockout notices between two states. -/
def lockoutTells (before s : Parts) : List Notice :=
  if s.service.inService then
    (allDevices.filter fun d =>
        before.lockouts.cover[d] != s.lockouts.cover[d] || before.isPending d != s.isPending d).map fun d =>
      .lockout d s.lockouts.cover[d] (s.isPending d) (!before.isLocked d && s.isLocked d)
  else []

theorem sendLockoutNotices_eq (before s : Parts) : sendLockoutNotices before s = s.sendAll (lockoutTells before s) := by
  unfold sendLockoutNotices lockoutTells
  split
  · rfl
  · exact (Parts.sendAll_nil s).symm

theorem lockoutTells_same {before s : Parts} (h : s.lockouts = before.lockouts) : lockoutTells before s = [] := by
  unfold lockoutTells
  have none : (allDevices.filter fun d =>
      before.lockouts.cover[d] != s.lockouts.cover[d] || before.isPending d != s.isPending d) = [] :=
    List.filter_eq_nil_iff.mpr fun d _ => by simp only [Parts.isPending, h, bne_self_eq_false, Bool.or_self]; decide
  rw [none]
  split <;> rfl

/-- The notices of an event that moves counts alone. -/
theorem lockoutTells_counts {before s : Parts} (h : s.lockouts.pending = before.lockouts.pending) :
    lockoutTells before s = if s.service.inService then
      (allDevices.filter fun d => before.lockouts.cover[d] != s.lockouts.cover[d]).map fun d =>
        .lockout d s.lockouts.cover[d] (before.isPending d) (!before.isLocked d && s.isLocked d) else [] := by
  have pending (d : DeviceId) : s.isPending d = before.isPending d := by simp only [Parts.isPending, h]
  unfold lockoutTells
  simp only [pending, bne_self_eq_false, Bool.or_false]

end

/-! ## The lists of a request -/

theorem devicesNamed_val (named : List DeviceId) : devicesNamed (named.map Fin.val) = some named := by
  induction named with
  | nil => rfl
  | cons d named ih =>
    have rest : devicesNamed ((d :: named).map Fin.val) =
        ((index? 48 d.val).bind fun x => (devicesNamed (named.map Fin.val)).bind fun xs => some (x :: xs)) := rfl
    rw [rest, index?_val, ih]
    rfl

theorem distinct_iff {α : Type} [DecidableEq α] {l : List α} : distinct l = true ↔ l.Nodup := by
  refine ⟨nodup_of_distinct, fun h => ?_⟩
  induction l with
  | nil => rfl
  | cons a l ih =>
    obtain ⟨fresh, nodup⟩ := List.nodup_cons.mp h
    have absent : l.contains a = false := by simpa using fresh
    unfold distinct
    rw [absent, ih nodup]
    rfl

/-- A list of one to eight devices, each once, passes the first check. -/
theorem list_fits {ds : List Nat} (h₁ : ds ≠ []) (h₂ : ds.length ≤ 8) (h₃ : ds.Nodup) :
    ¬(ds.isEmpty = true ∨ ds.length > 8 ∨ (!distinct ds) = true) := by
  rintro (h | h | h)
  · exact h₁ (List.isEmpty_iff.mp h)
  · omega
  · rw [distinct_iff.mpr h₃] at h
    cases h

theorem mem_ascending {n : Nat} {xs : List (Fin n)} (h : xs.Nodup) : (ascending xs).Perm xs := by
  have p := insertAll_perm (l := []) h (by simp)
  rwa [List.append_nil] at p

end Sys2Proof.Machine

/-!
PROOF. ADD and DROP DEVICES (R68), RELEASE (R69) and PLACE LOCKOUT (R63) where no placement has to wait.
-/

namespace Sys2Proof.Machine

variable {s : Parts} {k : SlotId} {named : List DeviceId} {h : Held LockoutSettings}

theorem toNat_contains (l : List DeviceId) (d : DeviceId) : (l.contains d).toNat = if d ∈ l then 1 else 0 := by
  by_cases m : d ∈ l
  · rw [if_pos m, List.contains_iff_mem.mpr m, Bool.toNat_true]
  · rw [if_neg m, Bool.eq_false_iff.mpr fun c => m (List.contains_iff_mem.mp c), Bool.toNat_false]

/-! ## ADD and DROP DEVICES (R68) -/

theorem exec_addDevices (t : Byte) (slot : Nat) (ds : List Nat) (s : State) :
    exec (.addDevices t slot ds) s = taking 0x31 t (bare (addRequest slot ds)) s := rfl

theorem exec_dropDevices (t : Byte) (slot : Nat) (ds : List Nat) (s : State) :
    exec (.dropDevices t slot ds) s = taking 0x32 t (bare (dropRequest slot ds)) s := rfl

theorem named_fits (h₁ : named ≠ []) (h₂ : named.length ≤ 8) (h₃ : named.Nodup) :
    ¬((named.map Fin.val).isEmpty = true ∨ (named.map Fin.val).length > 8 ∨ (!distinct (named.map Fin.val)) = true) :=
  list_fits (fun e => h₁ (List.map_eq_nil_iff.mp e)) (by rwa [List.length_map])
    (h₃.map Fin.val_injective)

/-- A VALID TAG passes the steps that ADD and DROP share. -/
theorem examineSet_valid (h₁ : named ≠ []) (h₂ : named.length ≤ 8) (h₃ : named.Nodup)
    (stored : s.store.lockouts[k] = some h) (valid : h.valid) (tag : h.settings.kind = .tag) :
    examineSet k.val (named.map Fin.val) s = (s, .ok (k, named, h.settings)) := by
  have kind : ¬ h.settings.kind ≠ .tag := not_not.mpr tag
  simp only [examineSet, index?_val, devicesNamed_val, if_neg (named_fits h₁ h₂ h₃), stored, if_neg valid.1, if_neg kind,
    useLockout_valid k h s stored valid]

/-- A set with the members of a list put in. -/
def joinedSet (fresh old : List DeviceId) : List DeviceId := fresh.foldl (fun acc d => insertAscending d acc) old

theorem mem_insertAscending {n : Nat} {x y : Fin n} {l : List (Fin n)} : y ∈ insertAscending x l ↔ y = x ∨ y ∈ l := by
  induction l with
  | nil => simp [insertAscending]
  | cons a l ih =>
    unfold insertAscending
    split
    · exact List.mem_cons
    · split
      next same =>
        subst same
        exact ⟨.inr, fun m => m.elim (fun e => e ▸ List.mem_cons_self) id⟩
      · rw [List.mem_cons, ih, List.mem_cons]
        exact or_left_comm

theorem mem_joinedSet {fresh old : List DeviceId} {d : DeviceId} : d ∈ joinedSet fresh old ↔ d ∈ fresh ∨ d ∈ old := by
  unfold joinedSet
  induction fresh generalizing old with
  | nil => simp
  | cons a fresh ih => rw [List.foldl_cons, ih, mem_insertAscending, List.mem_cons, or_left_comm, or_assoc]

/-- A set rewritten, with what that leaves. -/
def Parts.reset (s : Parts) (k : SlotId) (h : Held LockoutSettings) (ds : List DeviceId) : Parts :=
  (s.putLockout k (some (h.rewrite { h.settings with devices := ds }))).mark (lockoutIndex k)

theorem addRequest_valid (h₁ : named ≠ []) (h₂ : named.length ≤ 8) (h₃ : named.Nodup)
    (stored : s.store.lockouts[k] = some h) (valid : h.valid) (tag : h.settings.kind = .tag)
    (room : h.settings.devices.length + (named.filter fun d => !h.settings.devices.contains d).length ≤ 8)
    (apart : ∀ j : SlotId, j ≠ k → s.tagHas j named = false) :
    let fresh := named.filter fun d => !h.settings.devices.contains d
    let t := countIn fresh (s.reset k h (joinedSet fresh h.settings.devices))
    addRequest k.val (named.map Fin.val) s = (abortLocked (t.sendAll (lockoutTells s t)), .ok) := by
  intro fresh t
  have none : (allSlots.any fun j => j != k && s.tagHas j named) = false := by
    refine List.any_eq_false.mpr fun j _ => ?_
    by_cases e : j = k
    · simp [e]
    · simp [apart j e]
  unfold addRequest
  simp only [examineSet_valid h₁ h₂ h₃ stored valid tag, if_neg (Nat.not_lt.mpr room), none, Bool.false_eq_true, if_false,
    sendLockoutNotices_eq, rewriteSet_stored stored]
  rfl

theorem dropRequest_valid (h₁ : named ≠ []) (h₂ : named.length ≤ 8) (h₃ : named.Nodup)
    (stored : s.store.lockouts[k] = some h) (valid : h.valid) (tag : h.settings.kind = .tag)
    (held : ∀ d ∈ named, d ∈ h.settings.devices) (left : ∃ d ∈ h.settings.devices, d ∉ named) :
    let t := countOut named (s.reset k h (h.settings.devices.filter fun d => !named.contains d))
    dropRequest k.val (named.map Fin.val) s = (t.sendAll (lockoutTells s t), .ok) := by
  intro t
  have all : (named.any fun d => !h.settings.devices.contains d) = false :=
    List.any_eq_false.mpr fun d m => by simp [held d m]
  have some : (h.settings.devices.filter fun d => !named.contains d).isEmpty = false := by
    obtain ⟨d, m, out⟩ := left
    rw [List.isEmpty_eq_false_iff_exists_mem]
    exact ⟨d, List.mem_filter.mpr ⟨m, by simp [out]⟩⟩
  unfold dropRequest
  simp only [examineSet_valid h₁ h₂ h₃ stored valid tag, all, some, Bool.false_eq_true, if_false, sendLockoutNotices_eq,
    rewriteSet_stored stored]
  rfl

theorem reset_isLocked (ds fresh : List DeviceId) (nodup : fresh.Nodup) (d : DeviceId) :
    (countIn fresh (s.reset k h ds)).isLocked d = (s.isLocked d || fresh.contains d) := by
  have cover : (countIn fresh (s.reset k h ds)).lockouts.cover[d] = s.lockouts.cover[d] + (fresh.contains d).toNat :=
    countIn_cover nodup _ d
  have pending : (countIn fresh (s.reset k h ds)).isPending d = s.isPending d := rfl
  unfold Parts.isLocked
  rw [cover, pending]
  cases fresh.contains d
  · rw [Bool.toNat_false, Nat.add_zero, Bool.or_false]
  · simp

/-- Settles O30: both rewrite the one record, and an ADD then aborts what it has locked. -/
theorem addAndDropDevicesRewriteTheSet : Obligations.AddAndDropDevicesRewriteTheSet := by
  intro t k named h s live h₁ h₂ h₃ stored valid tag rewritten nothingElse setNow locked
  have untold : { s.parts with notices := [] } = s.parts := by rw [← live.2.1]
  refine ⟨fun room apart => ?_, fun held left => ?_⟩
  · let fresh := named.filter fun d => !h.settings.devices.contains d
    have nodup : fresh.Nodup := h₃.filter _
    have mem (d : DeviceId) : d ∈ fresh ↔ d ∈ named ∧ d ∉ h.settings.devices := by simp [fresh]
    have others (j : SlotId) (e : j ≠ k) : s.parts.tagHas j named = false := by
      unfold Parts.tagHas
      split
      next x hx =>
        by_cases hk : x.settings.kind = .tag
        · rcases apart j e x hx hk with bad | out
          · simp [bad]
          · have none : named.any x.settings.devices.contains = false :=
              List.any_eq_false.mpr fun d m => by simp [out d m]
            rw [none, Bool.and_false]
        · simp [hk]
      · rfl
    let u := countIn fresh (s.parts.reset k h (joinedSet fresh h.settings.devices))
    let w := u.sendAll (lockoutTells s.parts u)
    have lockedNow (d : DeviceId) : w.isLocked d = true ↔ locked d := by
      have eq : w.isLocked d = (s.parts.isLocked d || fresh.contains d) := reset_isLocked _ _ nodup d
      rw [eq, Bool.or_eq_true, List.contains_iff_mem, mem]
    obtain ⟨vs, ds, a, ns, form⟩ := abortLocked_operated w
    have kept := (abortLocked_alerts w).marks (lockoutIndex k) (mark_marks (s := s.parts.putLockout k _) (lockoutIndex k))
    refine ⟨abortLocked w, (exec_addDevices ..).trans (taking_settled _ _ live.1
      (addRequest_valid h₁ h₂ h₃ stored valid tag room others)), ⟨joinedSet fresh h.settings.devices, ?_, ?_, kept⟩,
      fun d => ?_, fun d => ?_, fun d y closing lock hd hv => ?_, fun none => ?_⟩
    · rw [form]
      rfl
    · rw [form]
      rfl
    · have now : setNow (abortLocked w) = joinedSet fresh h.settings.devices := by
        simp only [setNow]
        rw [form]
        exact congrArg (fun o : Option (Held LockoutSettings) => (o.map fun x => x.settings.devices).getD [])
          (getElem_set_fin_self s.parts.store.lockouts k _)
      rw [now, mem_joinedSet, mem]
      by_cases hd : d ∈ h.settings.devices <;> simp [hd]
    · have cover : (abortLocked w).lockouts.cover[d] = s.parts.lockouts.cover[d] + (fresh.contains d).toNat := by
        rw [form]
        exact countIn_cover nodup _ d
      rw [cover, toNat_contains, if_congr (mem d) rfl rfl]
    · exact abortLocked_aborts (s := w) closing ((lockedNow d).mpr lock) hd hv
    · have free : w.noLockedClose := fun d closing => Bool.eq_false_iff.mpr fun c => none d closing ((lockedNow d).mp c)
      rw [abortLocked_none free]
      exact ⟨rfl, untold⟩
  · let u := countOut named (s.parts.reset k h (h.settings.devices.filter fun d => !named.contains d))
    refine ⟨u.sendAll (lockoutTells s.parts u), (exec_dropDevices ..).trans (taking_settled _ _ live.1
      (dropRequest_valid h₁ h₂ h₃ stored valid tag held left)),
      ⟨_, rfl, rfl, mark_marks (s := s.parts.putLockout k _) (lockoutIndex k)⟩, ⟨rfl, untold⟩, fun d => ?_, fun d => ?_⟩
    · have now : setNow (u.sendAll (lockoutTells s.parts u)) = h.settings.devices.filter fun d => !named.contains d :=
        congrArg (fun o : Option (Held LockoutSettings) => (o.map fun x => x.settings.devices).getD [])
          (getElem_set_fin_self s.parts.store.lockouts k _)
      rw [now, List.mem_filter]
      simp
    · have cover : u.lockouts.cover[d] = s.parts.lockouts.cover[d] - (named.contains d).toNat := countOut_cover h₃ _ d
      rwa [toNat_contains] at cover

/-! ## RELEASE (R69) -/

theorem exec_releaseLockout (t : Byte) (slot : Nat) (s : State) :
    exec (.releaseLockout t slot) s = taking 0x33 t (bare (releaseRequest slot)) s := rfl

theorem releaseRequest_empty (stored : s.store.lockouts[k] = none) : releaseRequest k.val s = (s, .state) := by
  simp only [releaseRequest, index?_val, stored, Option.isNone_none, if_true]

theorem releaseRequest_frees (stored : s.store.lockouts[k] = some h) : releaseRequest k.val s = (freeLockout k s, .ok) := by
  simp only [releaseRequest, index?_val, stored, Option.isNone_some, Bool.false_eq_true, if_false]

/-- The removal of a hold reason, whether it stood or not. -/
theorem removeHold_form (s : Parts) (r : HoldReason) :
    ∃ ns, s.removeHold r = { s with service.hold := s.service.hold.put r false, notices := s.notices ++ ns } := by
  have same (h : s.service.hold.has r = false) : s.service.hold.put r false = s.service.hold := by
    cases r <;> simp only [HoldSet.has] at h <;> simp only [HoldSet.put, ← h]
  unfold Parts.removeHold
  cases h : s.service.hold.has r with
  | false => exact ⟨[], by rw [same h]; simp⟩
  | true =>
    simp only [Bool.not_true, Bool.false_eq_true, if_false]
    split
    · exact ⟨[], by simp⟩
    · exact ⟨_, rfl⟩

/-- With no entry pending, a drain ends the hold for them. -/
theorem drain_empty (h : s.lockouts.pending = []) : drain s = abortLocked (s.removeHold .lockoutPending) := by
  have loop : drainLoop 48 s = s := by
    simp only [drainLoop, h]
  obtain ⟨ns, e⟩ := removeHold_form s .lockoutPending
  have quiet : lockoutTells s (s.removeHold .lockoutPending) = [] := lockoutTells_same (by rw [e])
  unfold drain
  simp only [loop, h, List.isEmpty_nil, if_true]
  rw [sendLockoutNotices_eq, quiet, Parts.sendAll_nil]

/-- A slot emptied, with its changed mark. -/
def Parts.emptied (s : Parts) (k : SlotId) : Parts := (s.putLockout k none).mark (lockoutIndex k)

/-- The release of a record that is not DAMAGED counts its set out. -/
theorem freeLockout_intact (stored : s.store.lockouts[k] = some h) (intact : h.integrity ≠ .damaged) :
    let t := countOut (writtenSet h) (s.emptied k)
    freeLockout k s = drain (t.sendAll (lockoutTells s t)) := by
  intro t
  unfold freeLockout
  simp only [stored, false_and, intact, if_false, sendLockoutNotices_eq]
  rfl

/-- The release of a DAMAGED record moves no count. -/
theorem freeLockout_damaged (stored : s.store.lockouts[k] = some h) (bad : h.integrity = .damaged) :
    let t := if (s.emptied k).anyLockoutDamaged then s.emptied k else (s.emptied k).removeHold .lockoutDamaged
    freeLockout k s = drain t := by
  intro t
  have table : t.lockouts = s.lockouts := by
    obtain ⟨ns, e⟩ := removeHold_form (s.emptied k) .lockoutDamaged
    simp only [t]
    rw [e]
    split <;> rfl
  have quiet : sendLockoutNotices s t = t := by
    rw [sendLockoutNotices_eq, lockoutTells_same table, Parts.sendAll_nil]
  rw [← quiet]
  unfold freeLockout
  simp only [stored, bad, if_true, true_and]
  simp only [t]
  cases h : (s.emptied k).anyLockoutDamaged with
  | true =>
    have any : ((s.putLockout k none).mark (lockoutIndex k)).anyLockoutDamaged = true := h
    rw [any]
    rfl
  | false =>
    have any : ((s.putLockout k none).mark (lockoutIndex k)).anyLockoutDamaged = false := h
    rw [any]
    rfl

/-- Counting devices out locks none. -/
theorem countOut_isLocked {ds : List DeviceId} {d : DeviceId} (hd : s.isLocked d = false) :
    (countOut ds s).isLocked d = false := by
  simp only [Parts.isLocked, Bool.or_eq_false_iff, bne_eq_false_iff_eq] at hd ⊢
  exact ⟨Nat.le_zero.mp (hd.1 ▸ countOut_cover_le ds s d), hd.2⟩

/-- Settles O31: the record's set is counted out, and with nothing pending or CLOSING the drain adds nothing. -/
theorem releaseLockoutFreesTheSlot : Obligations.ReleaseLockoutFreesTheSlot := by
  intro t k s live
  have untold : { s.parts with notices := [] } = s.parts := by rw [← live.2.1]
  refine ⟨fun none => ?_, fun h stored intact nodup pending clear free => ?_⟩
  · exact taking_judged _ _ live.1 (releaseRequest_empty none) live.2
  · let u := countOut (writtenSet h) (s.parts.emptied k)
    let w := u.sendAll (lockoutTells s.parts u)
    have cover (d : DeviceId) : u.lockouts.cover[d] =
        s.parts.lockouts.cover[d] - if d ∈ h.code.covers.devices then 1 else 0 := by
      rw [← toNat_contains]
      exact countOut_cover nodup _ d
    have unlocked (d : DeviceId) (hd : s.parts.isLocked d = false) : w.isLocked d = false :=
      countOut_isLocked (s := s.parts.emptied k) hd
    have drained : freeLockout k s.parts = w := by
      have idle : w.removeHold .lockoutPending = w := Parts.removeHold_absent _ _ clear
      refine (freeLockout_intact stored intact).trans ((drain_empty (s := w) pending).trans ?_)
      rw [idle]
      exact abortLocked_none fun d closing => unlocked d (free d closing)
    refine ⟨w, (exec_releaseLockout ..).trans (taking_settled _ _ live.1
      ((releaseRequest_frees stored).trans (by rw [drained]))), rfl, cover, pending, rfl, rfl, ?_, untold⟩
    have tells : w.notices = lockoutTells s.parts u := by
      change s.parts.notices ++ _ = _
      rw [live.2.1, List.nil_append]
    have waits (d : DeviceId) : s.parts.isPending d = false := by simp only [Parts.isPending, pending, List.any_nil]
    have locked (d : DeviceId) (out : d ∈ h.code.covers.devices) (held : s.parts.lockouts.cover[d] ≠ 0) :
        s.parts.isLocked d = true := by
      simp only [Parts.isLocked, bne_iff_ne.mpr held, Bool.true_or]
    rw [tells, lockoutTells_counts (before := s.parts) (s := u) rfl]
    refine if_congr Iff.rfl ?_ rfl
    have moved (d : DeviceId) : (s.parts.lockouts.cover[d] != u.lockouts.cover[d]) =
        (h.code.covers.devices.contains d && s.parts.lockouts.cover[d] != 0) := by
      rw [cover]
      by_cases m : d ∈ h.code.covers.devices
      · rw [if_pos m, List.contains_iff_mem.mpr m, Bool.true_and]
        cases c : s.parts.lockouts.cover[d] with
        | zero => rfl
        | succ n => simp
      · rw [if_neg m, Bool.eq_false_iff.mpr fun c => m (List.contains_iff_mem.mp c), Nat.sub_zero, bne_self_eq_false,
          Bool.false_and]
    simp only [moved]
    refine List.map_congr_left fun d hd => ?_
    obtain ⟨out, held⟩ := Bool.and_eq_true_iff.mp (List.mem_filter.mp hd).2
    have m := List.contains_iff_mem.mp out
    rw [cover, if_pos m, waits, locked d m (bne_iff_ne.mp held), Bool.not_true, Bool.false_and]

end Sys2Proof.Machine

/-!
PROOF. Placements (R62, R63): the merge into a record of the kind and origin, the new record, and PLACE LOCKOUT.
-/

namespace Sys2Proof.Machine

variable {s : Parts} {kd : LockoutKind} {o : LockoutOrigin} {k : SlotId} {h : Held LockoutSettings}

/-! ## The merge targets (R63) -/

/-- Reads of records that are VALID leave everything. -/
theorem readTargets_idle (valid : ∀ (k : SlotId) x, s.store.lockouts[k] = some x → x.settings.kind = kd →
    x.settings.origin = o → x.integrity = .damaged ∨ x.valid) : readTargets kd o s = s := by
  unfold readTargets
  refine List.foldl_fixed' (fun k => ?_) _
  cases e : s.soundOf k kd o with
  | none => rfl
  | some x =>
    obtain ⟨y, stored, intact, kind, origin, -⟩ := Parts.soundOf_some e
    have v := (valid k y stored kind origin).resolve_left intact
    simp only [Option.isSome_some, if_true, useLockout_valid k y s stored v]

theorem soundOf_none (out : ∀ x, s.store.lockouts[k] = some x → x.settings.kind = kd → x.settings.origin = o →
    x.integrity = .damaged) : s.soundOf k kd o = none := by
  cases e : s.soundOf k kd o with
  | none => rfl
  | some x =>
    obtain ⟨y, stored, intact, kind, origin, -⟩ := Parts.soundOf_some e
    exact absurd (out y stored kind origin) intact

theorem soundOf_stored (stored : s.store.lockouts[k] = some h) (intact : h.integrity ≠ .damaged)
    (kind : h.settings.kind = kd) (origin : h.settings.origin = o) : s.soundOf k kd o = some h.settings := by
  unfold Parts.soundOf
  rw [stored]
  exact if_pos ⟨intact, kind, origin⟩

theorem targets_none (none : ∀ k, s.soundOf k kd o = none) : s.targets kd o = [] :=
  List.filterMap_eq_nil_iff.mpr fun k _ => by rw [none k]; rfl

/-- A list filtered to the one member that has an image. -/
theorem filterMap_one {α β : Type} {f : α → Option β} {a : α} {b : β} {l : List α} (nodup : l.Nodup) (mem : a ∈ l)
    (here : f a = some b) (others : ∀ x, x ≠ a → f x = none) : l.filterMap f = [b] := by
  induction l with
  | nil => cases mem
  | cons x l ih =>
    obtain ⟨fresh, nodup⟩ := List.nodup_cons.mp nodup
    by_cases e : x = a
    · subst e
      rw [List.filterMap_cons_some here]
      exact congrArg (b :: ·) (List.filterMap_eq_nil_iff.mpr fun y hy => others y fun e => fresh (e ▸ hy))
    · rw [List.filterMap_cons_none (others x e)]
      exact ih nodup ((List.mem_cons.mp mem).resolve_left (Ne.symm e))

/-- With one record to merge into, the targets are that record and its set. -/
theorem targets_one {x : LockoutSettings} (here : s.soundOf k kd o = some x)
    (others : ∀ j, j ≠ k → s.soundOf j kd o = none) : s.targets kd o = [(k, x.devices)] :=
  filterMap_one (List.nodup_finRange 32) (List.mem_finRange k) (by rw [here]; rfl) fun j e => by rw [others j e]; rfl

theorem mergeAll_none (none : ∀ k, s.soundOf k kd o = none) (ds : List DeviceId) : mergeAll kd o ds s = (s, ds) := by
  induction ds with
  | nil => rfl
  | cons d ds ih =>
    unfold mergeAll mergeDevice
    simp only [targets_none none, List.any_nil, List.find?_nil, ih, Bool.false_eq_true, if_false]

/-- A device of the one target is merged as it stands, and another into its room. -/
theorem mergeDevice_one {x : LockoutSettings} (here : s.soundOf k kd o = some x)
    (others : ∀ j, j ≠ k → s.soundOf j kd o = none) (d : DeviceId) : mergeDevice kd o d s =
      if x.devices.contains d then (s, true)
      else if x.devices.length < 8 then (countIn [d] (rewriteSet k (insertAscending d x.devices) s), true)
      else (s, false) := by
  unfold mergeDevice
  simp only [targets_one here others, List.any_cons, List.any_nil, Bool.or_false]
  split
  · rfl
  · by_cases room : x.devices.length < 8
    · simp only [List.find?_cons, room, decide_true, if_true]
    · simp only [List.find?_cons, room, decide_false, if_false, List.find?_nil]

/-- A record into which some devices are merged, if there are any. -/
def Parts.joined (s : Parts) (k : SlotId) (h : Held LockoutSettings) (fresh : List DeviceId) : Parts :=
  if fresh = [] then s else countIn fresh (s.reset k h (joinedSet fresh h.settings.devices))

/-- A device merged first and others after it are merged together. -/
theorem joined_cons (d : DeviceId) (fresh : List DeviceId) :
    (countIn [d] (s.reset k h (insertAscending d h.settings.devices))).joined k
      (h.rewrite { h.settings with devices := insertAscending d h.settings.devices }) fresh = s.joined k h (d :: fresh) := by
  unfold Parts.joined
  rw [if_neg (List.cons_ne_nil d fresh)]
  split
  next e => rw [e]; rfl
  next e =>
    simp only [Parts.reset, Parts.putLockout, Parts.mark, countIn, changeCover, Vector.set_set, List.foldl_cons,
      List.foldl_nil]
    rfl

/-- The merge into the one target, which has room: those it does not have join its set. -/
theorem mergeAll_one {ds : List DeviceId} (nodup : ds.Nodup) (stored : s.store.lockouts[k] = some h)
    (intact : h.integrity ≠ .damaged) (kind : h.settings.kind = kd) (origin : h.settings.origin = o)
    (others : ∀ j, j ≠ k → s.soundOf j kd o = none)
    (room : h.settings.devices.length + (ds.filter fun d => !h.settings.devices.contains d).length ≤ 8) :
    mergeAll kd o ds s = (s.joined k h (ds.filter fun d => !h.settings.devices.contains d), []) := by
  induction ds generalizing s h with
  | nil => rfl
  | cons d ds ih =>
    obtain ⟨fresh, nodup⟩ := List.nodup_cons.mp nodup
    have one := mergeDevice_one (soundOf_stored stored intact kind origin) others d
    unfold mergeAll
    by_cases has : h.settings.devices.contains d = true
    · rw [if_pos has] at one
      rw [List.filter_cons_of_neg (by simp only [has]; decide)] at room ⊢
      simp only [one, ih nodup stored intact kind origin others room, if_true]
    · have out : (!h.settings.devices.contains d) = true := by simpa using has
      rw [List.filter_cons_of_pos (p := fun d => !h.settings.devices.contains d) out, List.length_cons] at room
      rw [if_neg has, if_pos (by omega), rewriteSet_stored stored] at one
      rw [List.filter_cons_of_pos (p := fun d => !h.settings.devices.contains d) out]
      let E := insertAscending d h.settings.devices
      have grown : E.length = h.settings.devices.length + 1 := by
        have p := insertAscending_perm (l := h.settings.devices) (x := d) (by simpa using has)
        rw [p.length_eq, List.length_cons]
      have same : (ds.filter fun x => !E.contains x) = ds.filter fun x => !h.settings.devices.contains x := by
        refine List.filter_congr fun x hx => ?_
        have apart : x ≠ d := fun e => fresh (e ▸ hx)
        have iff : x ∈ E ↔ x ∈ h.settings.devices := by
          rw [mem_insertAscending]
          exact ⟨fun m => m.resolve_left apart, .inr⟩
        by_cases m : x ∈ h.settings.devices
        · simp [m, iff.mpr m]
        · simp [m, mt iff.mp m]
      have next := ih (s := countIn [d] (s.reset k h E)) (h := h.rewrite { h.settings with devices := E }) nodup
        (getElem_set_fin_self _ _ _) intact kind origin (fun j e => ?_) (by
          change E.length + (ds.filter fun x => !E.contains x).length ≤ 8
          rw [same, grown]
          omega)
      · change mergeAll kd o ds _ = (Parts.joined _ k _ (ds.filter fun x => !E.contains x), []) at next
        rw [same] at next
        have step : mergeDevice kd o d s = (countIn [d] (s.reset k h E), true) := one
        simp only [step, next, if_true, E, joined_cons]
      · have kept : (countIn [d] (s.reset k h E)).store.lockouts[j] = s.store.lockouts[j] :=
          getElem_set_fin_ne _ _ _ _ (Ne.symm e)
        have before := others j e
        unfold Parts.soundOf at before ⊢
        rw [kept]
        exact before

/-! ## New records (R63) -/

/-- The first member of an ascending list that satisfies a predicate. -/
theorem find?_first {n : Nat} {p : Fin n → Bool} {a : Fin n} (here : p a = true) (first : ∀ b, b < a → p b = false) :
    (List.finRange n).find? p = some a := by
  have sorted : (List.finRange n).Pairwise (· < ·) := List.pairwise_lt_finRange n
  have mem : a ∈ List.finRange n := List.mem_finRange a
  generalize List.finRange n = l at sorted mem
  induction l with
  | nil => cases mem
  | cons b l ih =>
    obtain ⟨below, sorted⟩ := List.pairwise_cons.mp sorted
    by_cases e : b = a
    · subst e
      exact List.find?_cons_of_pos here
    · have later := (List.mem_cons.mp mem).resolve_left (Ne.symm e)
      rw [List.find?_cons_of_neg (by rw [first b (below a later)]; decide)]
      exact ih sorted later

theorem emptySlot_first (empty : s.store.lockouts[k] = none)
    (first : ∀ j : SlotId, j < k → s.store.lockouts[j] ≠ none) : s.emptySlot = some k :=
  find?_first (by rw [empty]; rfl) fun j hj => Option.isNone_eq_false_iff.mpr (Option.isSome_iff_ne_none.mpr (first j hj))

/-- One to eight devices left over go into the first EMPTY slot. -/
theorem placeNew_one {ds : List DeviceId} {reason n : Nat} (some_ : ds ≠ []) (fits : ds.length ≤ 8)
    (slot : s.emptySlot = some k) : placeNew kd o reason (n + 1) ds s =
      (placeRecord k { kind := kd, origin := o, devices := ds, reason := reason } s, []) := by
  have empty : ds.isEmpty = false := by simpa using some_
  have rest (u : Parts) : placeNew kd o reason n [] u = (u, []) := by
    cases n <;> rfl
  unfold placeNew
  simp only [empty, Bool.false_eq_true, if_false, slot, List.take_of_length_le fits, List.drop_eq_nil_of_le fits, rest]

theorem placeNew_nil {reason n : Nat} : placeNew kd o reason n [] s = (s, []) := by
  cases n <;> rfl

/-- A placement, its reads leaving the state, whose devices all find a record. -/
theorem placeLockouts_placed {reason : Nat} {ds : List DeviceId} {u : Parts} {left : List DeviceId} {w : Parts}
    (read : readTargets kd o s = s) (merged : mergeAll kd o ds s = (u, left))
    (placed : placeNew kd o reason 32 left u = (w, [])) :
    placeLockouts kd o reason ds s = abortLocked (w.sendAll (lockoutTells s w)) := by
  unfold placeLockouts
  simp only [read, merged, placed, List.foldl_nil, sendLockoutNotices_eq]

/-! ## PLACE LOCKOUT (R62) -/

theorem exec_placeLockout (t : Byte) (reason : Nat) (ds : List Nat) (s : State) :
    exec (.placeLockout t reason ds) s = taking 0x30 t (placeRequest reason ds) s := rfl

theorem placeRequest_badRequest {reason : Nat} {ds : List Nat} (h : ds = [] ∨ 8 < ds.length ∨ ¬ds.Nodup) :
    placeRequest reason ds s = (s, .badRequest, []) := by
  refine if_pos ?_
  rcases h with h | h | h
  · exact .inl (List.isEmpty_iff.mpr h)
  · exact .inr (.inl h)
  · exact .inr (.inr (by rw [Bool.eq_false_iff.mpr (mt distinct_iff.mp h)]; rfl))

theorem devicesNamed_out {ds : List Nat} (h : ∃ d ∈ ds, 48 ≤ d) : devicesNamed ds = none := by
  cases e : devicesNamed ds with
  | none => rfl
  | some named =>
    obtain ⟨d, mem, out⟩ := h
    rw [← devicesNamed_map e] at mem
    obtain ⟨x, -, rfl⟩ := List.mem_map.mp mem
    exact absurd x.isLt (Nat.not_lt.mpr out)

theorem placeRequest_badIndex {reason : Nat} {ds : List Nat} (h₁ : ds ≠ []) (h₂ : ds.length ≤ 8) (h₃ : ds.Nodup)
    (h₄ : ∃ d ∈ ds, 48 ≤ d) : placeRequest reason ds s = (s, .badIndex, []) := by
  unfold placeRequest
  rw [if_neg (list_fits h₁ h₂ h₃), devicesNamed_out h₄]

theorem placeRequest_range {reason : Nat} {named : List DeviceId} (h₁ : named ≠ []) (h₂ : named.length ≤ 8)
    (h₃ : named.Nodup) (h₄ : 255 < reason) : placeRequest reason (named.map Fin.val) s = (s, .range, []) := by
  unfold placeRequest
  rw [if_neg (named_fits h₁ h₂ h₃), devicesNamed_val]
  exact if_pos h₄

theorem placeRequest_places {reason : Nat} {named : List DeviceId} (h₁ : named ≠ []) (h₂ : named.length ≤ 8)
    (h₃ : named.Nodup) (h₄ : reason ≤ 255) : placeRequest reason (named.map Fin.val) s =
      let t := placeLockouts .tag .supervisor reason (ascending named) s
      (t, .ok, named.map fun d => byte (placementOutcome t d)) := by
  unfold placeRequest
  rw [if_neg (named_fits h₁ h₂ h₃), devicesNamed_val]
  exact if_neg (Nat.not_lt.mpr h₄)

/-- Where one slot holds the devices named, the host is told that slot. -/
theorem placementOutcome_one {p : Parts} {x : LockoutSettings} {named : List DeviceId}
    (here : p.soundOf k .tag .supervisor = some x) (others : ∀ j, j ≠ k → p.soundOf j .tag .supervisor = none)
    (has : ∀ d ∈ named, d ∈ x.devices) :
    (named.map fun d => byte (placementOutcome p d)) = named.map fun _ => byte k.val := by
  refine List.map_congr_left fun d hd => ?_
  unfold placementOutcome
  rw [targets_one here others, List.find?_cons_of_pos (p := fun t : SlotId × List DeviceId => t.2.contains d)
    (List.contains_iff_mem.mpr (has d hd))]

theorem soundOf_congr {p : Parts} {j : SlotId} (e : p.store.lockouts[j] = s.store.lockouts[j]) :
    p.soundOf j kd o = s.soundOf j kd o := by
  unfold Parts.soundOf
  rw [e]

theorem exec_placeLockout_placed {t : Byte} {reason : Nat} {named : List DeviceId} {s : State} {w : Parts}
    {body : List Byte} (high : s.inReset = false) (h₁ : named ≠ []) (h₂ : named.length ≤ 8) (h₃ : named.Nodup)
    (h₄ : reason ≤ 255) (placed : placeLockouts .tag .supervisor reason (ascending named) s.parts = w)
    (told : (named.map fun d => byte (placementOutcome w d)) = body) :
    exec (.placeLockout t reason (named.map Fin.val)) s = .next (s.answers 0x30 t .ok body (settle w)) := by
  rw [exec_placeLockout, taking_live _ _ _ _ high, placeRequest_places h₁ h₂ h₃ h₄, placed]
  dsimp only
  rw [told]

/-- What a placement that counts some devices in does after its records are written. -/
structure Placed (s w : Parts) (counted : List DeviceId) : Prop where
  cover : ∀ d : DeviceId, w.lockouts.cover[d] = s.lockouts.cover[d] + (counted.contains d).toNat
  pending : w.lockouts.pending = s.lockouts.pending

theorem Placed.isLocked {w : Parts} {counted : List DeviceId} (h : Placed s w counted) (d : DeviceId) :
    w.isLocked d = (s.isLocked d || counted.contains d) := by
  simp only [Parts.isLocked, Parts.isPending, h.cover, h.pending]
  cases counted.contains d
  · rw [Bool.toNat_false, Nat.add_zero, Bool.or_false]
  · simp

/-- The lockout notices of a placement are of the devices it counts in. -/
theorem Placed.tells {w : Parts} {counted : List DeviceId} (h : Placed s w counted) :
    lockoutTells s w = if w.service.inService then
      (allDevices.filter counted.contains).map fun d =>
        .lockout d (s.lockouts.cover[d] + 1) (s.isPending d) (!s.isLocked d) else [] := by
  rw [lockoutTells_counts h.pending]
  refine if_congr Iff.rfl ?_ rfl
  have moved : (fun d : DeviceId => s.lockouts.cover[d] != w.lockouts.cover[d]) = counted.contains := by
    funext d
    rw [h.cover]
    cases counted.contains d <;> simp
  rw [moved]
  refine List.map_congr_left fun d hd => ?_
  have m := (List.mem_filter.mp hd).2
  rw [h.isLocked, h.cover, m, Bool.or_true, Bool.and_true]
  rfl

theorem ascending_perm {n : Nat} {xs : List (Fin n)} (h : xs.Nodup) : (ascending xs).Perm xs := mem_ascending h

/-- Settles O29: a placement is one record written and counted, merged or new, and then the aborts. -/
theorem placeLockoutTakesTheLowestEmptySlot : Obligations.PlaceLockoutTakesTheLowestEmptySlot := by
  intro t reason s live turned undamagedTag
  have untold : { s.parts with notices := [] } = s.parts := by rw [← live.2.1]
  have turnedAway {ds : List Nat} {a : Status} (e : placeRequest reason ds s.parts = (s.parts, a, [])) : turned ds a := by
    change exec _ _ = _
    rw [exec_placeLockout, taking_calm _ _ _ _ live.1 (by rw [e]; exact live.2), e]
  refine ⟨fun ds bad => turnedAway (placeRequest_badRequest bad),
    fun ds d₁ d₂ d₃ out => turnedAway (placeRequest_badIndex d₁ d₂ d₃ out), fun named h₁ h₂ h₃ => ?_⟩
  intro locked aborted noneAborted
  have perm := ascending_perm h₃
  have inside (d : DeviceId) : d ∈ ascending named ↔ d ∈ named := perm.mem_iff
  have sorted_ne : ascending named ≠ [] := fun e => h₁ (List.nil_perm.mp (e ▸ perm))
  have sorted_le : (ascending named).length ≤ 8 := perm.length_eq ▸ h₂
  have silent (ns : List Notice) : s.parts.notices ++ ns = ns := by rw [live.2.1, List.nil_append]
  refine ⟨fun above => turnedAway (placeRequest_range h₁ h₂ h₃ above), fun k inRange noTag empty first => ?_,
    fun k h inRange stored valid tag origin others room => ?_⟩
  · let x : LockoutSettings := { kind := .tag, origin := .supervisor, devices := ascending named, reason := reason }
    let u := placeRecord k x s.parts
    let w := u.sendAll (lockoutTells s.parts u)
    have none (j : SlotId) : s.parts.soundOf j .tag .supervisor = Option.none :=
      soundOf_none fun y hy kind _ => by_contra fun intact => noTag j ⟨y, hy, kind, intact⟩
    have placed : placeLockouts .tag .supervisor reason (ascending named) s.parts = abortLocked w :=
      placeLockouts_placed
        (readTargets_idle fun j y hy kind _ => .inl (by_contra fun intact => noTag j ⟨y, hy, kind, intact⟩))
        (mergeAll_none none _) (placeNew_one sorted_ne sorted_le (emptySlot_first empty first))
    have counted : Placed s.parts u (ascending named) :=
      ⟨fun d => countIn_cover (ascending_nodup named) _ d, rfl⟩
    have lockedNow (d : DeviceId) : w.isLocked d = true ↔ locked d [] := by
      have eq : w.isLocked d = (s.parts.isLocked d || (ascending named).contains d) := counted.isLocked d
      rw [eq, Bool.or_eq_true, List.contains_iff_mem, inside]
      exact or_congr Iff.rfl ⟨fun m => ⟨m, List.not_mem_nil⟩, And.left⟩
    obtain ⟨vs, ds, a, ns, form⟩ := abortLocked_operated w
    have store : (abortLocked w).store.lockouts = s.parts.store.lockouts.set k (some (Held.fresh x)) := by
      rw [form]
      rfl
    have told : (named.map fun d => byte (placementOutcome (abortLocked w) d)) = named.map fun _ => byte k.val := by
      refine placementOutcome_one (x := x) (soundOf_stored (h := Held.fresh x) ?_ (by nofun) rfl rfl) (fun j e => ?_)
        fun d hd => (inside d).mpr hd
      · rw [store]
        exact getElem_set_fin_self _ _ _
      · rw [← none j]
        refine soundOf_congr ?_
        rw [store]
        exact getElem_set_fin_ne _ _ _ _ (Ne.symm e)
    refine ⟨abortLocked w, exec_placeLockout_placed live.1 h₁ h₂ h₃ inRange placed told, store, fun d => ?_, ?_,
      fun d y closing lock hd hv => ?_, fun free => ?_⟩
    · have cover : (abortLocked w).lockouts.cover[d] = s.parts.lockouts.cover[d] + ((ascending named).contains d).toNat := by
        rw [form]
        exact counted.cover d
      rw [cover, toNat_contains, if_congr (inside d) rfl rfl]
    · rw [form]
      rfl
    · exact abortLocked_aborts (s := w) closing ((lockedNow d).mpr lock) hd hv
    · rw [abortLocked_none (s := w) fun d closing => Bool.eq_false_iff.mpr fun c => free d closing ((lockedNow d).mp c)]
      refine ⟨rfl, (silent _).trans (counted.tells.trans ?_), untold⟩
      have same : (ascending named).contains = named.contains := by
        funext d
        rw [Bool.eq_iff_iff, List.contains_iff_mem, List.contains_iff_mem, inside]
      rw [same]
      rfl
  · intro fresh
    let E := (ascending named).filter fun d => !h.settings.devices.contains d
    let u := s.parts.joined k h E
    let w := u.sendAll (lockoutTells s.parts u)
    have nodup : E.Nodup := (ascending_nodup named).filter _
    have memE (d : DeviceId) : d ∈ E ↔ d ∈ named ∧ d ∉ h.settings.devices := by simp [E, inside]
    have memFresh (d : DeviceId) : d ∈ fresh ↔ d ∈ E := by
      rw [memE]
      simp [fresh, allDevices]
    have emptyE : fresh = [] ↔ E = [] := by
      simp only [List.eq_nil_iff_forall_not_mem, memFresh]
    have none (j : SlotId) (e : j ≠ k) : s.parts.soundOf j .tag .supervisor = Option.none :=
      soundOf_none fun y hy kind _ => by_contra fun intact => others j e ⟨y, hy, kind, intact⟩
    have roomE : h.settings.devices.length + E.length ≤ 8 := by
      have same : E.length = (named.filter fun d => !h.settings.devices.contains d).length := (perm.filter _).length_eq
      rw [same]
      exact room
    have placed : placeLockouts .tag .supervisor reason (ascending named) s.parts = abortLocked w := by
      refine placeLockouts_placed (readTargets_idle fun j y hy kind _ => ?_)
        (mergeAll_one (ascending_nodup named) stored valid.1 tag origin none roomE) placeNew_nil
      by_cases e : j = k
      · subst e
        cases stored.symm.trans hy
        exact .inr valid
      · exact .inl (by_contra fun intact => others j e ⟨y, hy, kind, intact⟩)
    have counted : Placed s.parts u E := by
      by_cases e : E = []
      · have same : u = s.parts := if_pos e
        rw [same, e]
        exact ⟨fun d => rfl, rfl⟩
      · have joined : u = countIn E (s.parts.reset k h (joinedSet E h.settings.devices)) := if_neg e
        rw [joined]
        exact ⟨fun d => countIn_cover nodup _ d, rfl⟩
    have lockedNow (d : DeviceId) : w.isLocked d = true ↔ locked d h.settings.devices := by
      have eq : w.isLocked d = (s.parts.isLocked d || E.contains d) := counted.isLocked d
      rw [eq, Bool.or_eq_true, List.contains_iff_mem, memE]
    obtain ⟨vs, ds, a, ns, form⟩ := abortLocked_operated w
    have store : (abortLocked w).store.lockouts = u.store.lockouts := by
      rw [form]
      rfl
    have written (e : E ≠ []) : u.store.lockouts = s.parts.store.lockouts.set k
        (some (h.rewrite { h.settings with devices := joinedSet E h.settings.devices })) := by
      have joined : u = countIn E (s.parts.reset k h (joinedSet E h.settings.devices)) := if_neg e
      rw [joined]
      rfl
    have kept (e : E = []) : u = s.parts := if_pos e
    have now : ∃ y : Held LockoutSettings, u.store.lockouts[k] = some y ∧ y.integrity ≠ .damaged ∧ y.settings.kind = .tag ∧
        y.settings.origin = .supervisor ∧ ∀ d ∈ named, d ∈ y.settings.devices := by
      by_cases e : E = []
      · refine ⟨h, by rw [kept e]; exact stored, valid.1, tag, origin, fun d hd => by_contra fun out => ?_⟩
        have mem := (memE d).mpr ⟨hd, out⟩
        rw [e] at mem
        cases mem
      · refine ⟨h.rewrite { h.settings with devices := joinedSet E h.settings.devices },
          by rw [written e]; exact getElem_set_fin_self _ _ _, valid.1, tag, origin, fun d hd => ?_⟩
        refine mem_joinedSet.mpr ?_
        by_cases m : d ∈ h.settings.devices
        · exact .inr m
        · exact .inl ((memE d).mpr ⟨hd, m⟩)
    have told : (named.map fun d => byte (placementOutcome (abortLocked w) d)) = named.map fun _ => byte k.val := by
      obtain ⟨y, hy, intact, kind, org, has⟩ := now
      refine placementOutcome_one (soundOf_stored (h := y) (by rw [store]; exact hy) intact kind org) (fun j e => ?_) has
      rw [← none j e]
      refine soundOf_congr ?_
      rw [store]
      by_cases e' : E = []
      · rw [kept e']
      · rw [written e']
        exact getElem_set_fin_ne _ _ _ _ (Ne.symm e)
    refine ⟨abortLocked w, exec_placeLockout_placed live.1 h₁ h₂ h₃ inRange placed told, fun e => ?_, fun e => ?_,
      fun d => ?_, ?_, fun d y closing lock hd hv => ?_, fun free => ?_⟩
    · rw [store, kept (emptyE.mp e)]
    · refine ⟨joinedSet E h.settings.devices, fun d => ?_, store.trans (written (mt emptyE.mpr e))⟩
      rw [mem_joinedSet, memE]
      by_cases m : d ∈ h.settings.devices <;> simp [m]
    · have cover : (abortLocked w).lockouts.cover[d] = s.parts.lockouts.cover[d] + (E.contains d).toNat := by
        rw [form]
        exact counted.cover d
      rw [cover, toNat_contains, if_congr (memFresh d).symm rfl rfl]
    · rw [form]
      exact counted.pending
    · have device : w.switching.devices[d] = s.parts.switching.devices[d] ∧
          w.store.devices[d] = s.parts.store.devices[d] := by
        by_cases e : E = []
        · exact ⟨by simp only [w, kept e]; rfl, by simp only [w, kept e]; rfl⟩
        · have joined : u = countIn E (s.parts.reset k h (joinedSet E h.settings.devices)) := if_neg e
          exact ⟨by simp only [w, joined]; rfl, by simp only [w, joined]; rfl⟩
      rw [← device.1]
      exact abortLocked_aborts (s := w) (by rw [device.1]; exact closing) ((lockedNow d).mpr lock)
        (device.2.trans hd) hv
    · have tells : lockoutTells s.parts u = if u.service.inService then fresh.map fun d =>
          .lockout d (s.parts.lockouts.cover[d] + 1) (s.parts.isPending d) (!s.parts.isLocked d) else [] := by
        have same : (allDevices.filter E.contains) = fresh := by
          refine List.filter_congr fun d _ => ?_
          rw [Bool.eq_iff_iff, List.contains_iff_mem, memE]
          simp
        rw [counted.tells, same]
      have devices : w.switching = s.parts.switching := by
        by_cases e : E = []
        · simp only [w, kept e]
          rfl
        · have joined : u = countIn E (s.parts.reset k h (joinedSet E h.settings.devices)) := if_neg e
          simp only [w, joined]
          rfl
      rw [abortLocked_none (s := w) fun d closing => Bool.eq_false_iff.mpr fun c => free d (devices ▸ closing) ((lockedNow d).mp c)]
      by_cases e : E = []
      · have same : w = s.parts.sendAll (lockoutTells s.parts u) := by simp only [w, kept e]
        rw [same, if_pos (emptyE.mpr e)]
        refine ⟨rfl, (silent _).trans (tells.trans ?_), untold⟩
        rw [kept e]
      · have joined : u = countIn E (s.parts.reset k h (joinedSet E h.settings.devices)) := if_neg e
        have same : w = (countIn E (s.parts.reset k h (joinedSet E h.settings.devices))).sendAll (lockoutTells s.parts u) := by
          simp only [w, joined]
        rw [same, if_neg (mt emptyE.mp e)]
        refine ⟨rfl, (silent _).trans (tells.trans ?_), untold⟩
        rw [joined]
        rfl

end Sys2Proof.Machine

/-!
PROOF. The pending list (R66, R67) and the release of a DAMAGED record (R70).
-/

namespace Sys2Proof.Machine

variable {s : Parts} {kd : LockoutKind} {o : LockoutOrigin} {k : SlotId} {h : Held LockoutSettings}

/-! ## What opens raise -/

theorem useDevice_flags (d : DeviceId) (s : Parts) :
    ∃ b, (useDevice d s).1.attention.flags = { s.attention.flags with record := b } :=
  useHeld_preserves (P := fun u => ∃ b, u.attention.flags = { s.attention.flags with record := b })
    (fun _ k => k) (fun {u} ⟨b, e⟩ => ⟨true, by
      change { u.attention.flags with record := true } = _
      rw [e]⟩) id ⟨_, rfl⟩

theorem startOpening_flags (d : DeviceId) (q : Requester) (n : Nat) (s : Parts) :
    (startOpening s d q n).attention.flags = s.attention.flags := by
  by_cases closing : s.switching.devices[d].state = .closing
  · rw [startOpening_closing _ closing, sendCompletion_eq]
    exact Parts.setDevice_flags ..
  · rw [startOpening_quiet _ closing]
    exact Parts.setDevice_flags ..

/-- An open raises the RECORD flag at most. -/
theorem sendOpen_flags (d : DeviceId) (q : Requester) (s : Parts) :
    ∃ b, (sendOpen d q s).attention.flags = { s.attention.flags with record := b } := by
  obtain ⟨b, read⟩ := useDevice_flags d s
  unfold sendOpen openRequest storeRefusal
  dsimp only
  split
  · exact ⟨_, Parts.setDevice_flags ..⟩
  split
  · exact ⟨_, rfl⟩
  split
  · split
    · exact ⟨b, (Parts.setDevice_flags ..).trans read⟩
    · exact ⟨_, rfl⟩
  split
  · exact ⟨_, Parts.setDevice_flags ..⟩
  · exact ⟨b, (startOpening_flags ..).trans read⟩

theorem abortLocked_flags (s : Parts) : ∃ b, (abortLocked s).attention.flags = { s.attention.flags with record := b } := by
  rw [abortLocked_eq]
  generalize allDevices = l
  induction l generalizing s with
  | nil => exact ⟨_, rfl⟩
  | cons d l ih =>
    obtain ⟨b, e⟩ := ih (abortOne s d)
    have one : ∃ c, (abortOne s d).attention.flags = { s.attention.flags with record := c } := by
      unfold abortOne
      split
      · exact sendOpen_flags d .lockout s
      · exact ⟨_, rfl⟩
    obtain ⟨c, e'⟩ := one
    exact ⟨b, by rw [List.foldl_cons, e, e']⟩

/-! ## Pending entries (R66) -/

/-- A pending list, with the flags and the hold reasons that go with it. -/
def Parts.listed (s : Parts) (ps : List PendingEntry) (fs : AttentionFlags) (hs : HoldSet) : Parts :=
  { s with lockouts.pending := ps, attention.flags := fs, service.hold := hs }

theorem mem_insertEntry {e e' : PendingEntry} {es : List PendingEntry} : e' ∈ insertEntry e es ↔ e' = e ∨ e' ∈ es :=
  (insertBy_perm _ e es).mem_iff.trans List.mem_cons

/-- An entry of a device that has none keeps the list in ascending order. -/
theorem insertEntry_sorted {e : PendingEntry} {es : List PendingEntry} (fresh : ∀ x ∈ es, x.device ≠ e.device)
    (sorted : (es.map PendingEntry.device).Pairwise (· < ·)) :
    ((insertEntry e es).map PendingEntry.device).Pairwise (· < ·) := by
  have once : ((insertEntry e es).map PendingEntry.device).Nodup := by
    have perm : ((insertEntry e es).map PendingEntry.device).Perm ((e :: es).map PendingEntry.device) :=
      (insertBy_perm _ e es).map _
    rw [perm.nodup_iff, List.map_cons, List.nodup_cons]
    refine ⟨fun m => ?_, sorted.imp ne_of_lt⟩
    obtain ⟨x, hx, same⟩ := List.mem_map.mp m
    exact fresh x hx same
  have weak : (insertEntry e es).Pairwise fun a b => a.device ≤ b.device :=
    insertBy_sorted PendingEntry.device (fun a b => by simp) e
      ((List.pairwise_map.mp sorted).imp fun l => le_of_lt l)
  rw [List.pairwise_map]
  exact (weak.and (List.pairwise_map.mp once)).imp fun ⟨le, ne⟩ => lt_of_le_of_ne le ne

/-- What a placement that waits has done for a list of devices. -/
structure Waiting (kd : LockoutKind) (o : LockoutOrigin) (reason : Nat) (ds : List DeviceId) (s u : Parts) : Prop where
  form : ∃ ps fs hs, u = s.listed ps fs hs
  entries : ∀ e, e ∈ u.lockouts.pending ↔ e ∈ s.lockouts.pending ∨
    ∃ d ∈ ds, s.isLocked d = false ∧ e = { device := d, kind := kd, origin := o, reason := reason }
  sorted : (s.lockouts.pending.map PendingEntry.device).Pairwise (· < ·) →
    (u.lockouts.pending.map PendingEntry.device).Pairwise (· < ·)
  flag : u.attention.flags.lockout = (s.attention.flags.lockout || ds.any fun d => !s.isLocked d)
  hold : u.service.hold = { s.service.hold with
    lockoutPending := s.service.hold.lockoutPending || (s.service.inService && ds.any fun d => !s.isLocked d) }

theorem addHold_pending (s : Parts) : ∃ fs, s.addHold .lockoutPending = s.listed s.lockouts.pending fs
      { s.service.hold with lockoutPending := s.service.hold.lockoutPending || s.service.inService } ∧
    fs.lockout = s.attention.flags.lockout := by
  unfold Parts.addHold HoldSet.has
  cases serving : s.service.inService with
  | false => exact ⟨_, by simp only [Bool.or_false]; rfl, rfl⟩
  | true =>
    cases present : s.service.hold.lockoutPending with
    | true =>
      have same : { s.service.hold with lockoutPending := true } = s.service.hold := by rw [← present]
      exact ⟨s.attention.flags, congrArg (s.listed s.lockouts.pending s.attention.flags) same.symm, rfl⟩
    | false => exact ⟨_, rfl, rfl⟩

theorem makePending_locked {reason : Nat} {d : DeviceId} (locked : s.isLocked d = true) :
    makePending kd o reason s d = s := if_pos locked

theorem makePending_waits {reason : Nat} {d : DeviceId} (free : s.isLocked d = false) :
    ∃ fs, makePending kd o reason s d = s.listed
        (insertEntry { device := d, kind := kd, origin := o, reason := reason } s.lockouts.pending) fs
        { s.service.hold with lockoutPending := s.service.hold.lockoutPending || s.service.inService } ∧
      fs.lockout = true := by
  have open_ : ¬ s.isLocked d = true := by rw [free]; decide
  let entry : PendingEntry := { device := d, kind := kd, origin := o, reason := reason }
  obtain ⟨fs, e, flag⟩ := addHold_pending (Parts.raise { s with
    lockouts.pending := insertEntry entry s.lockouts.pending } .lockout)
  exact ⟨fs, (if_neg open_).trans e, flag⟩

theorem Waiting.refl (kd : LockoutKind) (o : LockoutOrigin) (reason : Nat) (s : Parts) : Waiting kd o reason [] s s := by
  refine ⟨⟨_, _, _, rfl⟩, fun e => ?_, id, ?_, ?_⟩ <;> simp

/-- A listed entry locks its own device alone. -/
theorem listed_isLocked {e : PendingEntry} {fs : AttentionFlags} {hs : HoldSet} {d : DeviceId} (h : d ≠ e.device) :
    (s.listed (insertEntry e s.lockouts.pending) fs hs).isLocked d = s.isLocked d := by
  have pending : (s.listed (insertEntry e s.lockouts.pending) fs hs).isPending d = s.isPending d := by
    unfold Parts.isPending
    rw [Bool.eq_iff_iff, List.any_eq_true, List.any_eq_true]
    refine ⟨fun ⟨x, hx, same⟩ => ?_, fun ⟨x, hx, same⟩ => ⟨x, mem_insertEntry.mpr (.inr hx), same⟩⟩
    rcases mem_insertEntry.mp hx with rfl | hx
    · exact absurd (beq_iff_eq.mp same).symm h
    · exact ⟨x, hx, same⟩
  unfold Parts.isLocked
  rw [pending]
  rfl

/-- Devices that find no record wait, each that is not locked with an entry of its own. -/
theorem makePending_fold {reason : Nat} {ds : List DeviceId} (nodup : ds.Nodup) (s : Parts) :
    Waiting kd o reason ds s (ds.foldl (makePending kd o reason) s) := by
  induction ds generalizing s with
  | nil => exact .refl kd o reason s
  | cons d ds ih =>
    obtain ⟨fresh, nodup⟩ := List.nodup_cons.mp nodup
    rw [List.foldl_cons]
    cases locked : s.isLocked d with
    | true =>
      rw [makePending_locked locked]
      obtain ⟨form, entries, sorted, flag, hold⟩ := ih nodup s
      refine ⟨form, fun e => ?_, sorted, ?_, ?_⟩
      · rw [entries e]
        simp [locked]
      · rw [flag, List.any_cons, locked, Bool.not_true, Bool.false_or]
      · rw [hold, List.any_cons, locked, Bool.not_true, Bool.false_or]
    | false =>
      obtain ⟨fs, step, raised⟩ := makePending_waits (kd := kd) (o := o) (reason := reason) locked
      rw [step]
      let e₀ : PendingEntry := { device := d, kind := kd, origin := o, reason := reason }
      let t := s.listed (insertEntry e₀ s.lockouts.pending) fs
        { s.service.hold with lockoutPending := s.service.hold.lockoutPending || s.service.inService }
      obtain ⟨⟨ps, fs', hs, form⟩, entries, sorted, flag, hold⟩ := ih nodup t
      have same (x : DeviceId) (hx : x ∈ ds) : t.isLocked x = s.isLocked x :=
        listed_isLocked (e := e₀) fun e : x = d => fresh (e ▸ hx)
      refine ⟨⟨ps, fs', hs, form⟩, fun e => ?_, fun ord => sorted (insertEntry_sorted (fun x hx => ?_) ord), ?_, ?_⟩
      · rw [entries e]
        have here : e ∈ t.lockouts.pending ↔ e = e₀ ∨ e ∈ s.lockouts.pending := mem_insertEntry
        rw [here]
        constructor
        · rintro ((rfl | old) | ⟨x, hx, free, rfl⟩)
          · exact .inr ⟨d, List.mem_cons_self, locked, rfl⟩
          · exact .inl old
          · exact .inr ⟨x, List.mem_cons_of_mem d hx, same x hx ▸ free, rfl⟩
        · rintro (old | ⟨x, hx, free, rfl⟩)
          · exact .inl (.inr old)
          · rcases List.mem_cons.mp hx with rfl | hx
            · exact .inl (.inl rfl)
            · exact .inr ⟨x, hx, (same x hx).trans free, rfl⟩
      · intro e
        have pending : s.isPending d = true := List.any_eq_true.mpr ⟨x, hx, beq_iff_eq.mpr e⟩
        rw [Parts.isLocked, pending, Bool.or_true] at locked
        cases locked
      · have was : t.attention.flags.lockout = true := raised
        rw [flag, was, List.any_cons, locked]
        simp
      · have was : t.service.hold = { s.service.hold with
            lockoutPending := s.service.hold.lockoutPending || s.service.inService } := rfl
        have serving : t.service.inService = s.service.inService := rfl
        rw [hold, was, serving, List.any_cons, locked]
        simp only [Bool.not_false, Bool.true_or, Bool.and_true]
        cases s.service.hold.lockoutPending <;> cases s.service.inService <;> rfl

end Sys2Proof.Machine

/-!
PROOF. What waits for a slot and what an EMPTY slot takes off the list (R63, R66, R67, R70).
-/

namespace Sys2Proof.Machine

variable {s : Parts} {kd : LockoutKind} {o : LockoutOrigin} {k : SlotId} {h : Held LockoutSettings}

/-! ## A placement that waits -/

theorem placeNew_full {reason n : Nat} {ds : List DeviceId} (some_ : ds ≠ []) (full : s.emptySlot = none) :
    placeNew kd o reason n ds s = (s, ds) := by
  cases n with
  | zero => rfl
  | succ n =>
    have empty : ds.isEmpty = false := by simpa using some_
    unfold placeNew
    simp only [empty, Bool.false_eq_true, if_false, full]

theorem emptySlot_none (full : ∀ k : SlotId, s.store.lockouts[k] ≠ none) : s.emptySlot = none :=
  List.find?_eq_none.mpr fun k _ => by simpa using full k

/-- A placement that finds neither a target nor an EMPTY slot waits. -/
theorem placeLockouts_waits {reason : Nat} {ds : List DeviceId} (some_ : ds ≠ []) (read : readTargets kd o s = s)
    (none : ∀ k, s.soundOf k kd o = none) (full : s.emptySlot = Option.none) :
    placeLockouts kd o reason ds s =
      let w := ds.foldl (makePending kd o reason) s
      abortLocked (w.sendAll (lockoutTells s w)) := by
  unfold placeLockouts
  simp only [read, mergeAll_none none, placeNew_full some_ full, sendLockoutNotices_eq]

theorem Waiting.isPending {reason : Nat} {ds : List DeviceId} {u : Parts} (w : Waiting kd o reason ds s u) {d : DeviceId}
    (mem : d ∈ ds) : u.isPending d = (s.isPending d || !s.isLocked d) := by
  rw [Bool.eq_iff_iff, Parts.isPending, List.any_eq_true, Bool.or_eq_true, Parts.isPending, List.any_eq_true,
    Bool.not_eq_true']
  constructor
  · rintro ⟨e, he, same⟩
    rcases (w.entries e).mp he with old | ⟨x, -, free, rfl⟩
    · exact .inl ⟨e, old, same⟩
    · exact .inr (by rw [← beq_iff_eq.mp same]; exact free)
  · rintro (⟨e, he, same⟩ | free)
    · exact ⟨e, (w.entries e).mpr (.inl he), same⟩
    · exact ⟨_, (w.entries _).mpr (.inr ⟨d, mem, free, rfl⟩), beq_self_eq_true d⟩

/-! ## The drain (R67) -/

theorem drainLoop_done (h : s.lockouts.pending = []) (n : Nat) : drainLoop n s = s := by
  cases n with
  | zero => rfl
  | succ n => simp only [drainLoop, h]

/-- The pending list without its head, as the drain takes it. -/
def Parts.unlisted (s : Parts) (rest : List PendingEntry) : Parts := Parts.raise { s with lockouts.pending := rest } .lockout

/-- The drain with its loop run: the hold ends with the list. -/
theorem drain_form {t : Parts} (loop : drainLoop 48 s = t) (free : t.noLockedClose) : ∃ ns, drain s =
    { t with
      service.hold := { t.service.hold with
        lockoutPending := t.service.hold.lockoutPending && !t.lockouts.pending.isEmpty }
      notices := ns } := by
  obtain ⟨ns, e⟩ := removeHold_form t .lockoutPending
  unfold drain
  dsimp only
  rw [loop, sendLockoutNotices_eq]
  cases t.lockouts.pending.isEmpty with
  | true =>
    rw [if_pos rfl, e]
    exact ⟨_, Eq.trans (abortLocked_none (by exact free)) (by rw [Bool.not_true, Bool.and_false]; rfl)⟩
  | false =>
    rw [if_neg Bool.false_ne_true]
    exact ⟨_, Eq.trans (abortLocked_none (by exact free)) (by rw [Bool.not_false, Bool.and_true]; rfl)⟩

/-- With no target, the head entry goes into the one EMPTY slot. -/
theorem drainLoop_new {e : PendingEntry} {rest : List PendingEntry} (list : s.lockouts.pending = e :: rest)
    (slot : s.emptySlot = some k) (read : readTargets e.kind e.origin (s.unlisted rest) = s.unlisted rest)
    (none : ∀ j, s.soundOf j e.kind e.origin = none) (n : Nat) : drainLoop (n + 1) s =
      placeRecord k { kind := e.kind, origin := e.origin, devices := [e.device], reason := e.reason } (s.unlisted rest) := by
  have merged : mergeDevice e.kind e.origin e.device (s.unlisted rest) = (s.unlisted rest, false) := by
    have none' : ∀ j, (s.unlisted rest).soundOf j e.kind e.origin = Option.none := none
    simp only [mergeDevice, targets_none none', List.any_nil, Bool.false_eq_true, if_false, List.find?_nil]
  have placed := placeNew_one (s := s.unlisted rest) (kd := e.kind) (o := e.origin) (reason := e.reason) (n := 0)
    (List.cons_ne_nil e.device []) (Nat.le_of_ble_eq_true rfl) slot
  have entry : drainEntry e rest s = (placeRecord k
      { kind := e.kind, origin := e.origin, devices := [e.device], reason := e.reason } (s.unlisted rest), false) := by
    have fold : Parts.raise { s with lockouts.pending := rest } .lockout = s.unlisted rest := rfl
    unfold drainEntry
    simp only [fold, read, merged, Bool.false_eq_true, if_false]
    rw [placed]
  simp only [drainLoop, list, slot, entry, Bool.false_eq_true, if_false]

/-- The one entry goes into the one record of its kind and origin, which has room. -/
theorem drainLoop_merge {e : PendingEntry} {j : SlotId} {x : Held LockoutSettings} (list : s.lockouts.pending = [e])
    (slot : s.emptySlot = some k) (read : readTargets e.kind e.origin (s.unlisted []) = s.unlisted [])
    (stored : s.store.lockouts[j] = some x) (here : s.soundOf j e.kind e.origin = some x.settings)
    (others : ∀ i, i ≠ j → s.soundOf i e.kind e.origin = none) (room : x.settings.devices.length < 8)
    (fresh : e.device ∉ x.settings.devices) (n : Nat) : drainLoop (n + 1) s =
      countIn [e.device] ((s.unlisted []).reset j x (insertAscending e.device x.settings.devices)) := by
  have out : ¬ x.settings.devices.contains e.device = true := by simpa using fresh
  have merged := mergeDevice_one (s := s.unlisted []) (k := j) here others e.device
  rw [if_neg out, if_pos room, rewriteSet_stored (s := s.unlisted []) stored] at merged
  let t := countIn [e.device] ((s.unlisted []).reset j x (insertAscending e.device x.settings.devices))
  have entry : drainEntry e [] s = (t, true) := by
    have fold : Parts.raise { s with lockouts.pending := [] } .lockout = s.unlisted [] := rfl
    unfold drainEntry
    simp only [fold, read, merged, if_true, t]
    rfl
  simp only [drainLoop, list, slot, entry, if_true]
  exact drainLoop_done rfl n

/-- Counting devices out and an entry taken off the list lock none. -/
theorem unlisted_isLocked {e : PendingEntry} {rest : List PendingEntry} (list : s.lockouts.pending = e :: rest)
    {d : DeviceId} (free : s.isLocked d = false) : (s.unlisted rest).isLocked d = false := by
  simp only [Parts.isLocked, Bool.or_eq_false_iff, Parts.isPending, list, List.any_cons] at free
  obtain ⟨none, -, others⟩ := free
  exact Bool.or_eq_false_iff.mpr ⟨none, others⟩

/-! ## The obligation -/

/-- A record's set counted out and its slot EMPTY, with the lockout notices. -/
def Parts.freed (s : Parts) (k : SlotId) (h : Held LockoutSettings) : Parts :=
  let t := countOut (writtenSet h) (s.emptied k)
  t.sendAll (lockoutTells s t)

theorem freed_emptySlot (others : ∀ j : SlotId, j ≠ k → s.store.lockouts[j] ≠ none) :
    (s.freed k h).emptySlot = some k :=
  emptySlot_first (getElem_set_fin_self s.store.lockouts k _) fun j below => by
    have kept : (s.freed k h).store.lockouts[j] = s.store.lockouts[j] := getElem_set_fin_ne _ _ _ _ (ne_of_gt below)
    rw [kept]
    exact others j (ne_of_lt below)

theorem freed_cover (nodup : (writtenSet h).Nodup) (d : DeviceId) :
    (s.freed k h).lockouts.cover[d] = s.lockouts.cover[d] - if d ∈ writtenSet h then 1 else 0 := by
  rw [← toNat_contains]
  exact countOut_cover nodup (s.emptied k) d

/-- A record of the kind and origin that another slot holds is the one that was there. -/
theorem freed_stored {j : SlotId} {x : Held LockoutSettings} (stored : (s.freed k h).store.lockouts[j] = some x) :
    j ≠ k ∧ s.store.lockouts[j] = some x := by
  have store : (s.freed k h).store.lockouts = s.store.lockouts.set k none := rfl
  rw [store] at stored
  by_cases e : j = k
  · subst e
    rw [getElem_set_fin_self] at stored
    cases stored
  · exact ⟨e, (getElem_set_fin_ne _ _ _ _ (Ne.symm e)).symm.trans stored⟩

/-- A drain after which one entry is counted in aborts nothing where nothing locked was CLOSING. -/
theorem noLockedClose_entry {e : PendingEntry} {rest : List PendingEntry} {t : Parts}
    (list : s.lockouts.pending = e :: rest) (free : s.noLockedClose)
    (devices : t.switching = s.switching) (pending : t.lockouts.pending = rest)
    (cover : ∀ d : DeviceId, t.lockouts.cover[d] ≤ s.lockouts.cover[d] + if d = e.device then 1 else 0) :
    t.noLockedClose := by
  intro d closing
  rw [devices] at closing
  have was := free d closing
  simp only [Parts.isLocked, Bool.or_eq_false_iff, Parts.isPending, list, List.any_cons] at was
  obtain ⟨none, other, others⟩ := was
  have apart : d ≠ e.device := fun same => bne_iff_ne.mp (bne_iff_ne.mpr (beq_eq_false_iff_ne.mp other)) same.symm
  have bound := cover d
  rw [if_neg apart, bne_eq_false_iff_eq.mp none] at bound
  have zero : t.lockouts.cover[d] = 0 := Nat.le_zero.mp bound
  simp only [Parts.isLocked, Parts.isPending, pending, zero, others, bne_self_eq_false, Bool.or_self]

/-- Settles O32: devices without a record wait in the list, and a slot made EMPTY takes the head of it. -/
theorem pendingLockoutsWaitForASlot : Obligations.PendingLockoutsWaitForASlot := by
  intro t s live old hold releases freed ofEntry counted
  refine ⟨fun reason named h₁ h₂ h₃ inRange full damagedTags => ?_, fun k h e rest was list filled bad => ?_,
    fun k j h x e was list apart stored valid of room fresh bad => ?_, fun k h stored bad none free => ?_⟩
  · intro waits anyWaits
    have perm := ascending_perm h₃
    have inside (d : DeviceId) : d ∈ ascending named ↔ d ∈ named := perm.mem_iff
    let w := (ascending named).foldl (makePending .tag .supervisor reason) s.parts
    let v := w.sendAll (lockoutTells s.parts w)
    have wait : Waiting .tag .supervisor reason (ascending named) s.parts w :=
      makePending_fold (ascending_nodup named) s.parts
    have none (k : SlotId) : s.parts.soundOf k .tag .supervisor = Option.none :=
      soundOf_none fun x hx kind _ => damagedTags k x hx kind
    have placed : placeLockouts .tag .supervisor reason (ascending named) s.parts = abortLocked v :=
      placeLockouts_waits (fun e => h₁ (List.nil_perm.mp (e ▸ perm)))
        (readTargets_idle fun k x hx kind _ => .inl (damagedTags k x hx kind)) none (emptySlot_none full)
    obtain ⟨vs, ds, a, ns, form⟩ := abortLocked_operated v
    obtain ⟨ps, fs, hs, listed⟩ := wait.form
    have store : (abortLocked v).store.lockouts = s.parts.store.lockouts := by
      rw [form]
      exact (congrArg (fun u : Parts => u.store.lockouts) listed).trans rfl
    have table : (abortLocked v).lockouts = w.lockouts := by
      rw [form]
      rfl
    have told : (named.map fun d => byte (placementOutcome (abortLocked v) d)) =
        named.map fun d => if s.parts.isPending d || !s.parts.isLocked d then 0xFE else 0xFF := by
      refine List.map_congr_left fun d hd => ?_
      have targets : (abortLocked v).targets .tag .supervisor = [] := targets_none fun k => by
        rw [← none k]
        exact soundOf_congr (by rw [store])
      have pending : (abortLocked v).isPending d = (s.parts.isPending d || !s.parts.isLocked d) := by
        rw [← wait.isPending ((inside d).mpr hd), Parts.isPending, table]
        rfl
      unfold placementOutcome
      rw [targets, List.find?_nil, pending]
      dsimp only
      cases s.parts.isPending d || !s.parts.isLocked d <;> rfl
    have any : ((ascending named).any fun d => !s.parts.isLocked d) = anyWaits := by
      rw [Bool.eq_iff_iff, List.any_eq_true, List.any_eq_true]
      exact exists_congr fun d => and_congr_left' (inside d)
    refine ⟨abortLocked v, exec_placeLockout_placed live.1 h₁ h₂ h₃ inRange placed told, store, ?_, fun e => ?_,
      fun ord => ?_, ?_, ?_, fun d y closing waiting hd hv => ?_⟩
    · rw [table]
      exact (congrArg (fun u : Parts => u.lockouts.cover) listed).trans rfl
    · rw [table, wait.entries e]
      refine or_congr Iff.rfl (exists_congr fun d => ?_)
      rw [inside, ← and_assoc]
    · rw [table]
      exact wait.sorted ord
    · obtain ⟨b, flags⟩ := abortLocked_flags v
      rw [flags, ← any]
      exact wait.flag
    · have kept : (abortLocked v).service.hold = w.service.hold := by
        rw [form]
        rfl
      rw [kept, wait.hold, any]
    · have device : v.switching.devices[d] = s.parts.switching.devices[d] :=
        (congrArg (fun u : Parts => u.switching.devices[d]) listed).trans rfl
      have record : v.store.devices[d] = s.parts.store.devices[d] :=
        (congrArg (fun u : Parts => u.store.devices[d]) listed).trans rfl
      have pending : v.isPending d = true := by
        have now := wait.isPending ((inside d).mpr waiting.1)
        rw [waiting.2, Bool.not_false, Bool.or_true] at now
        exact now
      have locked : v.isLocked d = true := by rw [Parts.isLocked, pending, Bool.or_true]
      rw [← device]
      exact abortLocked_aborts (by rw [device]; exact closing) locked (record.trans hd) hv
  · obtain ⟨stored, intact, nodup, free⟩ := was
    let w := s.parts.freed k h
    let x : LockoutSettings := { kind := e.kind, origin := e.origin, devices := [e.device], reason := e.reason }
    let u := placeRecord k x (w.unlisted rest)
    have bad' (j : SlotId) (y : Held LockoutSettings) (hy : w.store.lockouts[j] = some y) (kind : y.settings.kind = e.kind)
        (origin : y.settings.origin = e.origin) : y.integrity = .damaged := by
      obtain ⟨ne, hy⟩ := freed_stored hy
      exact bad j ne y hy ⟨kind, origin⟩
    have loop : drainLoop 48 w = u :=
      drainLoop_new (s := w) list (freed_emptySlot filled)
        (readTargets_idle fun j y hy kind origin => .inl (bad' j y hy kind origin))
        (fun j => soundOf_none (bad' j)) 47
    have cover (d : DeviceId) : u.lockouts.cover[d] = s.parts.lockouts.cover[d] -
        (if d ∈ writtenSet h then 1 else 0) + if d = e.device then 1 else 0 := by
      have one : u.lockouts.cover[d] = w.lockouts.cover[d] + ([e.device].contains d).toNat :=
        countIn_cover (List.nodup_singleton _) _ d
      rw [one, freed_cover nodup, toNat_contains, if_congr List.mem_singleton rfl rfl]
    have quiet : u.noLockedClose :=
      noLockedClose_entry list free rfl rfl fun d => by
        rw [cover]
        exact Nat.add_le_add_right (Nat.sub_le _ _) _
    obtain ⟨ns, drained⟩ := drain_form loop quiet
    have frees : freeLockout k s.parts = drain w := freeLockout_intact stored intact
    refine ⟨drain w, ⟨(exec_releaseLockout ..).trans (taking_settled _ _ live.1
      ((releaseRequest_frees stored).trans (by rw [frees]))), by rw [drained]; rfl⟩, fun d => ?_, ?_, ?_, ?_, ?_⟩
    all_goals rw [drained]
    · exact cover d
    · rfl
    · have store : u.store.lockouts = s.parts.store.lockouts.set k (some (Held.fresh x)) := Vector.set_set ..
      exact congrArg (fun l => { s.parts.store with lockouts := l }) store
    · have marks : u.attention.changed = s.parts.attention.changed.set (lockoutIndex k) true := Vector.set_set ..
      exact congrArg (fun c => { s.parts.attention with flags.lockout := true, changed := c }) marks
    · rfl
  · obtain ⟨hk, intact, nodup, free⟩ := was
    let w := s.parts.freed k h
    let E := insertAscending e.device x.settings.devices
    let u := countIn [e.device] ((w.unlisted []).reset j x E)
    have here : w.store.lockouts[j] = some x :=
      (getElem_set_fin_ne s.parts.store.lockouts _ _ _ (Ne.symm apart)).trans stored
    have bad' (i : SlotId) (ne : i ≠ j) (y : Held LockoutSettings) (hy : w.store.lockouts[i] = some y)
        (kind : y.settings.kind = e.kind) (origin : y.settings.origin = e.origin) : y.integrity = .damaged := by
      obtain ⟨ne', hy⟩ := freed_stored hy
      exact bad i ne' ne y hy ⟨kind, origin⟩
    have slot : ∃ i, w.emptySlot = some i := Option.isSome_iff_exists.mp <| List.find?_isSome.mpr
      ⟨k, List.mem_finRange k, by
        have empty : w.store.lockouts[k] = none := getElem_set_fin_self _ _ _
        rw [empty]
        rfl⟩
    obtain ⟨i, slot⟩ := slot
    have loop : drainLoop 48 w = u := by
      refine drainLoop_merge (s := w) list slot (readTargets_idle fun i y hy kind origin => ?_) here
        (soundOf_stored here valid.1 of.1 of.2) (fun i ne => soundOf_none (bad' i ne)) room fresh 47
      by_cases ne : i = j
      · subst ne
        cases here.symm.trans hy
        exact .inr valid
      · exact .inl (bad' i ne y hy kind origin)
    have cover (d : DeviceId) : u.lockouts.cover[d] = s.parts.lockouts.cover[d] -
        (if d ∈ writtenSet h then 1 else 0) + if d = e.device then 1 else 0 := by
      have one : u.lockouts.cover[d] = w.lockouts.cover[d] + ([e.device].contains d).toNat :=
        countIn_cover (List.nodup_singleton _) _ d
      rw [one, freed_cover nodup, toNat_contains, if_congr List.mem_singleton rfl rfl]
    have quiet : u.noLockedClose :=
      noLockedClose_entry list free rfl rfl fun d => by
        rw [cover]
        exact Nat.add_le_add_right (Nat.sub_le _ _) _
    obtain ⟨ns, drained⟩ := drain_form loop quiet
    have frees : freeLockout k s.parts = drain w := freeLockout_intact hk intact
    refine ⟨drain w, ⟨(exec_releaseLockout ..).trans (taking_settled _ _ live.1
      ((releaseRequest_frees hk).trans (by rw [frees]))), by rw [drained]; rfl⟩, fun d => ?_, ?_, ?_, ?_, ?_⟩
    all_goals rw [drained]
    · exact cover d
    · rfl
    · exact (getElem_set_fin_ne _ _ _ _ apart).trans (getElem_set_fin_self s.parts.store.lockouts k _)
    · exact ⟨x.rewrite { x.settings with devices := E }, getElem_set_fin_self _ _ _, ⟨valid.1, rfl⟩, of,
        fun d => mem_insertAscending⟩
    · change { hold with lockoutPending := hold.lockoutPending && false } = _
      rw [Bool.and_false]
  · let v := s.parts.emptied k
    obtain ⟨ns, removed⟩ := removeHold_form v .lockoutDamaged
    let w := if v.anyLockoutDamaged then v else v.removeHold .lockoutDamaged
    have form : ∃ ms, w = { v with
        service.hold := { hold with lockoutDamaged := hold.lockoutDamaged && v.anyLockoutDamaged }, notices := ms } := by
      cases any : v.anyLockoutDamaged with
      | true => exact ⟨_, (if_pos any).trans (by rw [Bool.and_true]; rfl)⟩
      | false => exact ⟨_, (if_neg (by rw [any]; decide)).trans (by rw [removed, Bool.and_false]; rfl)⟩
    obtain ⟨ms, form⟩ := form
    have loop : drainLoop 48 w = w := drainLoop_done (by rw [form]; exact none) 48
    obtain ⟨ns', drained⟩ := drain_form loop (by rw [form]; exact free)
    have frees : freeLockout k s.parts = drain w := freeLockout_damaged stored bad
    have each (j : SlotId) : isDamaged v.store.lockouts[j] = (j != k && isDamaged s.parts.store.lockouts[j]) := by
      by_cases e : j = k
      · subst e
        have empty : v.store.lockouts[j] = Option.none := getElem_set_fin_self _ _ _
        rw [empty, bne_self_eq_false]
        rfl
      · have kept : v.store.lockouts[j] = s.parts.store.lockouts[j] := getElem_set_fin_ne _ _ _ _ (Ne.symm e)
        rw [kept, bne_iff_ne.mpr e, Bool.true_and]
    have any : v.anyLockoutDamaged = allSlots.any fun j => j != k && isDamaged s.parts.store.lockouts[j] :=
      congrArg (allSlots.any ·) (funext each)
    refine ⟨drain w, ⟨(exec_releaseLockout ..).trans (taking_settled _ _ live.1
      ((releaseRequest_frees stored).trans (by rw [frees]))), ?_⟩, ?_, ?_, ?_, ?_⟩
    all_goals rw [drained, form]
    · rfl
    · rfl
    · rfl
    · rfl
    · have empty : v.lockouts.pending = [] := none
      rw [empty, any]
      exact congrArg (fun b => { hold with
        lockoutPending := b
        lockoutDamaged := hold.lockoutDamaged && allSlots.any fun j => j != k && isDamaged s.parts.store.lockouts[j] })
        (Bool.and_false _)

end Sys2Proof.Machine

/-!
PROOF. The share targets (R149) and LEAVE SERVICE (R171).
-/

namespace Sys2Proof.Machine

/-! ## Shares by largest index first (R149) -/

/-- One more for each of the first members of a list adds their number to its sum. -/
theorem sum_firstRaised (m n : Nat) (xs : List Nat) :
    ((xs.zipIdx n).map fun (x, k) => if k < m then x + 1 else x).sum = xs.sum + min (m - n) xs.length := by
  induction xs generalizing n with
  | nil => simp
  | cons x xs ih =>
    rw [List.zipIdx_cons, List.map_cons, List.sum_cons, ih, List.sum_cons, List.length_cons]
    dsimp only
    split <;> omega

/-- The shares of some ratings together are at most the whole, and short of it by less than one each. -/
theorem sum_shares (basis total : Nat) (ratings : List Nat) (positive : 0 < total) :
    (ratings.map fun r => shareOf basis r total).sum * total ≤ basis * ratings.sum ∧
      basis * ratings.sum ≤ ((ratings.map fun r => shareOf basis r total).sum + ratings.length) * total := by
  induction ratings with
  | nil => simp
  | cons r rs ih =>
    have low : shareOf basis r total * total ≤ basis * r := Nat.div_mul_le_self ..
    have high : basis * r ≤ (shareOf basis r total + 1) * total := (Nat.lt_mul_of_div_lt (Nat.lt_succ_self _) positive).le
    rw [List.map_cons, List.sum_cons, List.sum_cons, List.length_cons]
    constructor <;> nlinarith [ih.1, ih.2]

/-- A share is its rating exactly, or there is room in the rating for one more. -/
theorem shareOf_room {basis r total : Nat} (positive : 0 < r) (below : basis < total) : shareOf basis r total + 1 ≤ r :=
  Nat.div_lt_of_lt_mul (Nat.mul_lt_mul_of_pos_right below positive)

/-- Settles O48: the floors leave less than one kW for each rating, and the first ones take it. -/
theorem shareTargetsSumToTheBasis : Obligations.ShareTargetsSumToTheBasis := by
  intro basis ratings positive covered ts
  let floors := ratings.map fun r => shareOf basis r ratings.sum
  have length : floors.length = ratings.length := List.length_map _
  have form : ts = floors.zipIdx.map fun (x, k) => if k < basis - floors.sum then x + 1 else x := rfl
  have bounds : floors.sum ≤ basis ∧ basis ≤ floors.sum + ratings.length := by
    rcases Nat.eq_zero_or_pos ratings.sum with zero | pos
    · have empty : ratings = [] := List.eq_nil_iff_forall_not_mem.mpr fun r hr =>
        absurd (List.single_le_sum (fun _ _ => Nat.zero_le _) r hr) (by have := positive r hr; omega)
      have none : floors = [] := by simp only [floors, empty, List.map_nil]
      rw [none, empty]
      simp only [List.sum_nil, List.length_nil]
      omega
    · obtain ⟨low, high⟩ := sum_shares basis ratings.sum ratings pos
      exact ⟨Nat.le_of_mul_le_mul_right low pos, Nat.le_of_mul_le_mul_right high pos⟩
  refine ⟨by rw [form, List.length_map, List.length_zipIdx, length], ?_, fun k r x hr hx => ?_⟩
  · rw [form, sum_firstRaised, length]
    omega
  · have floor : floors[k]? = some (shareOf basis r ratings.sum) := by rw [List.getElem?_map, hr]; rfl
    have value : (if k < basis - floors.sum then shareOf basis r ratings.sum + 1 else shareOf basis r ratings.sum) = x := by
      rw [form, List.getElem?_map, List.getElem?_zipIdx, floor] at hx
      simpa using hx
    have pos := positive r (List.mem_of_getElem? hr)
    have whole : shareOf basis r ratings.sum ≤ r :=
      Nat.div_le_of_le_mul (Nat.mul_le_mul_right r covered)
    rw [← value]
    change shareOf basis r ratings.sum ≤ _ ∧ _ ≤ shareOf basis r ratings.sum + 1 ∧ _ ≤ r
    split
    next raised =>
      have below : basis < ratings.sum := by
        refine lt_of_le_of_ne covered fun same => ?_
        have exact_ : floors = ratings := by
          have total : 0 < ratings.sum := lt_of_lt_of_le pos (List.single_le_sum (fun _ _ => Nat.zero_le _) r
            (List.mem_of_getElem? hr))
          have each (y : Nat) : shareOf basis y ratings.sum = y := by
            unfold shareOf
            rw [same, Nat.mul_comm, Nat.mul_div_cancel _ total]
          simp only [floors, each, List.map_id']
        rw [exact_, same, Nat.sub_self] at raised
        exact absurd raised (Nat.not_lt_zero k)
      exact ⟨Nat.le_succ _, le_rfl, shareOf_room pos below⟩
    · exact ⟨le_rfl, Nat.le_succ _, whole⟩

/-! ## Store indices (R1) -/

/-- The store index of a record leads back to it. -/
theorem recordAt_position (n : RecordName) : recordAt n.position = n := by
  cases n with
  | station => rfl
  | scheme => rfl
  | bus b =>
    unfold recordAt RecordName.position busIndex
    dsimp only
    rw [dif_neg (by omega), dif_pos (by omega)]
    exact congrArg RecordName.bus (Fin.ext (Nat.add_sub_cancel_left ..))
  | utility u =>
    unfold recordAt RecordName.position utilityIndex
    dsimp only
    rw [dif_neg (by omega), dif_neg (by omega), dif_pos (by omega)]
    exact congrArg RecordName.utility (Fin.ext (Nat.add_sub_cancel_left ..))
  | generator g =>
    unfold recordAt RecordName.position generatorIndex
    dsimp only
    rw [dif_neg (by omega), dif_neg (by omega), dif_neg (by omega), dif_pos (by omega)]
    exact congrArg RecordName.generator (Fin.ext (Nat.add_sub_cancel_left ..))
  | device d =>
    unfold recordAt RecordName.position deviceIndex
    dsimp only
    rw [dif_neg (by omega), dif_neg (by omega), dif_neg (by omega), dif_neg (by omega), dif_pos (by omega)]
    exact congrArg RecordName.device (Fin.ext (Nat.add_sub_cancel_left ..))
  | block l =>
    unfold recordAt RecordName.position blockIndex
    dsimp only
    rw [dif_neg (by omega), dif_neg (by omega), dif_neg (by omega),
      dif_neg (by omega), dif_neg (by omega), dif_pos (by omega)]
    exact congrArg RecordName.block (Fin.ext (Nat.add_sub_cancel_left ..))
  | element e =>
    unfold recordAt RecordName.position elementIndex
    dsimp only
    rw [dif_neg (by omega), dif_neg (by omega), dif_neg (by omega),
      dif_neg (by omega), dif_neg (by omega), dif_neg (by omega), dif_pos (by omega)]
    exact congrArg RecordName.element (Fin.ext (Nat.add_sub_cancel_left ..))
  | lockout k =>
    unfold recordAt RecordName.position lockoutIndex
    dsimp only
    rw [dif_neg (by omega), dif_neg (by omega), dif_neg (by omega), dif_neg (by omega),
      dif_neg (by omega), dif_neg (by omega), dif_neg (by omega), dif_pos (by omega)]
    exact congrArg RecordName.lockout (Fin.ext (Nat.add_sub_cancel_left ..))
  | point p =>
    unfold recordAt RecordName.position pointIndex
    dsimp only
    rw [dif_neg (by omega), dif_neg (by omega), dif_neg (by omega), dif_neg (by omega),
      dif_neg (by omega), dif_neg (by omega), dif_neg (by omega), dif_neg (by omega), dif_neg (by omega)]
    exact congrArg RecordName.point (Fin.ext (Nat.add_sub_cancel_left ..))

theorem position_injective : Function.Injective RecordName.position :=
  Function.LeftInverse.injective recordAt_position

theorem mem_allRecords (n : RecordName) : n ∈ allRecords :=
  List.mem_map.mpr ⟨n.position, List.mem_finRange _, recordAt_position n⟩

/-! ## LEAVE SERVICE (R170) -/

/-- Marks are not live fields. -/
theorem liveMoved_marked (a b : Parts) (m : Vector Bool 256) (n : RecordName) :
    liveMoved a { b with attention.changed := m } n = liveMoved a b n := by
  cases n <;> rfl

/-- A record's mark is set, beside as before, where its live fields have moved. -/
theorem markMoved_mark (a b : Parts) : ∃ m : Vector Bool 256, markMoved a b = { b with attention.changed := m } ∧
    ∀ n : RecordName, m[n.position] = (b.attention.changed[n.position] || liveMoved a b n) := by
  have fold (ns : List RecordName) (s : Parts) (same : ∀ n, liveMoved a s n = liveMoved a b n) :
      ∃ m : Vector Bool 256, ns.foldl (fun s n => s.markIf (liveMoved a s n) n.position) s =
          { s with attention.changed := m } ∧
        ∀ n : RecordName, m[n.position] = (s.attention.changed[n.position] || (ns.contains n && liveMoved a b n)) := by
    induction ns generalizing s with
    | nil => exact ⟨s.attention.changed, rfl, fun n => (Bool.or_false _).symm⟩
    | cons r ns ih =>
      have one : ∃ w : Vector Bool 256, s.markIf (liveMoved a s r) r.position = { s with attention.changed := w } ∧
          ∀ n : RecordName, w[n.position] = (s.attention.changed[n.position] || (n == r && liveMoved a b n)) := by
        rw [same r]
        unfold Parts.markIf
        cases moved : liveMoved a b r with
        | false =>
          refine ⟨s.attention.changed, rfl, fun n => ?_⟩
          by_cases e : n = r
          · rw [e, moved, Bool.and_false, Bool.or_false]
          · rw [beq_eq_false_iff_ne.mpr e, Bool.false_and, Bool.or_false]
        | true =>
          refine ⟨s.attention.changed.set r.position true, rfl, fun n => ?_⟩
          by_cases e : n = r
          · rw [e, getElem_set_fin_self, moved, beq_self_eq_true, Bool.and_self, Bool.or_true]
          · rw [getElem_set_fin_ne _ _ _ _ fun same => e (position_injective same.symm), beq_eq_false_iff_ne.mpr e,
              Bool.false_and, Bool.or_false]
      obtain ⟨w, step, marks⟩ := one
      obtain ⟨m, rest, marks'⟩ := ih { s with attention.changed := w } fun n => (liveMoved_marked a s w n).trans (same n)
      refine ⟨m, by rw [List.foldl_cons, step, rest], fun n => ?_⟩
      rw [marks' n, List.contains_cons]
      have now : ({ s with attention.changed := w } : Parts).attention.changed[n.position] = w[n.position] := rfl
      rw [now, marks n]
      cases n == r <;> cases liveMoved a b n <;> simp
  obtain ⟨m, form, marks⟩ := fold allRecords b fun _ => rfl
  exact ⟨m, form, fun n => by rw [marks n, List.contains_iff_mem.mpr (mem_allRecords n), Bool.true_and]⟩

theorem exec_leaveService (t : Byte) (s : State) : exec (.leaveService t) s = taking 0x83 t (bare leaveRequest) s := rfl

theorem leaveRequest_state {s : Parts} (h : s.service.inService = false ∨
    (∃ d : DeviceId, s.switching.devices[d].state = .closing ∨ s.switching.devices[d].state = .opening) ∨
    0 < s.lanes.testCount) : leaveRequest s = (s, .state) := by
  unfold leaveRequest
  rcases h with out | ⟨d, flight⟩ | testing
  · rw [out]
    rfl
  · have any : (allDevices.any fun d => s.switching.devices[d].state.inFlight) = true := by
      refine List.any_eq_true.mpr ⟨d, List.mem_finRange d, ?_⟩
      rcases flight with e | e <;> rw [e] <;> rfl
    rw [any, if_pos rfl, ite_self]
  · rw [if_pos testing, ite_self, ite_self]

theorem leaveRequest_leaves {s : Parts} (serving : s.service.inService = true)
    (still : ∀ d : DeviceId, s.switching.devices[d].state ≠ .closing ∧ s.switching.devices[d].state ≠ .opening)
    (untested : s.lanes.testCount = 0) : leaveRequest s = (leaveParts s, .ok) := by
  have none : (allDevices.any fun d => s.switching.devices[d].state.inFlight) = false := by
    refine List.any_eq_false.mpr fun d _ => ?_
    obtain ⟨closing, opening⟩ := still d
    generalize s.switching.devices[d].state = x at closing opening
    cases x with
    | closing => exact absurd rfl closing
    | opening => exact absurd rfl opening
    | _ => decide
  unfold leaveRequest
  rw [serving, none, untested]
  rfl

/-- Settles O53: what LEAVE SERVICE puts every block at is written out, and the marks are of what that moves. -/
theorem leaveServiceReturnsToConfiguring : Obligations.LeaveServiceReturnsToConfiguring := by
  intro t s live
  refine ⟨fun barred => taking_judged _ _ live.1 (leaveRequest_state barred) live.2, fun serving still untested => ?_⟩
  obtain ⟨m, form, marks⟩ := markMoved_mark s.parts (outOfService s.parts)
  refine ⟨m, marks, (exec_leaveService t s).trans ((taking_settled _ _ live.1
    ((leaveRequest_leaves serving still untested).trans (congrArg (·, _) form))).trans ?_)⟩
  have quiet : { outOfService s.parts with attention.changed := m }.calm := ⟨live.2.1, rfl⟩
  rw [settle_calm _ quiet]
  have notices : (outOfService s.parts).notices = [] := live.2.1
  rw [← notices]
  rfl

end Sys2Proof.Machine

/-!
PROOF. Entries of a changeover side (R125) and RESET SIDE (R134).
-/

namespace Sys2Proof.Machine

variable {s : Parts} {i : SideId} {st : SideState}

/-! ## What an entry writes (R125) -/

/-- The claim after an entry of a side into a state. -/
def claimed (i : SideId) (st : SideState) (c : Option SideId) : Option SideId :=
  if st.claims then c.or (some i) else if c = some i then none else c

theorem claimAfter_form (i : SideId) (st : SideState) (s : Parts) :
    ∃ ns, claimAfter i st s = { s with changeover.claim := claimed i st s.changeover.claim, notices := ns } := by
  unfold claimAfter claimed
  split
  · split
    next free => exact ⟨_, by rw [free]; rfl⟩
    next held =>
      obtain ⟨j, claim⟩ := Option.ne_none_iff_exists'.mp held
      refine ⟨s.notices, ?_⟩
      rw [claim, Option.some_or, ← claim]
  · split
    next held => exact ⟨_, rfl⟩
    next other => exact ⟨_, rfl⟩

theorem putSide_self (i : SideId) (s : Parts) : putSide i (s.side i) s = s := by
  simp only [putSide, Parts.side, set_fin_getElem]

theorem putSupply_form (i : SideId) (b : Bool) (s : Parts) :
    ∃ ns, putSupply i b s = { putSide i { s.side i with supply := b } s with notices := ns } := by
  unfold putSupply
  dsimp only
  split
  next same =>
    subst same
    exact ⟨s.notices, (putSide_self i s).symm⟩
  next => exact ⟨_, rfl⟩

/-- A side after its entry into a state. -/
def SideLive.entered (o : SideLive) (st : SideState) (feeding : Option DeviceId) : SideLive :=
  { o with
    state := st, step := if st = .genWait then some .wait else if st = .altTie then some .preShed else none,
    feeding := feeding, dead := deadAfter st o.dead, sync := .stopped, closeSent := false, openWait := .none,
    supply := supplyAfter st o.supply }

/-- An entry withdraws what the side leaves, writes the side and the claim, and touches notices, marks and its flag. -/
theorem enterSide_form (i : SideId) (st : SideState) (s : Parts) :
    ∃ ns m, enterSide i st s =
      let t := withdrawOf i (s.side i).state s
      { t with
        changeover.sides := s.changeover.sides.set i ((s.side i).entered st (feedingAfter s i st))
        changeover.claim := claimed i st s.changeover.claim
        notices := ns
        attention.changed := m
        attention.flags.changeover := t.attention.flags.changeover ||
          decide (st = .locked ∨ (st = .awaitSource ∧ (s.side i).state ≠ .awaitSource)) } := by
  have same := (withdrawOf_keeps i (s.side i).state s).2
  unfold enterSide
  dsimp only
  generalize withdrawOf i (s.side i).state s = t at same ⊢
  have feeds : feedingAfter t i st = feedingAfter s i st := by
    simp only [feedingAfter, Parts.sideIncomer, Parts.sideTie, Parts.sideGeneratorTie, Parts.sideSettings, Parts.side, same]
  have side : t.side i = s.side i := congrArg (fun c : ChangeoverUnit => c.sides[i]) same
  rw [feeds, side]
  generalize made : SideLive.mk st _ _ _ _ _ _ _ = x
  obtain ⟨ns, claim⟩ := claimAfter_form i st (putSide i x t)
  rw [claim]
  obtain ⟨ms, supply⟩ := putSupply_form i (supplyAfter st (s.side i).supply)
    { putSide i x t with changeover.claim := claimed i st (putSide i x t).changeover.claim, notices := ns }
  rw [supply]
  have entered : { x with supply := supplyAfter st (s.side i).supply } =
      (s.side i).entered st (feedingAfter s i st) := by
    subst made
    rfl
  have written : { putSide i x t with
      changeover.claim := claimed i st (putSide i x t).changeover.claim, notices := ns }.side i = x :=
    getElem_set_fin_self _ _ _
  rw [written, entered]
  generalize (s.side i).entered st (feedingAfter s i st) = z
  obtain ⟨m, marked⟩ := markIf_marks ((s.side i).state != st) schemeIndex { putSide i z { putSide i x t with
    changeover.claim := claimed i st (putSide i x t).changeover.claim, notices := ns } with notices := ms }
  rw [marked]
  have sides : (s.changeover.sides.set i x).set i z = s.changeover.sides.set i z := Vector.set_set ..
  refine ⟨ms, m, ?_⟩
  split
  next raised =>
    rw [decide_eq_true raised, Bool.or_true, ← sides, ← same]
    rfl
  next quiet =>
    rw [decide_eq_false quiet, Bool.or_false, ← sides, ← same]
    rfl

theorem enterSide_side (i : SideId) (st : SideState) (s : Parts) :
    (enterSide i st s).changeover.sides[i] = (s.side i).entered st (feedingAfter s i st) := by
  obtain ⟨ns, m, e⟩ := enterSide_form i st s
  rw [e]
  exact getElem_set_fin_self _ _ _

/-! ## The rules of a side -/

/-- The rules of a side leave what they write, with at most a notice to the other side. -/
theorem onSide_form (i : SideId) (f : Parts → Parts) (s : Parts) : ∃ ns, onSide i f s = { f s with notices := ns } := by
  unfold onSide
  dsimp only
  split
  · exact ⟨_, rfl⟩
  · exact ⟨_, rfl⟩

/-! ## RESET SIDE (R134) -/

theorem exec_resetSide (t : Byte) (n : Nat) (s : State) :
    exec (.resetSide t n) s = taking 0x51 t (bare (resetSideRequest n)) s := rfl

/-- What RESET SIDE is barred by. -/
theorem resetSideRequest_state (h : s.service.inService = false ∨ s.changeover.scheme = none ∨ s.changeover.mode = .manual ∨
    s.changeover.sides[i].state ≠ .locked) : resetSideRequest i.val s = (s, .state) := by
  unfold resetSideRequest
  rw [index?_val]
  refine if_pos ?_
  rcases h with h | h | h | h
  · exact .inl (by rw [h]; rfl)
  · exact .inr (.inl (by rw [h]; rfl))
  · exact .inr (.inr (.inl h))
  · exact .inr (.inr (.inr h))

/-- A LOCKED side in AUTO is reset unless a device of its is locked. -/
theorem resetSideRequest_locked {y : SchemeSettings} (serving : s.service.inService = true)
    (scheme : s.changeover.scheme = some y) (auto : s.changeover.mode = .auto)
    (locked : s.changeover.sides[i].state = .locked) : resetSideRequest i.val s =
      if (s.sideDevices i).any s.isLocked then (s, .state) else (onSide i (takeDerived i) s, .ok) := by
  unfold resetSideRequest
  rw [index?_val]
  refine if_neg ?_
  rw [serving, scheme, auto]
  have side : (s.side i).state = .locked := locked
  simp [side]

theorem sideDevices_scheme {y : SchemeSettings} (scheme : s.changeover.scheme = some y) {d : DeviceId} :
    d ∈ s.sideDevices i ↔ d ∈ y.sides[i].incomer :: (y.sides[i].generatorTie.toList ++ y.tie.toList) := by
  simp [Parts.sideDevices, Parts.sideIncomer, Parts.sideGeneratorTie, Parts.sideTie, Parts.sideSettings, scheme]

theorem derivedState_open {d : Option DeviceId} (h : ∀ e, d = some e → s.switching.devices[e].state = .open) :
    derivedState s d = .open := by
  cases d with
  | none => rfl
  | some d =>
    unfold derivedState
    dsimp only
    rw [h d rfl]
    exact ite_self _

/-- Settles O43: a side whose devices are all OPEN derives AWAIT_SOURCE, whose entry raises the flag. -/
theorem resetSideTakesTheDerivedState : Obligations.ResetSideTakesTheDerivedState := by
  intro t s live
  refine ⟨fun side out => ?_, fun i => ⟨fun barred => taking_judged _ _ live.1 (resetSideRequest_state barred) live.2,
    fun y serving scheme auto locked => ?_⟩⟩
  · refine taking_judged _ _ live.1 ?_ live.2
    unfold resetSideRequest
    rw [index?_none out]
  · intro ds
    have request := resetSideRequest_locked serving scheme auto locked
    refine ⟨fun ⟨d, mem, held⟩ => taking_judged _ _ live.1 (request.trans (if_pos ?_)) live.2, fun free => ⟨?_, fun opened => ?_⟩⟩
    · exact List.any_eq_true.mpr ⟨d, (sideDevices_scheme scheme).mpr mem, held⟩
    · refine (exec_resetSide ..).trans (taking_settled _ _ live.1 (request.trans (if_neg ?_)))
      rw [List.any_eq_true]
      rintro ⟨d, mem, held⟩
      rw [free d ((sideDevices_scheme scheme).mp mem)] at held
      cases held
    · have derived : deriveSide s.parts i = .awaitSource := by
        have each {d : Option DeviceId} (mem : ∀ e, d = some e → e ∈ ds) : derivedState s.parts d = .open :=
          derivedState_open fun e h => opened e (mem e h)
        unfold deriveSide
        rw [each (d := s.parts.sideIncomer i), each (d := s.parts.sideTie), each (d := s.parts.sideGeneratorTie i)]
        all_goals exact fun e h => (sideDevices_scheme scheme).mp (by simp [Parts.sideDevices, h])
      have taken : takeDerived i s.parts = enterSide i .awaitSource s.parts := by
        unfold takeDerived
        rw [derived]
        rfl
      obtain ⟨ns, told⟩ := onSide_form i (takeDerived i) s.parts
      obtain ⟨ms, m, entered⟩ := enterSide_form i .awaitSource s.parts
      rw [told, taken]
      refine ⟨congrArg SideLive.state (enterSide_side i .awaitSource s.parts), ?_⟩
      rw [entered]
      have was : (s.parts.side i).state ≠ .awaitSource := by
        have side : (s.parts.side i).state = .locked := locked
        rw [side]
        decide
      exact (congrArg (_ || ·) (decide_eq_true (.inr ⟨rfl, was⟩))).trans (Bool.or_true _)

end Sys2Proof.Machine

/-!
PROOF. What the reviews that follow a change of an element (R115) leave of an element whose record is VALID, the updates of
elements (R91 to R93) and their timers (R99, R116).
-/

namespace Sys2Proof.Machine

variable {r s t : Parts} {e : ElementId} {h : Held ElementSettings}

/-! ## What the zone reviews leave (R115) -/

/-- The fields that a review of the zones leaves. -/
def Parts.beyondZones (s : Parts) :=
  (s.switching, s.lockouts, s.store.lockouts, s.store.devices, s.topology,
    (s.protection.watch, s.protection.testStanding, s.protection.guards))

/-- An element's zone timer is all of it that a review may write, and that only where the element is picked up or the timer
runs. -/
structure Parts.Reviewed (e : ElementId) (s t : Parts) : Prop where
  beyond : t.beyondZones = s.beyondZones
  record : t.store.elements[e] = s.store.elements[e]
  live : ∃ z, t.protection.elements[e] = { s.protection.elements[e] with zone := z } ∧
    (s.protection.elements[e].state = .pickedUp ∨ s.protection.elements[e].zone.isRunning = true ∨
      z = s.protection.elements[e].zone)

theorem Parts.Reviewed.refl : s.Reviewed e s := ⟨rfl, rfl, _, rfl, .inr (.inr rfl)⟩

/-- An update of fields that a review may write, other than the element. -/
theorem Parts.Reviewed.frame (k : r.Reviewed e s) (beyond : t.beyondZones = s.beyondZones)
    (record : t.store.elements[e] = s.store.elements[e])
    (live : t.protection.elements[e] = s.protection.elements[e]) : r.Reviewed e t :=
  ⟨beyond.trans k.beyond, record.trans k.record, by rw [live]; exact k.live⟩

theorem Parts.setElement_beyond (s : Parts) (e : ElementId) (x : ElementLive) :
    (s.setElement e x).beyondZones = s.beyondZones := by
  simp only [Parts.beyondZones, Parts.setElement_switching, Parts.setElement_lockouts, Parts.setElement_store,
    Parts.setElement_topology, Parts.setElement_protection]

theorem Parts.setElement_self (s : Parts) (e : ElementId) (x : ElementLive) :
    (s.setElement e x).protection.elements[e] = x := by
  rw [Parts.setElement_protection]
  exact getElem_set_fin_self _ _ _

theorem Parts.Reviewed.setOther (k : r.Reviewed e s) {x : ElementId} (ne : x ≠ e) (v : ElementLive) :
    r.Reviewed e (s.setElement x v) := by
  refine k.frame (s.setElement_beyond x v) (by rw [Parts.setElement_store]) ?_
  rw [Parts.setElement_protection]
  exact getElem_set_fin_ne _ _ _ _ ne

/-- The zone timer of an element picked up, or one that runs, is written. -/
theorem Parts.Reviewed.setZone (k : r.Reviewed e s) {x : ElementId} (z : Timer)
    (may : s.protection.elements[x].state = .pickedUp ∨ s.protection.elements[x].zone.isRunning = true) :
    r.Reviewed e (s.setElement x { s.protection.elements[x] with zone := z }) := by
  by_cases ne : x = e
  · subst ne
    obtain ⟨w, live, was⟩ := k.live
    refine ⟨(s.setElement_beyond x _).trans k.beyond, by rw [Parts.setElement_store]; exact k.record, z, ?_, ?_⟩
    · rw [Parts.setElement_self, live]
    · rw [live] at may
      rcases may with up | runs
      · exact .inl up
      · rcases was with up | ran | same
        · exact .inl up
        · exact .inr (.inl ran)
        · exact .inr (.inl (by rw [← same]; exact runs))
  · exact k.setOther ne _

theorem reviewGuardOf_reviewed (k : r.Reviewed e s) (x : ElementId) : r.Reviewed e (reviewGuardOf x s) := by
  refine k.frame ?_ ?_ (by rw [reviewGuardOf_elements])
  all_goals
    unfold reviewGuardOf reviewGuard
    repeat' split
    all_goals rfl

theorem damageElement_reviewed (k : r.Reviewed e s) {x : ElementId} (ne : x ≠ e) :
    r.Reviewed e (damageElement x s) := by
  unfold damageElement
  dsimp only
  generalize ElementLive.mk _ _ _ _ _ = v
  refine reviewGuardOf_reviewed ((k.setOther ne v).frame ?_ ?_ ?_) x <;> rfl

theorem Parts.putElement_reviewed (k : r.Reviewed e s) {x : ElementId} (ne : x ≠ e) (v : Option (Held ElementSettings)) :
    r.Reviewed e (s.putElement x v) :=
  k.frame rfl (getElem_set_fin_ne _ _ _ _ ne) rfl

/-- A review reads no record that is VALID but as it stands. -/
theorem reviewZone_reviewed (stored : r.store.elements[e] = some h) (valid : h.valid) {n : Nat} {x : ElementId}
    (k : r.Reviewed e s) : r.Reviewed e (reviewZone n x s) := by
  induction n generalizing s x with
  | zero => exact k
  | succ n ih =>
    unfold reviewZone
    dsimp only
    split
    · split
      next runs => exact k.setZone _ (.inr runs)
      · exact k
    split
    · exact k
    split
    · exact k
    next wants _ _ =>
      have up : s.protection.elements[x].state = .pickedUp := by
        simp only [Bool.not_eq_true', Bool.not_eq_false, Bool.and_eq_true, beq_iff_eq] at wants
        exact wants.1
      by_cases ne : x = e
      · subst ne
        have here : s.store.elements[x] = some h := k.record.trans stored
        simp only [here, useHeld_valid h _ _ _ s valid]
        split
        · exact k.setZone _ (.inl up)
        · exact k
      · have falls : ∀ {u : Parts}, r.Reviewed e u → r.Reviewed e (match u.protection.upstream[x] with
            | some y => reviewZone n y (damageElement x u)
            | none => damageElement x u) := fun k => by
          split
          · exact ih (damageElement_reviewed k ne)
          · exact damageElement_reviewed k ne
        have read := useHeld_preserves (P := fun u => r.Reviewed e u) (o := s.store.elements[x])
          (put := fun h s => s.putElement x (some h)) (i := elementIndex x)
          (fun _ k => Parts.putElement_reviewed k ne _) (fun k => k.frame rfl rfl rfl) falls k
        split
        · exact read.setOther ne _
        · exact read

theorem reviewUpstream_reviewed (stored : r.store.elements[e] = some h) (valid : h.valid) {x : ElementId}
    (k : r.Reviewed e s) : r.Reviewed e (reviewUpstream x s) := by
  unfold reviewUpstream
  split
  · exact reviewZone_reviewed stored valid k
  · exact k

/-- A change of an element whose record is VALID leaves what was written, but for its zone timer. -/
theorem changeElement_reviewed (stored : s.store.elements[e] = some h) (valid : h.valid) (x : ElementLive) :
    (s.setElement e x).Reviewed e (changeElement e x s) := by
  have stored' : (s.setElement e x).store.elements[e] = some h := by rw [Parts.setElement_store]; exact stored
  unfold changeElement
  dsimp only
  split
  · exact reviewUpstream_reviewed stored' valid (reviewZone_reviewed stored' valid .refl)
  · exact .refl

theorem changeElement_live (stored : s.store.elements[e] = some h) (valid : h.valid) (x : ElementLive) :
    ∃ z, (changeElement e x s).protection.elements[e] = { x with zone := z } ∧
      (x.state = .pickedUp ∨ x.zone.isRunning = true ∨ z = x.zone) := by
  obtain ⟨z, live, was⟩ := (changeElement_reviewed stored valid x).live
  rw [Parts.setElement_self] at live was
  exact ⟨z, live, was⟩

end Sys2Proof.Machine

/-!
PROOF. What a placement leaves (R62, R63): the blocks beyond the Lockout Table, and the locked standing of every device it
does not name.
-/

namespace Sys2Proof.Machine

variable {r s t : Parts} {kd : LockoutKind} {o : LockoutOrigin} {ds : List DeviceId}

/-- The Lockout Table, its records, the hold reasons, the attention block and the notices written. -/
def Parts.relocked (s : Parts) (records : Vector (Option (Held LockoutSettings)) 32) (table : LockoutTable) (hold : HoldSet)
    (a : Attention) (ns : List Notice) : Parts :=
  { s with store.lockouts := records, lockouts := table, service.hold := hold, attention := a, notices := ns }

/-- What a placement of some devices may do before its aborts. -/
structure Parts.Places (ds : List DeviceId) (s t : Parts) : Prop where
  form : ∃ records table hold a ns, t = s.relocked records table hold a ns
  locks : ∀ x ∉ ds, t.isLocked x = true → s.isLocked x = true
  alerts : s.Alerts t

theorem Parts.Places.refl : s.Places ds s := ⟨⟨_, _, _, _, _, rfl⟩, fun _ _ => id, .refl⟩

theorem Parts.Places.trans (k : r.Places ds s) (l : s.Places ds t) : r.Places ds t := by
  obtain ⟨_, _, _, _, _, form⟩ := k.form
  obtain ⟨_, _, _, _, _, form'⟩ := l.form
  exact ⟨⟨_, _, _, _, _, by rw [form', form]; rfl⟩, fun x out => k.locks x out ∘ l.locks x out,
    k.alerts.trans l.alerts⟩

/-- An update that leaves the Lockout Table. -/
theorem Parts.Places.same (form : ∃ records hold a ns, t = s.relocked records s.lockouts hold a ns) (alerts : s.Alerts t) :
    s.Places ds t := by
  obtain ⟨records, hold, a, ns, form⟩ := form
  exact ⟨⟨records, _, hold, a, ns, form⟩, fun x _ locked => by rw [form] at locked; exact locked, alerts⟩

theorem raise_places (f : AttentionFlag) : s.Places ds (s.raise f) := .same ⟨_, _, _, _, rfl⟩ (raise_alerts f)

theorem sendAll_places (ns : List Notice) : s.Places ds (s.sendAll ns) := .same ⟨_, _, _, _, rfl⟩ (.of_eq rfl)

theorem addHold_places (x : HoldReason) : s.Places ds (s.addHold x) := by
  unfold Parts.addHold
  split
  · exact .refl
  · exact .same ⟨_, _, _, _, rfl⟩ (Parts.Alerts.trans (s := { s with service.hold := s.service.hold.put x true })
      (.of_eq rfl) (raise_alerts .hold))

theorem putLockout_places (k : SlotId) (v : Option (Held LockoutSettings)) :
    s.Places ds ((s.putLockout k v).mark (lockoutIndex k)) :=
  .same ⟨_, _, _, _, rfl⟩ (Parts.Alerts.trans (s := s.putLockout k v) (.of_eq rfl) (mark_alerts _))

theorem countOut_places (es : List DeviceId) : s.Places ds (countOut es s) := by
  refine ⟨⟨_, _, _, _, _, rfl⟩, fun x _ locked => ?_, .of_eq rfl⟩
  by_contra free
  rw [countOut_isLocked (Bool.eq_false_iff.mpr free)] at locked
  cases locked

/-- Devices counted in lock no other. -/
theorem countIn_places {es : List DeviceId} (nodup : es.Nodup) (sub : ∀ d ∈ es, d ∈ ds) : s.Places ds (countIn es s) := by
  refine ⟨⟨_, _, _, _, _, rfl⟩, fun x out locked => ?_, .of_eq rfl⟩
  have apart : es.contains x = false := Bool.eq_false_iff.mpr fun mem => out (sub x (List.contains_iff_mem.mp mem))
  have cover : (countIn es s).lockouts.cover[x] = s.lockouts.cover[x] := by rw [countIn_cover nodup, apart]; rfl
  simp only [Parts.isLocked, cover] at locked
  exact locked

theorem sendLockoutNotices_places (before : Parts) : s.Places ds (sendLockoutNotices before s) := by
  rw [sendLockoutNotices_eq]
  exact sendAll_places _

theorem lockoutDamaged_places (k : SlotId) : s.Places ds (lockoutDamaged k s) := by
  unfold lockoutDamaged
  split
  · exact ((countOut_places _).trans (addHold_places _)).trans ((raise_places _).trans (sendLockoutNotices_places _))
  · exact .refl

theorem useLockout_places (k : SlotId) : s.Places ds (useLockout k s).1 :=
  useHeld_preserves (P := fun u => s.Places ds u)
    (fun _ p => p.trans (.same ⟨_, _, _, _, rfl⟩ (.of_eq rfl)))
    (fun p => p.trans (.same ⟨_, _, _, _, rfl⟩ ((raise_alerts _).trans (mark_alerts _))))
    (fun p => p.trans (lockoutDamaged_places k)) .refl

theorem foldl_places {α : Type} {f : Parts → α → Parts} {l : List α} (step : ∀ u : Parts, ∀ a ∈ l, u.Places ds (f u a)) :
    s.Places ds (l.foldl f s) := by
  induction l generalizing s with
  | nil => exact .refl
  | cons a l ih =>
    exact (step s a List.mem_cons_self).trans (ih fun u b mem => step u b (List.mem_cons_of_mem a mem))

theorem readTargets_places : s.Places ds (readTargets kd o s) :=
  foldl_places fun u k _ => by
    split
    · exact useLockout_places k
    · exact .refl

theorem mergeDevice_places {d : DeviceId} (mem : d ∈ ds) : s.Places ds (mergeDevice kd o d s).1 := by
  have added (k : SlotId) (es : List DeviceId) : s.Places ds (countIn [d] (rewriteSet k es s)) := by
    refine Parts.Places.trans (s := rewriteSet k es s) ?_ (countIn_places (List.nodup_singleton d) fun x hx => ?_)
    · unfold rewriteSet
      split
      · exact putLockout_places k _
      · exact .refl
    · exact List.mem_singleton.mp hx ▸ mem
  unfold mergeDevice
  dsimp only
  split
  · exact .refl
  · split
    · exact added _ _
    · exact .refl

theorem mergeAll_places {es : List DeviceId} (sub : ∀ d ∈ es, d ∈ ds) : s.Places ds (mergeAll kd o es s).1 := by
  induction es generalizing s with
  | nil => exact .refl
  | cons d es ih =>
    exact (mergeDevice_places (sub d List.mem_cons_self)).trans (ih fun x hx => sub x (List.mem_cons_of_mem d hx))

theorem placeNew_places {reason n : Nat} {es : List DeviceId} (nodup : es.Nodup) (sub : ∀ d ∈ es, d ∈ ds) :
    s.Places ds (placeNew kd o reason n es s).1 := by
  induction n generalizing s es with
  | zero => exact .refl
  | succ n ih =>
    unfold placeNew
    split
    · exact .refl
    · split
      next k _ =>
        have taken := countIn_places (s := (s.putLockout k (some (Held.fresh
          { kind := kd, origin := o, devices := es.take 8, reason := reason }))).mark (lockoutIndex k))
          (nodup.sublist (List.take_sublist 8 es)) fun d hd => sub d (List.mem_of_mem_take hd)
        exact ((putLockout_places k _).trans taken).trans
          (ih (nodup.sublist (List.drop_sublist 8 es)) fun d hd => sub d (List.mem_of_mem_drop hd))
      · exact .refl

theorem makePending_places {reason : Nat} {d : DeviceId} (mem : d ∈ ds) : s.Places ds (makePending kd o reason s d) := by
  unfold makePending
  split
  · exact .refl
  · let e : PendingEntry := { device := d, kind := kd, origin := o, reason := reason }
    refine Parts.Places.trans (s := { s with lockouts.pending := insertEntry e s.lockouts.pending }) ?_
      ((raise_places _).trans (addHold_places _))
    refine ⟨⟨_, _, _, _, _, rfl⟩, fun x out locked => ?_, .of_eq rfl⟩
    have other := listed_isLocked (s := s) (e := e) (fs := s.attention.flags) (hs := s.service.hold) (d := x)
      fun same : x = d => out (same ▸ mem)
    exact other ▸ locked

/-- A placement is what it may do, and then the aborts. -/
theorem placeLockouts_places {reason : Nat} (nodup : ds.Nodup) (s : Parts) :
    ∃ u, s.Places ds u ∧ placeLockouts kd o reason ds s = abortLocked u := by
  unfold placeLockouts
  dsimp only
  obtain ⟨-, sub⟩ := mergeAll_locks (ds := ds) (readTargets_read (kd := kd) (o := o) (s := s))
  obtain ⟨-, sub'⟩ := placeNew_locks (s := (mergeAll kd o ds (readTargets kd o s)).1) (kd := kd) (o := o)
    (reason := reason) (n := 32) (nodup.sublist sub)
  have read : s.Places ds (readTargets kd o s) := readTargets_places
  generalize readTargets kd o s = v at sub sub' read ⊢
  have merged := read.trans (mergeAll_places (kd := kd) (o := o) fun _ => id)
  have placed := merged.trans (placeNew_places (kd := kd) (o := o) (reason := reason) (n := 32) (nodup.sublist sub)
    fun d hd => sub.subset hd)
  have waits := placed.trans (foldl_places fun u d hd =>
    makePending_places (kd := kd) (o := o) (reason := reason) (sub.subset (sub'.subset hd)))
  exact ⟨_, waits.trans (sendLockoutNotices_places v), rfl⟩

/-- A placement from the Protection Unit raises the LOCKOUT flag first (R62). -/
theorem placeAutomatic_places (nodup : ds.Nodup) (some_ : ds ≠ []) (s : Parts) :
    ∃ u, (s.raise .lockout).Places ds u ∧ placeAutomatic kd o ds s = abortLocked u := by
  have filled : ¬ ds.isEmpty = true := by simpa using some_
  obtain ⟨u, places, form⟩ := placeLockouts_places (kd := kd) (o := o) (reason := 0) nodup (s.raise .lockout)
  exact ⟨u, places, (if_neg filled).trans form⟩

end Sys2Proof.Machine

/-!
PROOF. The actions of a trip (R94), the updates of an element (R91 to R93) and its timers (R99, R116).
-/

namespace Sys2Proof.Machine

variable {s : Parts} {e : ElementId} {h : Held ElementSettings}

/-! ## What the actions of a trip leave (R94) -/

/-- What the opens and placements of a trip leave of the Protection Unit and of the devices that are not CLOSING. -/
structure Parts.Trips (s t : Parts) : Prop where
  protection : t.protection = s.protection
  still : ∀ d : DeviceId, s.switching.devices[d].state ≠ .closing → t.switching.devices[d] = s.switching.devices[d]
  alerts : s.Alerts t

theorem Parts.Trips.refl : s.Trips s := ⟨rfl, fun _ _ => rfl, .refl⟩

theorem Parts.Trips.trans {r t : Parts} (k : r.Trips s) (l : s.Trips t) : r.Trips t :=
  ⟨l.protection.trans k.protection, fun d quiet => by
    have same := k.still d quiet
    rw [← same]
    exact l.still d (by rw [same]; exact quiet), k.alerts.trans l.alerts⟩

theorem abortLocked_trips (s : Parts) : s.Trips (abortLocked s) := by
  obtain ⟨_, _, _, _, form⟩ := abortLocked_operated s
  exact ⟨by rw [form]; rfl, fun d => abortLocked_kept, abortLocked_alerts s⟩

theorem Parts.Places.trips {ds : List DeviceId} {t : Parts} (k : s.Places ds t) : s.Trips t := by
  obtain ⟨_, _, _, _, _, form⟩ := k.form
  exact ⟨by rw [form]; rfl, fun d _ => by rw [form]; rfl, k.alerts⟩

theorem placeAutomatic_trips {kd : LockoutKind} {o : LockoutOrigin} {ds : List DeviceId} (nodup : ds.Nodup) (s : Parts) :
    s.Trips (placeAutomatic kd o ds s) := by
  have raised : s.Trips (s.raise .lockout) := (raise_places (ds := ds) .lockout).trips
  by_cases empty : ds = []
  · subst empty
    exact raised
  · obtain ⟨u, places, form⟩ := placeAutomatic_places (kd := kd) (o := o) nodup empty s
    rw [form]
    exact (raised.trans places.trips).trans (abortLocked_trips u)

/-- The placements of an action set, after its trip. -/
theorem carryOut_trips (e : ElementId) (x : ElementSettings) (s : Parts) :
    (if x.actions.trip then sendOpen x.guarded .protection s else s).Trips (carryOut e x s) := by
  unfold carryOut
  dsimp only
  generalize (if x.actions.trip then sendOpen x.guarded .protection s else s) = u
  have locked : u.Trips (if x.actions.lockout then placeAutomatic .protection (.element e) [x.guarded] u else u) := by
    split
    · exact placeAutomatic_trips (List.nodup_singleton _) u
    · exact .refl
  generalize (if x.actions.lockout then placeAutomatic .protection (.element e) [x.guarded] u else u) = v at locked ⊢
  split
  · exact locked.trans (placeAutomatic_trips (busLockoutList_nodup _ _) _)
  · exact locked

theorem carryOut_protection (e : ElementId) (x : ElementSettings) (s : Parts) :
    (carryOut e x s).protection = s.protection := by
  rw [(carryOut_trips e x s).protection]
  split
  · obtain ⟨_, _, _, _, form⟩ := sendOpen_operated x.guarded .protection s
    rw [form]
    rfl
  · rfl

theorem carryOut_alerts (e : ElementId) (x : ElementSettings) (s : Parts) : s.Alerts (carryOut e x s) := by
  refine Parts.Alerts.trans ?_ (carryOut_trips e x s).alerts
  split
  · exact sendOpen_alerts _ _ _
  · exact .refl

/-! ## An entry into TRIPPED (R94, R95) -/

/-- An element as its entry into TRIPPED writes it. -/
def ElementLive.tripping (v : ElementLive) : ElementLive :=
  { v with state := .tripped, accumulator := Config.accumulatorLimit, zone := .stopped, target := true }

/-- The blocks with an element TRIPPED, before its actions. -/
def Parts.tripped (s : Parts) (e : ElementId) : Parts :=
  Parts.raise (changeElement e s.protection.elements[e].tripping s) .protection

theorem tripped_beyond (stored : s.store.elements[e] = some h) (valid : h.valid) :
    (s.tripped e).beyondZones = s.beyondZones :=
  (changeElement_reviewed stored valid _).beyond.trans (s.setElement_beyond e _)

theorem tripped_live (stored : s.store.elements[e] = some h) (valid : h.valid) :
    (s.tripped e).protection.elements[e] = s.protection.elements[e].tripping := by
  obtain ⟨z, live, was⟩ := changeElement_live stored valid s.protection.elements[e].tripping
  rcases was with up | runs | same
  · cases up
  · cases runs
  · rw [same] at live
    exact live

/-- Under a BLOCKED test nothing is done but the entry; else the actions of the settings are carried out. -/
theorem tripElement_eq (stored : s.store.elements[e] = some h) (valid : h.valid) : tripElement e s =
    if (s.protection.watch[e]).bind (fun p => s.protection.testStanding[p]) = some .blocked then s.tripped e
    else carryOut e h.settings (s.tripped e) := by
  have beyond := tripped_beyond stored valid
  simp only [Parts.beyondZones, Prod.mk.injEq] at beyond
  obtain ⟨-, -, -, -, -, watch, standing, -⟩ := beyond
  have stored' : (s.tripped e).store.elements[e] = some h :=
    (changeElement_reviewed stored valid _).record.trans (by rw [Parts.setElement_store]; exact stored)
  have form : tripElement e s =
      if ((s.tripped e).protection.watch[e]).bind (fun p => (s.tripped e).protection.testStanding[p]) = some .blocked then
        s.tripped e
      else match useElement e (s.tripped e) with
        | (t, some x) => carryOut e x t
        | (t, none) => t := rfl
  rw [form, watch, standing, useElement_valid e h _ stored' valid]

theorem tripElement_live (stored : s.store.elements[e] = some h) (valid : h.valid) :
    (tripElement e s).protection.elements[e] = s.protection.elements[e].tripping := by
  rw [tripElement_eq stored valid]
  split
  · exact tripped_live stored valid
  · exact (congrArg (fun p : ProtectionUnit => p.elements[e]) (carryOut_protection ..)).trans (tripped_live stored valid)

theorem tripElement_flag (stored : s.store.elements[e] = some h) (valid : h.valid) :
    (tripElement e s).attention.flags.protection = true := by
  have raised : (s.tripped e).attention.flags.has .protection = true := raise_has .protection
  rw [tripElement_eq stored valid]
  split
  · exact raised
  · exact (carryOut_alerts e _ _).flags .protection raised

/-! ## Updates (R91 to R93) -/

theorem stopBlind_store (e : ElementId) (s : Parts) : (stopBlind e s).store = s.store := by
  unfold stopBlind reviewGuardOf reviewGuard
  dsimp only
  repeat' split
  all_goals exact Parts.setElement_store ..

theorem stopBlind_live (e : ElementId) (s : Parts) :
    (stopBlind e s).protection.elements[e] = { s.protection.elements[e] with blind := .stopped } := by
  unfold stopBlind
  dsimp only
  split
  · exact (congrArg (fun v : Vector ElementLive 64 => v[e]) (reviewGuardOf_elements e _)).trans (Parts.setElement_self ..)
  · exact Parts.setElement_self ..

theorem updateElement_live {v : PointValues} {delta : Nat} (stored : s.store.elements[e] = some h) (valid : h.valid)
    (sound : s.protection.elements[e].state ≠ .damaged) (enabled : s.protection.elements[e].state ≠ .disabled) :
    updateElement v delta s e = judgeUpdate e h.settings v delta (stopBlind e s) := by
  unfold updateElement
  split
  next bad => exact absurd bad sound
  next off => exact absurd off enabled
  · rw [useElement_valid e h s stored valid]

/-- Settles O39: an update judged on the settings writes the element once, and the reviews after it leave all but its zone
timer. -/
theorem updatesMoveTheAccumulator : Obligations.UpdatesMoveTheAccumulator := by
  intro v delta e h s stored valid o x n sound enabled
  let t := stopBlind e s
  have stored' : t.store.elements[e] = some h := by rw [stopBlind_store]; exact stored
  have live : t.protection.elements[e] = { o with blind := .stopped } := stopBlind_live e s
  have judged : n = (judgeUpdate e x v delta t).protection.elements[e] := by
    simp only [n, updateElement_live stored valid sound enabled, t, x]
  have changes (y : ElementLive) (u : Parts) (eq : u = changeElement e y t) :
      ∃ z, u.protection.elements[e] = { y with zone := z } := by
    obtain ⟨z, live, -⟩ := changeElement_live stored' valid y
    exact ⟨z, eq ▸ live⟩
  by_cases up : pickedUp x v = true
  · by_cases tripped : o.state = .tripped
    · have kept : judgeUpdate e x v delta t = t := by
        unfold judgeUpdate
        dsimp only
        rw [if_pos up, live, if_pos tripped]
      rw [judged, kept, live]
      exact ⟨rfl, fun _ other => absurd tripped other, fun _ _ => ⟨tripped, rfl⟩, fun down => by rw [up] at down; cases down⟩
    · let acc := o.accumulator + max 1 (delta * 1048576 / operateTime x (multiple x v))
      have step : judgeUpdate e x v delta t =
          if min acc 1048576 = 1048576 then tripElement e t
          else changeElement e { o with blind := .stopped, state := .pickedUp, accumulator := min acc 1048576 } t := by
        unfold judgeUpdate
        dsimp only
        rw [if_pos up, live, if_neg tripped]
        rfl
      by_cases full : 1048576 ≤ acc
      · have now : n = { o with
            blind := .stopped, state := .tripped, accumulator := 1048576, zone := .stopped, target := true } := by
          rw [judged, step, if_pos (Nat.min_eq_right full), tripElement_live stored' valid, live]
          rfl
        rw [now]
        exact ⟨rfl, fun _ _ => ⟨fun below => absurd full (Nat.not_le.mpr below), fun _ => ⟨rfl, rfl, rfl⟩⟩,
          fun _ other => absurd other tripped, fun down => by rw [up] at down; cases down⟩
      · have below : acc < 1048576 := Nat.not_le.mp full
        have cap : min acc 1048576 = acc := Nat.min_eq_left below.le
        rw [cap, if_neg below.ne] at step
        obtain ⟨z, now⟩ := changes _ _ step
        rw [judged, now]
        exact ⟨rfl, fun _ _ => ⟨fun _ => ⟨rfl, rfl, rfl⟩, fun other => absurd other full⟩,
          fun _ other => absurd other tripped, fun down => by rw [up] at down; cases down⟩
  · have down : pickedUp x v = false := Bool.eq_false_iff.mpr up
    by_cases tripped : o.state = .tripped
    · have step : judgeUpdate e x v delta t =
          changeElement e { o with blind := .stopped, state := .idle, accumulator := 0 } t := by
        unfold judgeUpdate
        dsimp only
        rw [if_neg up, live, if_pos tripped]
      obtain ⟨z, now⟩ := changes _ _ step
      rw [judged, now]
      exact ⟨rfl, fun other => absurd other up, fun other => absurd other up, fun _ => ⟨rfl, fun _ => ⟨rfl, rfl⟩,
        fun other => absurd tripped other⟩⟩
    · have step : judgeUpdate e x v delta t =
          changeElement e { o with
            blind := .stopped, state := if lowered x delta o.accumulator = 0 then .idle else .resetting
            accumulator := lowered x delta o.accumulator } t := by
        unfold judgeUpdate
        dsimp only
        rw [if_neg up, live, if_neg tripped]
      obtain ⟨z, now⟩ := changes _ _ step
      rw [judged, now]
      refine ⟨rfl, fun other => absurd other up, fun other => absurd other up, fun _ => ⟨rfl, fun reset => ?_,
        fun _ timed => ⟨?_, rfl⟩⟩⟩
      · have zero : lowered x delta o.accumulator = 0 := by
          unfold lowered
          rw [reset.resolve_left tripped]
        exact ⟨if_pos zero, zero⟩
      · change lowered x delta o.accumulator = _
        unfold lowered
        rw [timed]
        rfl

/-! ## The timers of an element (R99, R116) -/

/-- An event that sends no notice ends where it leaves the blocks. -/
theorem event_calm {g : Parts → Parts} {s : State} {u : Parts} (live : s.live) (done : g s.parts = u) (calm : u.calm) :
    event g s = .next { s with parts := u } := by
  rw [event_live _ _ live.1, done, State.settled_calm _ _ calm]

theorem exec_blindTimerExpiry (e : ElementId) (s : State) : exec (.blindTimerExpiry e) s = event (blindExpires e) s := rfl

theorem exec_zoneTimerExpiry (e : ElementId) (s : State) : exec (.zoneTimerExpiry e) s = event (zoneExpires e) s := rfl

/-- The write of a blind timer that expires. -/
theorem setElement_expired (runs : s.protection.elements[e].blind.isRunning = true) :
    s.setElement e { s.protection.elements[e] with blind := .ended } = { s with
      protection.elements := s.protection.elements.set e { s.protection.elements[e] with blind := .ended }
      attention.changed := s.attention.changed.set (elementIndex e) true } := by
  refine Parts.setElement_moved ?_
  have moves : blindMoved s.protection.elements[e].blind .ended = true := by
    unfold blindMoved
    rw [runs]
    rfl
  simp only [ElementLive.moved, moves, Bool.or_true, Bool.true_or]

/-- An element past its blind limit makes its device unprotected. -/
theorem isUnguarded_ended {d : DeviceId} (guard : s.protection.guards[e] = some d)
    (past : s.protection.elements[e].blind = .ended) : s.isUnguarded d = true :=
  List.any_eq_true.mpr ⟨e, List.mem_finRange e, by rw [guard, ElementLive.fails, past]; simp⟩

/-- Settles O41: a blind timer's end is the review of its device, a zone timer's an entry into TRIPPED. -/
theorem elementTimersExpire : Obligations.ElementTimersExpire := by
  intro e s live x standing
  refine ⟨fun still => event_idle live ?_, fun runs => ?_, fun still => event_idle live ?_, fun h runs stored valid => ?_⟩
  · unfold blindExpires
    dsimp only
    rw [if_neg (by rw [still]; decide)]
  · intro changed
    have expires : blindExpires e s.parts = reviewGuardOf e { s.parts with
        protection.elements := s.parts.protection.elements.set e { x with blind := .ended }
        attention.changed := changed } := by
      unfold blindExpires
      dsimp only
      rw [if_pos runs, setElement_expired runs]
    refine ⟨fun unguarded => ?_, fun d guard => ?_⟩
    · have done : blindExpires e s.parts = { s.parts with
          protection.elements := s.parts.protection.elements.set e { x with blind := .ended }
          attention.changed := changed } := by
        rw [expires]
        unfold reviewGuardOf
        rw [unguarded]
      exact event_calm live done ⟨live.2.1, live.2.2⟩
    · let u : Parts := { s.parts with
        protection.elements := s.parts.protection.elements.set e { x with blind := .ended }
        attention.changed := changed }
      have ends : u.isUnguarded d = true := isUnguarded_ended (e := e) guard
        (congrArg ElementLive.blind (getElem_set_fin_self s.parts.protection.elements e { x with blind := .ended }))
      have done : blindExpires e s.parts = { s.parts with
          protection.elements := s.parts.protection.elements.set e { x with blind := .ended }
          protection.unprotected := s.parts.protection.unprotected.set d true
          attention.changed := changed
          attention.flags.protection :=
            s.parts.attention.flags.protection || !s.parts.protection.unprotected[d] } := by
        have reviewed : blindExpires e s.parts = reviewGuard d u := by
          rw [expires]
          unfold reviewGuardOf
          rw [guard]
        rw [reviewed]
        unfold reviewGuard
        rw [ends]
        dsimp only
        cases was : s.parts.protection.unprotected[d] with
        | false =>
          rw [if_pos (by rfl), Bool.not_false, Bool.or_true]
          rfl
        | true =>
          rw [if_neg (by decide), Bool.not_true, Bool.or_false]
      exact event_calm live done ⟨live.2.1, live.2.2⟩
  · unfold zoneExpires
    rw [if_neg (by rw [still]; decide)]
  · have trips : zoneExpires e s.parts = tripElement e s.parts := if_pos runs
    refine ⟨tripElement e s.parts, ?_, tripElement_live stored valid, tripElement_flag stored valid, fun blocked => ?_,
      fun y acts trip closed hd hv => ?_⟩
    · rw [exec_zoneTimerExpiry, event_live _ _ live.1, trips]
    all_goals
      have beyond := tripped_beyond stored valid
      simp only [Parts.beyondZones, Prod.mk.injEq] at beyond
      obtain ⟨switching, table, records, devices, -⟩ := beyond
    · rw [tripElement_eq stored valid, if_pos blocked]
      exact ⟨switching, table, records⟩
    · rw [tripElement_eq stored valid, if_neg acts]
      have trips := carryOut_trips e h.settings (s.parts.tripped e)
      rw [if_pos trip] at trips
      have opened := sendOpen_trips (s := s.parts.tripped e) (d := h.settings.guarded) (r := .protection) rfl
        (.inl (by rw [switching]; exact closed)) (by rw [devices]; exact hd) hv
      rw [trips.still _ (by rw [opened]; nofun), opened, switching]
      unfold DeviceLive.openedBy
      rw [closed]
      rfl

end Sys2Proof.Machine

/-!
PROOF. Load blocks: what a shed step leaves (R159), the host's block requests (R165) and the restore timer (R163, R164).
-/

namespace Sys2Proof.Machine

variable {r s t : Parts} {l : BlockId} {d : DeviceId}

/-! ## Moves of a block -/

theorem setBlock_form (s : Parts) (l : BlockId) (x : BlockLive) :
    ∃ m, s.setBlock l x = { s with load.blocks := s.load.blocks.set l x, attention.changed := m } :=
  markIf_marks _ _ _

theorem mem_placed {p : BlockId → BlockId → Bool} {j : BlockId} {q : List BlockId} :
    j ∈ insertBy p l (q.filter (· != l)) ↔ j = l ∨ j ∈ q := by
  rw [(insertBy_perm p l _).mem_iff, List.mem_cons, List.mem_filter, bne_iff_ne]
  by_cases e : j = l <;> simp [e]

/-- A block that becomes SHED has the next sequence and a place in the queue. -/
theorem becomeShed_form (l : BlockId) (s : Parts) : ∃ q m, becomeShed l s = { s with
      load.shedCounter := s.load.shedCounter + 1
      load.blocks := s.load.blocks.set l { s.load.blocks[l] with
        state := .shed, shedSequence := some (s.load.shedCounter + 1), restorer := none }
      load.queue := q
      attention.changed := m
      notices := s.notices ++ [.restoreTrigger] } ∧
    ∀ j, j ∈ q ↔ j = l ∨ j ∈ s.load.queue := by
  obtain ⟨m, form⟩ := setBlock_form { s with load.shedCounter := s.load.shedCounter + 1 } l
    { s.load.blocks[l] with state := .shed, shedSequence := some (s.load.shedCounter + 1), restorer := none }
  refine ⟨_, m, ?_, fun j => mem_placed (p := queueBefore (Parts.setBlock
    { s with load.shedCounter := s.load.shedCounter + 1 } l { s.load.blocks[l] with
      state := .shed, shedSequence := some (s.load.shedCounter + 1), restorer := none }))⟩
  unfold becomeShed joinQueue placeInQueue
  dsimp only
  rw [form]
  rfl

/-- A block that becomes DARK or HELD leaves the queue. -/
theorem becomePlain_form (l : BlockId) (st : BlockState) (s : Parts) : ∃ m, becomePlain l st s = { s with
      load.blocks := s.load.blocks.set l { s.load.blocks[l] with state := st, shedSequence := none, restorer := none }
      load.queue := s.load.queue.filter (· != l)
      attention.changed := m } := by
  obtain ⟨m, form⟩ := setBlock_form s l { s.load.blocks[l] with state := st, shedSequence := none, restorer := none }
  exact ⟨m, by unfold becomePlain leaveQueue; rw [form]⟩

theorem not_mem_left (l : BlockId) (q : List BlockId) : l ∉ q.filter (· != l) := by
  rw [List.mem_filter]
  exact fun ⟨_, ne⟩ => bne_iff_ne.mp ne rfl

/-! ## What a shed step leaves (R159) -/

/-- The blocks that are not SERVED, their places in the queue, the devices that are not CLOSED, the service block and the
restore timer. -/
structure Parts.Sheds (s t : Parts) : Prop where
  blocks : ∀ l : BlockId, s.load.blocks[l].state ≠ .served → t.load.blocks[l] = s.load.blocks[l]
  queue : ∀ l : BlockId, s.load.blocks[l].state ≠ .served → (l ∈ t.load.queue ↔ l ∈ s.load.queue)
  devices : ∀ d : DeviceId, s.switching.devices[d].state ≠ .closed → t.switching.devices[d] = s.switching.devices[d]
  timer : t.load.restoreTimer = s.load.restoreTimer

theorem Parts.Sheds.refl : s.Sheds s := ⟨fun _ _ => rfl, fun _ _ => .rfl, fun _ _ => rfl, rfl⟩

theorem Parts.Sheds.trans (k : r.Sheds s) (m : s.Sheds t) : r.Sheds t := by
  have stays {l : BlockId} (h : r.load.blocks[l].state ≠ .served) : s.load.blocks[l].state ≠ .served := by
    rw [k.blocks l h]
    exact h
  refine ⟨fun l h => (m.blocks l (stays h)).trans (k.blocks l h), fun l h => (m.queue l (stays h)).trans (k.queue l h),
    fun d h => ?_, m.timer.trans k.timer⟩
  have same := k.devices d h
  rw [m.devices d (by rw [same]; exact h), same]

/-- An update of none of what a shed step leaves. -/
theorem Parts.Sheds.same (blocks : t.load.blocks = s.load.blocks) (queue : t.load.queue = s.load.queue)
    (devices : t.switching.devices = s.switching.devices) (timer : t.load.restoreTimer = s.load.restoreTimer) :
    s.Sheds t :=
  ⟨fun l _ => by rw [blocks], fun l _ => by rw [queue], fun d _ => by rw [devices], timer⟩

/-- A SERVED block whose feeder is CLOSED is the one that is shed. -/
theorem shedOne_sheds (may : mayShed s .served l = true) : s.Sheds (shedOne l s) := by
  unfold mayShed at may
  unfold shedOne
  cases feeder : s.feederOf l with
  | none => exact .refl
  | some d =>
    simp only [feeder, Bool.and_eq_true, beq_iff_eq] at may
    obtain ⟨⟨⟨served, -⟩, -⟩, closed⟩ := may
    obtain ⟨vs, ds, a, ns, opened⟩ := sendOpen_operated d .loadUnit s
    obtain ⟨q, m, form, mem⟩ := becomeShed_form l (sendOpen d .loadUnit s)
    have load : (sendOpen d .loadUnit s).load = s.load := by rw [opened]; rfl
    refine ⟨fun j h => ?_, fun j h => ?_, fun e h => ?_, ?_⟩
    · have ne : l ≠ j := fun e => h (e ▸ served)
      dsimp only
      rw [form]
      exact (getElem_set_fin_ne _ _ _ _ ne).trans (congrArg (fun x : LoadUnit => x.blocks[j]) load)
    · have ne : j ≠ l := fun e => h (e ▸ served)
      dsimp only
      rw [form]
      exact ((mem j).trans (or_iff_right ne)).trans (by rw [load])
    · have ne : d ≠ e := fun same => h (same ▸ closed)
      dsimp only
      rw [form]
      exact (sendOpen_other .loadUnit ne).device
    · dsimp only
      rw [form]
      have timer : (sendOpen d .loadUnit s).load.restoreTimer = s.load.restoreTimer := by rw [load]
      exact timer

theorem mem_sortBy {α : Type} {before : α → α → Bool} {x : α} {xs : List α} : x ∈ sortBy before xs ↔ x ∈ xs := by
  induction xs with
  | nil => rfl
  | cons y ys ih => rw [sortBy, (insertBy_perm _ y _).mem_iff, List.mem_cons, ih, List.mem_cons]

theorem shedLoop_sheds {i : Island} {capacity n : Nat} : s.Sheds (shedLoop i capacity n s) := by
  induction n generalizing s with
  | zero => exact .refl
  | succ n ih =>
    unfold shedLoop
    split
    · exact .refl
    · split
      next l rest found =>
        have mem : l ∈ victims s i := by rw [found]; exact List.mem_cons_self
        have may := (List.mem_filter.mp (mem_sortBy.mp mem)).2
        exact (shedOne_sheds may).trans (Parts.Sheds.trans (s := (shedOne l s).raise .load) (.same rfl rfl rfl rfl) ih)
      · exact .same rfl rfl rfl rfl

theorem shedStep_sheds {i : Island} : s.Sheds (shedStep i s) := by
  unfold shedStep
  split
  · exact shedLoop_sheds
  · exact .refl

theorem foldl_sheds {α : Type} {f : Parts → α → Parts} (step : ∀ (u : Parts) a, u.Sheds (f u a)) (l : List α) :
    s.Sheds (l.foldl f s) := by
  induction l generalizing s with
  | nil => exact .refl
  | cons a l ih => exact (step s a).trans ih

/-- The values worked out again, with the shed steps that follow. -/
theorem loadReview_sheds (s : Parts) : s.Sheds (loadReview s) := by
  unfold loadReview
  dsimp only
  have steps : s.Sheds ((s.topology.islands.filter (balanceMoved s)).foldl (fun s i => shedStep i s) s) :=
    foldl_sheds (fun _ _ => shedStep_sheds) _
  refine steps.trans ?_
  generalize (s.topology.islands.filter (balanceMoved s)).foldl (fun s i => shedStep i s) s = t
  unfold keepBalances
  split
  · exact .same rfl rfl rfl rfl
  · exact .same rfl rfl rfl rfl

theorem reviewMoved_sheds (before s : Parts) : s.Sheds (reviewMoved before s) := by
  unfold reviewMoved
  split
  · exact loadReview_sheds s
  · exact .refl

/-! ## A close that is accepted (R26) -/

theorem recompute_form (s : Parts) : ∃ is ns, recompute s = { s with topology.islands := is, notices := ns } := by
  unfold recompute
  dsimp only
  split
  · exact ⟨_, _, rfl⟩
  · exact ⟨_, _, rfl⟩

/-- The device is CLOSING for the requester, and the Load Unit and the service block are as they were. -/
theorem closeRequest_closes {q : Requester} {au : Authorisations} (h : (closeRequest d q au s).2 = .accepted) :
    let u := (closeRequest d q au s).1
    u.switching.devices[d].state = .closing ∧ u.switching.devices[d].owner = some q ∧ u.load = s.load ∧
      u.service = s.service := by
  obtain ⟨ds, a, read⟩ := useDevice_writes d s
  unfold closeRequest at h ⊢
  dsimp only at h ⊢
  split at h
  · cases h
  next serving =>
    rw [if_neg serving]
    generalize closeChain _ d q au _ = answer at h ⊢
    cases answer with
    | already => cases h
    | refused => cases h
    | accepted =>
      dsimp only
      rw [acceptClose_eq]
      dsimp only
      generalize he : Parts.setDevice _ d _ = u
      have device : u.switching.devices[d].state = .closing ∧ u.switching.devices[d].owner = some q := by
        rw [← he, Parts.setDevice_self]
        exact ⟨rfl, rfl⟩
      have kept : u.load = s.load ∧ u.service = s.service := by
        rw [← he, Parts.setDevice_load, Parts.setDevice_service, read]
        exact ⟨rfl, rfl⟩
      obtain ⟨is, ns, form⟩ := recompute_form { u with topology.conducting := u.topology.conducting.set d true }
      rw [form]
      exact ⟨device.1, device.2, kept.1, kept.2⟩

/-! ## Block requests (R165) -/

theorem exec_holdBlock (t : Byte) (n : Nat) (s : State) :
    exec (.holdBlock t n) s = taking 0x70 t (replying (blockRequest holdBlockJudge n)) s := rfl
theorem exec_releaseBlock (t : Byte) (n : Nat) (s : State) :
    exec (.releaseBlock t n) s = taking 0x71 t (replying (blockRequest releaseBlockJudge n)) s := rfl
theorem exec_shedBlock (t : Byte) (n : Nat) (s : State) :
    exec (.shedBlock t n) s = taking 0x72 t (replying (blockRequest shedBlockJudge n)) s := rfl
theorem exec_restoreBlock (t : Byte) (n : Nat) (s : State) :
    exec (.restoreBlock t n) s = taking 0x73 t (replying (blockRequest restoreBlockJudge n)) s := rfl

/-- A request whose owner replies, with the notices it sends taken. -/
theorem taking_replied (code : Nat) (t : Byte) {owner : Parts → Parts × Reply} {s : State} {u : Parts} {y : Reply}
    (h : s.inReset = false) (hj : owner s.parts = (u, y)) :
    taking code t (replying owner) s = .next (s.answers code t y.code y.body (settle u)) := by
  rw [taking_live _ _ _ _ h]
  simp only [replying, hj]

/-- A request turned away answers and leaves the state. -/
theorem taking_turned (code : Nat) (t : Byte) {owner : Parts → Parts × Reply} {s : State} {a : Status} (live : s.live)
    (hj : owner s.parts = (s.parts, .status a)) : taking code t (replying owner) s = .next (s.answers code t a [] s.parts) := by
  rw [taking_replied code t live.1 hj, settle_calm _ live.2]
  rfl

theorem blockRequest_badIndex {judge : BlockId → BlockState → Parts → Parts × Reply} {n : Nat} (out : 24 ≤ n) :
    blockRequest judge n s = (s, .status .badIndex) := by
  unfold blockRequest
  rw [index?_none out]

theorem blockRequest_out {judge : BlockId → BlockState → Parts → Parts × Reply}
    (out : s.load.blocks[l].state = .unset ∨ s.load.blocks[l].state = .retired) :
    blockRequest judge l.val s = (s, .status .state) := by
  unfold blockRequest
  rw [index?_val]
  exact if_pos out

theorem blockRequest_judged {judge : BlockId → BlockState → Parts → Parts × Reply} {st : BlockState}
    (state : s.load.blocks[l].state = st) (set : st ≠ .unset) (live : st ≠ .retired) :
    blockRequest judge l.val s = judge l st s := by
  unfold blockRequest
  rw [index?_val]
  subst state
  exact if_neg (not_or.mpr ⟨set, live⟩)

/-- Settles O49: each request is one move of the block, and the review after it leaves a block that is not SERVED. -/
theorem blockRequestsMoveABlock : Obligations.BlockRequestsMoveABlock := by
  intro t s live
  refine ⟨fun n out => ⟨taking_turned _ _ live (blockRequest_badIndex out), taking_turned _ _ live (blockRequest_badIndex out),
    taking_turned _ _ live (blockRequest_badIndex out), taking_turned _ _ live (blockRequest_badIndex out)⟩, fun l => ?_⟩
  intro x
  refine ⟨fun out => ⟨taking_turned _ _ live (blockRequest_out out), taking_turned _ _ live (blockRequest_out out),
    taking_turned _ _ live (blockRequest_out out), taking_turned _ _ live (blockRequest_out out)⟩, fun shed => ?_,
    fun d held sound feeder seen => ?_, fun d h state remote feeder closed stored valid => ?_,
    fun d state feeder accepted => ?_⟩
  · obtain ⟨m, form⟩ := becomePlain_form l .held s.parts
    let p := becomePlain l .held s.parts
    have block : p.load.blocks[l] = { x with state := .held, shedSequence := none, restorer := none } := by
      simp only [p]
      rw [form]
      exact getElem_set_fin_self _ _ _
    have review := loadReview_sheds p
    have idle : p.load.blocks[l].state ≠ .served := by rw [block]; nofun
    refine ⟨loadReview p, (exec_holdBlock ..).trans (taking_replied (y := .status .ok) _ _ live.1 (blockRequest_judged shed nofun nofun)),
      (review.blocks l idle).trans block, fun mem => not_mem_left l s.parts.load.queue ?_⟩
    have mem := (review.queue l idle).mp mem
    simp only [p] at mem
    rwa [form] at mem
  · obtain ⟨q, m, form, mem⟩ := becomeShed_form l s.parts
    let p := becomeShed l s.parts
    have block : p.load.blocks[l] = { x with
        state := .shed, shedSequence := some (s.parts.load.shedCounter + 1), restorer := none } := by
      simp only [p]
      rw [form]
      exact getElem_set_fin_self _ _ _
    have review := loadReview_sheds p
    have idle : p.load.blocks[l].state ≠ .served := by rw [block]; nofun
    have judged : releaseBlockJudge l .held s.parts = (loadReview p, .status .ok) := by
      simp only [releaseBlockJudge, sound, feeder, seen, Bool.false_eq_true, if_false, if_true, p]
    refine ⟨loadReview p, (exec_releaseBlock ..).trans
      (taking_replied (y := .status .ok) _ _ live.1 ((blockRequest_judged held nofun nofun).trans judged)),
      (review.blocks l idle).trans block, (review.queue l idle).mpr ?_⟩
    simp only [p]
    rw [form]
    exact (mem l).mpr (.inl rfl)
  · have opened : openRequest d .loadUnit s.parts =
        (startOpening s.parts d .loadUnit h.settings.openLimit, .accepted) := by
      rw [openRequest_starts (r := .loadUnit) ?_ ?_ ?_ ?_ (fun e => by cases e) stored valid]
      · rfl
      all_goals rw [closed]; simp
    let v := startOpening s.parts d .loadUnit h.settings.openLimit
    have quiet : s.parts.switching.devices[d].state ≠ .closing := by rw [closed]; nofun
    have started := startOpening_quiet (r := .loadUnit) h.settings.openLimit quiet
    have load : v.load = s.parts.load := by
      simp only [v]
      rw [started]
      exact Parts.setDevice_load ..
    have device : v.switching.devices[d] = s.parts.switching.devices[d].openedBy .loadUnit h.settings.openLimit := by
      simp only [v]
      rw [started]
      exact Parts.setDevice_self ..
    obtain ⟨q, m, form, mem⟩ := becomeShed_form l v
    let p := becomeShed l v
    have block : p.load.blocks[l] = { v.load.blocks[l] with
        state := .shed, shedSequence := some (v.load.shedCounter + 1), restorer := none } := by
      simp only [p]
      rw [form]
      exact getElem_set_fin_self _ _ _
    have review := loadReview_sheds p
    have idle : p.load.blocks[l].state ≠ .served := by rw [block]; nofun
    have kept : p.switching.devices[d] = v.switching.devices[d] := by
      simp only [p]
      rw [form]
    have judged : blockRequest shedBlockJudge l.val s.parts = (loadReview p, .answer .accepted) := by
      have free : ¬ s.parts.switching.authority = .localControl := by rw [remote]; nofun
      rcases state with st | st
      · rw [blockRequest_judged st nofun nofun]
        simp only [shedBlockJudge, feeder, free, if_false, opened, p, v]
      · rw [blockRequest_judged st nofun nofun]
        simp only [shedBlockJudge, feeder, free, if_false, opened, p, v]
    refine ⟨loadReview p, (exec_shedBlock ..).trans (taking_replied (y := .answer .accepted) _ _ live.1 judged), ?_, ?_, ?_, ?_⟩
    · rw [review.blocks l idle, block]
    · rw [review.blocks l idle, block, load]
    · refine (review.queue l idle).mpr ?_
      simp only [p]
      rw [form]
      exact (mem l).mpr (.inl rfl)
    · rw [review.devices d (by rw [kept, device]; nofun), kept, device]
      unfold DeviceLive.openedBy
      rw [closed]
      rfl
  · let c := (closeRequest d .supervisor ⟨false, false⟩ s.parts).1
    obtain ⟨closing, owner, load, -⟩ := closeRequest_closes accepted
    have answered : closeRequest d .supervisor ⟨false, false⟩ s.parts = (c, .accepted) := Prod.ext rfl accepted
    let y : BlockLive := { c.load.blocks[l] with state := .restoring, shedSequence := none, restorer := some .supervisor }
    obtain ⟨m, form⟩ := setBlock_form c l y
    let p := leaveQueue l (c.setBlock l y)
    have block : p.load.blocks[l] = y := by
      change (c.setBlock l y).load.blocks[l] = y
      rw [form]
      exact getElem_set_fin_self _ _ _
    have review := loadReview_sheds p
    have idle : p.load.blocks[l].state ≠ .served := by rw [block]; nofun
    have kept : p.switching.devices[d] = c.switching.devices[d] := by
      change (c.setBlock l y).switching.devices[d] = _
      rw [form]
    have quiet : p.switching.devices[d].state ≠ .closed := by rw [kept, closing]; nofun
    have judged : blockRequest restoreBlockJudge l.val s.parts = (loadReview p, .answer .accepted) := by
      rcases state with st | st
      · rw [blockRequest_judged st nofun nofun]
        simp only [restoreBlockJudge, feeder, answered, p, y]
      · rw [blockRequest_judged st nofun nofun]
        simp only [restoreBlockJudge, feeder, answered, p, y]
    refine ⟨loadReview p, (exec_restoreBlock ..).trans (taking_replied (y := .answer .accepted) _ _ live.1 judged), ?_, fun mem => ?_, ?_, ?_⟩
    · rw [review.blocks l idle, block]
      simp only [y]
      have same : c.load.blocks[l] = x := congrArg (fun u : LoadUnit => u.blocks[l]) load
      rw [same]
    · exact not_mem_left l _ ((review.queue l idle).mp mem)
    · rw [review.devices d quiet, kept, closing]
    · rw [review.devices d quiet, kept, owner]

/-! ## The restore timer (R163, R164) -/

theorem exec_restoreTimerExpiry (s : State) : exec .restoreTimerExpiry s = event restoreExpires s := rfl

/-- An attempt that is made closes the head of the queue where its island has room. -/
theorem restoreAttempt_head {i : Island} {room : Nat} {rest : List BlockId} (may : mayRestore s = true)
    (queue : s.load.queue = l :: rest) (feeder : s.feederOf l = some d) (island : s.islandOfBlock l = some i)
    (energised : i.energisation = .live) (kind : i.kind = .utility ∨ i.kind = .generator)
    (headroom : s.headroomOf i = some room)
    (fits : s.blockDemand l + s.service.station.elim 0 StationSettings.restoreMargin ≤ room) :
    restoreAttempt s = restoreBlockBy l d s := by
  have candidate : restoreCandidate s = some (l, i) := by
    unfold restoreCandidate
    rw [queue, List.findSome?_cons]
    simp only [island, energised, kind, and_self, if_true]
  unfold restoreAttempt
  simp only [may, candidate, headroom, feeder, fits, Bool.not_true, Bool.false_eq_true, if_false, if_true]

theorem startRestoreTimer_form {t : StationSettings} (station : s.service.station = some t) :
    startRestoreTimer s = { s with load.restoreTimer :=
      if t.restoreMode = .stepped then .running (t.restoreInterval * 1000) else s.load.restoreTimer } := by
  unfold startRestoreTimer
  rw [station]
  dsimp only
  split
  next stepped => rw [if_pos stepped]
  next other => rw [if_neg other]

/-- Settles O50: the attempt closes the feeder of the head of the queue, and the review after it leaves its block. -/
theorem restoreTimerMakesAnAttempt : Obligations.RestoreTimerMakesAnAttempt := by
  intro s live
  refine ⟨fun still => event_idle live ?_, fun runs held => ?_, fun l rest d i room t => ?_⟩
  · unfold restoreExpires
    rw [if_neg (by rw [still]; decide)]
  · let calm : Parts := { s.parts with load.restoreTimer := .stopped }
    have none : restoreAttempt calm = calm := by
      have barred : mayRestore calm = false := by
        have hold : calm.inHold = true := held
        unfold mayRestore
        rw [hold]
        rfl
      unfold restoreAttempt
      rw [barred]
      rfl
    have still : blocksMoved calm calm = false := by
      unfold blocksMoved
      simp only [bne_self_eq_false, Bool.or_self]
      exact List.any_eq_false.mpr fun _ _ => Bool.false_ne_true
    have expires : restoreExpires s.parts = calm := by
      unfold restoreExpires
      rw [if_pos runs]
      change reviewMoved calm (restoreAttempt calm) = calm
      rw [none]
      unfold reviewMoved
      rw [still]
      rfl
    refine ⟨calm, (exec_restoreTimerExpiry s).trans ((event_live _ _ live.1).trans (by rw [expires])), rfl, fun _ => id⟩
  · intro calm runs free station mode idle queue feeder island energised kind headroom fits accepted
    let c := (closeRequest d .loadUnit ⟨false, false⟩ calm).1
    obtain ⟨closing, owner, load, service⟩ := closeRequest_closes accepted
    have answered : closeRequest d .loadUnit ⟨false, false⟩ calm = (c, .accepted) := Prod.ext rfl accepted
    have may : mayRestore calm = true := by
      have hold : calm.inHold = false := free
      have serving : calm.service.station = some t := station
      have none : (allBlocks.any fun l => calm.load.blocks[l].restorer == some .loadUnit) = false :=
        List.any_eq_false.mpr fun j _ => by simpa using idle j
      unfold mayRestore
      rw [hold, serving, none]
      dsimp only
      split
      · rfl
      · rfl
      next h => exact absurd h mode
    have margin : calm.service.station.elim 0 StationSettings.restoreMargin = t.restoreMargin := by
      have serving : calm.service.station = some t := station
      rw [serving]
      rfl
    let y : BlockLive := { c.load.blocks[l] with state := .restoring, restorer := some .loadUnit }
    let v := leaveQueue l (c.setBlock l y)
    obtain ⟨m, form⟩ := setBlock_form c l y
    have served : v.service.station = some t := by
      change (c.setBlock l y).service.station = _
      rw [Parts.setBlock_service, service]
      exact station
    have stopped : v.load.restoreTimer = .stopped := by
      change (c.setBlock l y).load.restoreTimer = _
      rw [Parts.setBlock_load]
      exact congrArg LoadUnit.restoreTimer load
    let p := startRestoreTimer v
    have timed : p = { v with load.restoreTimer :=
        if t.restoreMode = .stepped then .running (t.restoreInterval * 1000) else v.load.restoreTimer } :=
      startRestoreTimer_form served
    have attempt : restoreAttempt calm = p := by
      rw [restoreAttempt_head may queue feeder island energised kind headroom (by rw [margin]; exact fits)]
      unfold restoreBlockBy
      rw [answered]
    have expires : restoreExpires s.parts = reviewMoved calm p := by
      unfold restoreExpires
      rw [if_pos runs]
      change reviewMoved calm (restoreAttempt calm) = _
      rw [attempt]
    have block : p.load.blocks[l] = y := by
      have same : p.load.blocks = v.load.blocks := by rw [timed]
      have written : v.load.blocks[l] = y := by
        change (c.setBlock l y).load.blocks[l] = y
        rw [form]
        exact getElem_set_fin_self _ _ _
      exact (congrArg (fun b : Vector BlockLive 24 => b[l]) same).trans written
    have left : l ∉ p.load.queue := by
      rw [timed]
      exact not_mem_left l _
    have device : p.switching.devices[d] = c.switching.devices[d] := by
      have same : p.switching = v.switching := by rw [timed]
      have kept : v.switching = c.switching := Parts.setBlock_switching ..
      rw [same, kept]
    have review := reviewMoved_sheds calm p
    have quiet : p.load.blocks[l].state ≠ .served := by rw [block]; nofun
    have moving : p.switching.devices[d].state ≠ .closed := by rw [device, closing]; nofun
    refine ⟨reviewMoved calm p, (exec_restoreTimerExpiry s).trans ((event_live _ _ live.1).trans (by rw [expires])),
      ?_, ?_, fun mem => left ((review.queue l quiet).mp mem), ?_, ?_, ?_⟩
    · rw [review.blocks l quiet, block]
    · rw [review.blocks l quiet, block]
    · rw [review.devices d moving, device, closing]
    · rw [review.devices d moving, device, owner]
    · rw [review.timer, timed, stopped]

end Sys2Proof.Machine

/-!
PROOF. Writes of generators (R138) and the start, end and withdrawal of an island sync (R147): what they leave.
-/

namespace Sys2Proof.Machine

variable {r s t : Parts} {g : GeneratorId}

/-! ## Writing a generator (R138) -/

/-- The lanes, the islands, the changed marks and the notices written. -/
def Parts.touched (s : Parts) (ls : Vector LaneLive 16) (is : List Island) (m : Vector Bool 256) (ns : List Notice) : Parts :=
  { s with lanes.lanes := ls, topology.islands := is, attention.changed := m, notices := ns }

/-- What a write of a generator does beside it: commands offered to lanes, islands recomputed, marks set and notices sent. -/
structure Parts.Touches (s t : Parts) : Prop where
  form : ∃ ls is m ns, t = s.touched ls is m ns
  alerts : s.Alerts t

theorem Parts.Touches.refl : s.Touches s := ⟨⟨_, _, _, _, rfl⟩, .refl⟩

theorem Parts.Touches.trans (k : r.Touches s) (l : s.Touches t) : r.Touches t := by
  obtain ⟨_, _, _, _, form⟩ := k.form
  obtain ⟨_, _, _, _, form'⟩ := l.form
  exact ⟨⟨_, _, _, _, by rw [form', form]; rfl⟩, k.alerts.trans l.alerts⟩

theorem Parts.Touches.ite {c : Prop} [Decidable c] (k : r.Touches s) (l : r.Touches t) :
    r.Touches (if c then s else t) := by
  split
  · exact k
  · exact l

theorem markIf_touches (k : r.Touches s) {b : Bool} {i : StoreIndex} : r.Touches (s.markIf b i) := by
  obtain ⟨m, form⟩ := markIf_marks b i s
  exact k.trans ⟨⟨_, _, m, _, form⟩, markIf_alerts b i⟩

theorem send_touches (k : r.Touches s) {n : Notice} : r.Touches (s.send n) :=
  k.trans ⟨⟨_, _, _, _, rfl⟩, .of_eq rfl⟩

theorem recompute_touches (k : r.Touches s) : r.Touches (recompute s) := by
  obtain ⟨is, ns, form⟩ := recompute_form s
  exact k.trans ⟨⟨_, is, _, ns, form⟩, .of_eq (by rw [form])⟩

theorem sendCommand_touches (k : r.Touches s) : r.Touches (sendCommand g s) := by
  have form : ∃ ls, sendCommand g s = { s with lanes.lanes := ls } := by
    unfold sendCommand offerContent
    dsimp only
    repeat' split
    all_goals exact ⟨_, rfl⟩
  obtain ⟨ls, form⟩ := form
  exact k.trans ⟨⟨ls, _, _, _, form⟩, .of_eq (by rw [form])⟩

/-- A generator as it is kept: a sequence number and a target only where its state has them. -/
def GeneratorLive.kept (x : GeneratorLive) : GeneratorLive :=
  if x.state.shares then x else { x with target := 0, sequence := none }

theorem GeneratorLive.kept_state (x : GeneratorLive) : x.kept.state = x.state := by
  unfold GeneratorLive.kept
  split <;> rfl

theorem GeneratorLive.kept_shares {x : GeneratorLive} (h : x.state.shares = true) : x.kept = x := if_pos h

theorem GeneratorLive.kept_plain {x : GeneratorLive} (h : x.state.shares = false) :
    x.kept = { x with target := 0, sequence := none } := if_neg (by rw [h]; decide)

theorem GeneratorLive.kept_none {x : GeneratorLive} (target : x.target = 0) (sequence : x.sequence = none) :
    x.kept = x := by
  unfold GeneratorLive.kept
  split
  · rfl
  · rw [← target, ← sequence]

/-- The blocks with a generator put at some values and nothing else. -/
def Parts.putGen (s : Parts) (g : GeneratorId) (x : GeneratorLive) : Parts :=
  { s with paralleling.generators := s.paralleling.generators.set g x }

/-- A write of a generator is the value it keeps and what it touches beside. -/
theorem writeGenerator_touches (asked : Bool) (g : GeneratorId) (x : GeneratorLive) (s : Parts) :
    (s.putGen g x.kept).Touches (writeGenerator asked g x s) := by
  have marked : (s.putGen g x.kept).Touches
      ((s.putGen g x.kept).markIf ((s.gen g).shown != x.kept.shown) (generatorIndex g)) := markIf_touches .refl
  unfold writeGenerator
  dsimp only
  have told : ∀ {u : Parts} {c : Prop} [Decidable c] {n : Notice}, (s.putGen g x.kept).Touches u →
      (s.putGen g x.kept).Touches (if c then u.send n else u) := fun k => .ite (send_touches k) k
  have moved : ∀ {u : Parts} {c : Prop} [Decidable c], (s.putGen g x.kept).Touches u →
      (s.putGen g x.kept).Touches (if c then recompute u else u) := fun k => .ite (recompute_touches k) k
  have offered : ∀ {u : Parts} {c : Prop} [Decidable c], (s.putGen g x.kept).Touches u →
      (s.putGen g x.kept).Touches (if c then sendCommand g u else u) := fun k => .ite (sendCommand_touches k) k
  exact told (offered (told (moved marked)))

theorem setGenerator_touches (g : GeneratorId) (x : GeneratorLive) (s : Parts) :
    (s.putGen g x.kept).Touches (setGenerator g x s) := writeGenerator_touches false g x s

theorem writeGenerator_generators (asked : Bool) (g : GeneratorId) (x : GeneratorLive) (s : Parts) :
    (writeGenerator asked g x s).paralleling = { s.paralleling with
      generators := s.paralleling.generators.set g x.kept } := by
  obtain ⟨_, _, _, _, form⟩ := (writeGenerator_touches asked g x s).form
  rw [form]
  rfl

theorem writeGenerator_self (asked : Bool) (g : GeneratorId) (x : GeneratorLive) (s : Parts) :
    (writeGenerator asked g x s).paralleling.generators[g] = x.kept := by
  rw [writeGenerator_generators]
  exact getElem_set_fin_self _ _ _

theorem writeGenerator_other (asked : Bool) {g j : GeneratorId} (h : g ≠ j) (x : GeneratorLive) (s : Parts) :
    (writeGenerator asked g x s).paralleling.generators[j] = s.paralleling.generators[j] := by
  rw [writeGenerator_generators]
  exact getElem_set_fin_ne _ _ _ _ h

theorem writeGenerator_alerts (asked : Bool) (g : GeneratorId) (x : GeneratorLive) (s : Parts) :
    s.Alerts (writeGenerator asked g x s) :=
  Parts.Alerts.trans (s := s.putGen g x.kept) (.of_eq rfl) (writeGenerator_touches asked g x s).alerts

/-! ## Island syncs (R147) -/

/-- The fields that an island sync's end leaves. -/
def Parts.beyondSyncs (s : Parts) := (s.switching, s.changeover, s.load, s.service, s.lockouts, s.protection)

/-- What the withdrawal of island syncs may do. -/
structure Parts.Withdraws (s t : Parts) : Prop where
  beyond : t.beyondSyncs = s.beyondSyncs
  alerts : s.Alerts t

theorem Parts.Withdraws.refl : s.Withdraws s := ⟨rfl, .refl⟩

theorem Parts.Withdraws.trans (k : r.Withdraws s) (l : s.Withdraws t) : r.Withdraws t :=
  ⟨l.beyond.trans k.beyond, k.alerts.trans l.alerts⟩

theorem Parts.Withdraws.frame (beyond : t.beyondSyncs = s.beyondSyncs) (attention : t.attention = s.attention) :
    s.Withdraws t := ⟨beyond, .of_eq attention⟩

theorem setGenerator_withdraws (g : GeneratorId) (x : GeneratorLive) (s : Parts) : s.Withdraws (setGenerator g x s) := by
  obtain ⟨_, _, _, _, form⟩ := (setGenerator_touches g x s).form
  exact ⟨by rw [form]; rfl, writeGenerator_alerts false g x s⟩

theorem foldl_withdraws {α : Type} {f : Parts → α → Parts} (step : ∀ (u : Parts) a, u.Withdraws (f u a)) (l : List α) :
    s.Withdraws (l.foldl f s) := by
  induction l generalizing s with
  | nil => exact .refl
  | cons a l ih => exact (step s a).trans ih

theorem levelIsland_withdraws (b : BusId) (s : Parts) : s.Withdraws (levelIsland b s) := by
  unfold levelIsland
  split
  · exact foldl_withdraws (fun _ _ => setGenerator_withdraws _ _ _) _
  · exact .refl

theorem readClosingTime_withdraws (d : DeviceId) (s : Parts) : s.Withdraws (readClosingTime d s).1 := by
  obtain ⟨ds, a, form⟩ := useDevice_writes d s
  have read : s.Withdraws (useDevice d s).1 := ⟨by rw [form]; rfl, useDevice_alerts d⟩
  unfold readClosingTime
  split
  next e => rw [e] at read; exact read
  next e => rw [e] at read; exact read.trans (.frame rfl rfl)

theorem startIslandSync_withdraws (i : SideId) (d : DeviceId) (s : Parts) : s.Withdraws (startIslandSync i d s) :=
  (readClosingTime_withdraws d s).trans (.frame rfl rfl)

theorem endIslandSync_withdraws (s : Parts) : s.Withdraws (endIslandSync s) := by
  unfold endIslandSync
  split
  · exact .refl
  next y _ =>
    dsimp only
    have ended : s.Withdraws { s with paralleling.islandSync := none } := .frame rfl rfl
    have leveled : s.Withdraws (y.incoming.elim { s with paralleling.islandSync := none }
        fun b => levelIsland b { s with paralleling.islandSync := none }) := by
      cases y.incoming with
      | none => exact ended
      | some b => exact ended.trans (levelIsland_withdraws b _)
    generalize y.incoming.elim _ _ = u at leveled ⊢
    split
    · exact leveled.trans (Parts.Withdraws.trans (s := { u with paralleling.waitingSync := none }) (.frame rfl rfl)
        (startIslandSync_withdraws _ _ _))
    · exact leveled

/-- The syncs without what waits of a side. -/
def dropWaiting (i : SideId) (s : Parts) : Parts :=
  match s.paralleling.waitingSync with
  | some (j, _) => if j = i then { s with paralleling.waitingSync := none } else s
  | none => s

theorem withdrawIslandSync_eq (i : SideId) (s : Parts) : withdrawIslandSync i s =
    match (dropWaiting i s).paralleling.islandSync with
    | some y => if y.side = i then endIslandSync (dropWaiting i s) else dropWaiting i s
    | none => dropWaiting i s := rfl

theorem dropWaiting_withdraws (i : SideId) (s : Parts) : s.Withdraws (dropWaiting i s) := by
  unfold dropWaiting
  repeat' split
  · exact .frame rfl rfl
  · exact .refl
  · exact .refl

theorem withdrawIslandSync_withdraws (i : SideId) (s : Parts) : s.Withdraws (withdrawIslandSync i s) := by
  rw [withdrawIslandSync_eq]
  have dropped := dropWaiting_withdraws i s
  repeat' split
  · exact dropped.trans (endIslandSync_withdraws _)
  · exact dropped
  · exact dropped

/-- No sync runs for a side and none of its waits. -/
def ParallelingUnit.syncless (i : SideId) (u : ParallelingUnit) : Prop :=
  (∀ y, u.islandSync = some y → y.side ≠ i) ∧ ∀ j d, u.waitingSync = some (j, d) → j ≠ i

theorem startIslandSync_syncs (i : SideId) (d : DeviceId) (s : Parts) :
    (∀ y, (startIslandSync i d s).paralleling.islandSync = some y → y.side = i) ∧
      (startIslandSync i d s).paralleling.waitingSync = s.paralleling.waitingSync := by
  have read : (readClosingTime d s).1.paralleling = s.paralleling := by
    obtain ⟨ds, a, form⟩ := useDevice_writes d s
    unfold readClosingTime
    split
    next e => rw [e] at form; exact (congrArg Parts.paralleling form).trans rfl
    next e => rw [e] at form; exact (congrArg Parts.paralleling form).trans rfl
  refine ⟨fun y h => ?_, (congrArg ParallelingUnit.waitingSync read :)⟩
  cases h
  rfl

/-- A sync that ends leaves those of the side whose sync waits. -/
theorem endIslandSync_syncless {i : SideId} (runs : s.paralleling.islandSync ≠ none)
    (waits : ∀ j d, s.paralleling.waitingSync = some (j, d) → j ≠ i) : (endIslandSync s).paralleling.syncless i := by
  obtain ⟨y, hy⟩ := Option.ne_none_iff_exists'.mp runs
  obtain ⟨-, -, ended, waiting⟩ := islandSync_ended y s
  unfold endIslandSync
  rw [hy]
  dsimp only at ended waiting ⊢
  generalize y.incoming.elim _ _ = u at ended waiting ⊢
  cases hw : u.paralleling.waitingSync with
  | none => exact ⟨fun y h => (by rw [ended] at h; cases h), fun j d h => (by rw [hw] at h; cases h)⟩
  | some w =>
    obtain ⟨j, d⟩ := w
    obtain ⟨side, none⟩ := startIslandSync_syncs j d { u with paralleling.waitingSync := none }
    have other := waits j d (waiting ▸ hw)
    exact ⟨fun y h => side y h ▸ other, fun j' d' h => (by rw [none] at h; cases h)⟩

theorem dropWaiting_waits (i : SideId) (s : Parts) :
    (∀ j d, (dropWaiting i s).paralleling.waitingSync = some (j, d) →
      j ≠ i ∧ s.paralleling.waitingSync = some (j, d)) ∧
    (dropWaiting i s).paralleling.islandSync = s.paralleling.islandSync := by
  unfold dropWaiting
  split
  next j d waits =>
    split
    · exact ⟨fun _ _ h => (by cases h), rfl⟩
    next other =>
      refine ⟨fun j' d' h => ?_, rfl⟩
      rw [waits] at h
      cases h
      exact ⟨other, waits⟩
  next none => exact ⟨fun _ _ h => (by rw [none] at h; cases h), rfl⟩

/-- A withdrawal leaves none of the side, and starts none for a side that had none. -/
theorem withdrawIslandSync_syncless (i : SideId) (s : Parts) :
    (withdrawIslandSync i s).paralleling.syncless i ∧
      ∀ j, s.paralleling.syncless j → (withdrawIslandSync i s).paralleling.syncless j := by
  obtain ⟨waits, running⟩ := dropWaiting_waits i s
  rw [withdrawIslandSync_eq]
  cases h : (dropWaiting i s).paralleling.islandSync with
  | none =>
    exact ⟨⟨fun y e => (by rw [h] at e; cases e), fun j d e => (waits j d e).1⟩,
      fun k free => ⟨fun y e => (by rw [h] at e; cases e), fun j d e => free.2 j d (waits j d e).2⟩⟩
  | some y =>
    dsimp only
    split
    · have runs : (dropWaiting i s).paralleling.islandSync ≠ none := by rw [h]; nofun
      exact ⟨endIslandSync_syncless runs fun j d e => (waits j d e).1,
        fun k free => endIslandSync_syncless runs fun j d e => free.2 j d (waits j d e).2⟩
    next other =>
      exact ⟨⟨fun z e => (by rw [h] at e; cases e; exact other), fun j d e => (waits j d e).1⟩,
        fun k free => ⟨fun z e => free.1 z (running ▸ e), fun j d e => free.2 j d (waits j d e).2⟩⟩

/-! ## What a side withdraws (R125) -/

theorem withdrawOf_syncless {i j : SideId} {st : SideState} (free : s.paralleling.syncless j) :
    (withdrawOf i st s).paralleling.syncless j := by
  unfold withdrawOf
  split
  · exact free
  · exact free
  · exact (withdrawIslandSync_syncless i s).2 j free
  · exact free

/-- A side's withdrawals leave all but the pre-sheds and the Paralleling Unit's blocks. -/
theorem withdrawOf_withdraws (i : SideId) (st : SideState) (s : Parts) :
    s.Withdraws (withdrawOf i st s) ∨ withdrawOf i st s = withdrawPreShed i s := by
  unfold withdrawOf
  split
  · exact .inr rfl
  · exact .inr rfl
  · exact .inl (withdrawIslandSync_withdraws i s)
  · exact .inl .refl

theorem withdrawOf_alerts (i : SideId) (st : SideState) (s : Parts) : s.Alerts (withdrawOf i st s) := by
  rcases withdrawOf_withdraws i st s with k | e
  · exact k.alerts
  · rw [e]
    exact .of_eq rfl

theorem withdrawOf_switching (i : SideId) (st : SideState) (s : Parts) :
    (withdrawOf i st s).switching = s.switching := by
  rcases withdrawOf_withdraws i st s with k | e
  · exact congrArg Prod.fst k.beyond
  · rw [e]
    rfl

/-- A pre-shed that a side does not have it does not get. -/
theorem withdrawOf_preSheds {i j : SideId} {st : SideState} (none : s.load.preSheds[j] = none) :
    (withdrawOf i st s).load.preSheds[j] = Option.none := by
  rcases withdrawOf_withdraws i st s with k | e
  · have load : (withdrawOf i st s).load = s.load := congrArg (fun x => x.2.2.1) k.beyond
    rw [load]
    exact none
  · rw [e]
    by_cases same : i = j
    · subst same
      exact getElem_set_fin_self _ _ _
    · exact (getElem_set_fin_ne _ _ _ _ same).trans none

theorem enterSide_alerts (i : SideId) (st : SideState) (s : Parts) : s.Alerts (enterSide i st s) := by
  have left := withdrawOf_alerts i (s.side i).state s
  unfold enterSide
  dsimp only
  generalize withdrawOf i (s.side i).state s = t at left ⊢
  generalize SideLive.mk st _ _ _ _ _ _ _ = x
  obtain ⟨ns, claim⟩ := claimAfter_form i st (putSide i x t)
  rw [claim]
  obtain ⟨ms, supply⟩ := putSupply_form i (supplyAfter st (s.side i).supply)
    { putSide i x t with changeover.claim := claimed i st (putSide i x t).changeover.claim, notices := ns }
  rw [supply]
  refine left.trans ?_
  generalize hv : Parts.mk _ _ _ _ _ _ _ _ _ _ _ _ _ = v
  have same : t.Alerts v := .of_eq (by rw [← hv]; rfl)
  have marked := same.trans (markIf_alerts (s := v) ((s.side i).state != st) schemeIndex)
  split
  · exact marked.trans (raise_alerts .changeover)
  · exact marked

end Sys2Proof.Machine

/-!
PROOF. SCHEME MODE (R124) and the damage of the scheme record (R123).
-/

namespace Sys2Proof.Machine

variable {s t u : Parts} {i : SideId}

/-! ## A side put in MANUAL (R124) -/

/-- What a side that is put in MANUAL withdraws and leaves. -/
structure SideWithdrawn (i : SideId) (s t : Parts) : Prop where
  switching : t.switching = s.switching
  mode : t.changeover.mode = s.changeover.mode
  claim : t.changeover.claim = if s.changeover.claim = some i then none else s.changeover.claim
  side : ∃ f, t.changeover.sides[i] = (s.side i).entered .manual f
  others : ∀ j : SideId, j ≠ i → t.changeover.sides[j] = s.changeover.sides[j]
  preShed : t.load.preSheds[i] = none
  preSheds : ∀ j : SideId, s.load.preSheds[j] = none → t.load.preSheds[j] = none
  sync : t.paralleling.syncless i
  syncs : ∀ j : SideId, s.paralleling.syncless j → t.paralleling.syncless j
  alerts : s.Alerts t

theorem sideManual_withdrawn (i : SideId) (s : Parts) : SideWithdrawn i s (onSide i (sideManual i) s) := by
  let p := withdrawPreShed i s
  let q := withdrawIslandSync i p
  have withdraws := withdrawIslandSync_withdraws i p
  have beyond := withdraws.beyond
  simp only [Parts.beyondSyncs, Prod.mk.injEq] at beyond
  obtain ⟨switching, changeover, load, -⟩ := beyond
  obtain ⟨own, other⟩ := withdrawIslandSync_syncless i p
  let w := withdrawOf i (q.side i).state q
  have changeover' : q.changeover = s.changeover := changeover
  have shed : q.load.preSheds[i] = none := by
    rw [load]
    exact getElem_set_fin_self _ _ _
  have sheds (j : SideId) (h : s.load.preSheds[j] = none) : q.load.preSheds[j] = none := by
    rw [load]
    by_cases e : i = j
    · subst e
      exact getElem_set_fin_self _ _ _
    · exact (getElem_set_fin_ne _ _ _ _ e).trans h
  obtain ⟨ns, told⟩ := onSide_form i (sideManual i) s
  obtain ⟨ms, m, form⟩ := enterSide_form i .manual q
  have entered : sideManual i s = enterSide i .manual q := rfl
  have alerts : s.Alerts (sideManual i s) := by
    rw [entered]
    exact (Parts.Alerts.trans (Parts.Alerts.of_eq (s := s) (t := p) rfl) withdraws.alerts).trans (enterSide_alerts i .manual q)
  have side : q.side i = s.side i := congrArg (fun c : ChangeoverUnit => c.sides[i]) changeover'
  rw [told]
  refine ⟨?_, ?_, ?_, ⟨feedingAfter q i .manual, ?_⟩, fun j e => ?_, ?_, fun j h => ?_, ?_, fun j h => ?_,
    alerts.trans (.of_eq rfl)⟩
  · rw [entered, form]
    exact (withdrawOf_switching i _ q).trans switching
  · rw [entered, form]
    exact (congrArg ChangeoverUnit.mode (withdrawOf_keeps i (q.side i).state q).2).trans
      (congrArg ChangeoverUnit.mode changeover')
  · rw [entered, form]
    dsimp only
    rw [changeover']
    rfl
  · rw [← side, ← enterSide_side]
    rfl
  · rw [entered, form]
    exact (getElem_set_fin_ne _ _ _ _ (Ne.symm e)).trans (congrArg (fun c : ChangeoverUnit => c.sides[j]) changeover')
  · rw [entered, form]
    exact withdrawOf_preSheds shed
  · rw [entered, form]
    exact withdrawOf_preSheds (sheds j h)
  · rw [entered, form]
    exact withdrawOf_syncless own
  · rw [entered, form]
    exact withdrawOf_syncless (other j h)

theorem onSides_eq (f : SideId → Parts → Parts) (s : Parts) : onSides f s = onSide 1 (f 1) (onSide 0 (f 0) s) := by
  simp only [onSides, (by decide : allSides = [0, 1]), List.foldl_cons, List.foldl_nil]

theorem side_cases (i : SideId) : i = 0 ∨ i = 1 := by
  rcases i with ⟨_ | _ | n, h⟩
  · exact .inl rfl
  · exact .inr rfl
  · omega

/-- What SCHEME MODE MANUAL withdraws and leaves. -/
structure SchemeWithdrawn (s t : Parts) : Prop where
  switching : t.switching = s.switching
  mode : t.changeover.mode = .manual
  claim : t.changeover.claim = none
  sides : ∀ i : SideId, ∃ (x : SideLive) (f : Option DeviceId), t.changeover.sides[i] = x.entered .manual f
  preSheds : ∀ i : SideId, t.load.preSheds[i] = none
  islandSync : t.paralleling.islandSync = none
  waitingSync : t.paralleling.waitingSync = none
  alerts : s.Alerts t

theorem schemeManual_withdrawn (s : Parts) : SchemeWithdrawn s (schemeManual s) := by
  let p : Parts := { s with changeover.mode := .manual }
  have a := sideManual_withdrawn 0 p
  have b := sideManual_withdrawn 1 (onSide 0 (sideManual 0) p)
  have form : schemeManual s = onSide 1 (sideManual 1) (onSide 0 (sideManual 0) p) := onSides_eq sideManual p
  rw [form]
  generalize onSide 0 (sideManual 0) p = q at a b ⊢
  generalize onSide 1 (sideManual 1) q = u at b ⊢
  have syncless (i : SideId) : u.paralleling.syncless i := by
    rcases side_cases i with rfl | rfl
    · exact b.syncs 0 a.sync
    · exact b.sync
  refine ⟨b.switching.trans a.switching, b.mode.trans a.mode, ?_, fun i => ?_, fun i => ?_, ?_, ?_,
    (Parts.Alerts.trans (Parts.Alerts.of_eq (s := s) (t := p) rfl) a.alerts).trans b.alerts⟩
  · rw [b.claim, a.claim]
    have one : p.changeover.claim = none ∨ p.changeover.claim = some 0 ∨ p.changeover.claim = some 1 := by
      cases p.changeover.claim with
      | none => exact .inl rfl
      | some i =>
        rcases side_cases i with rfl | rfl
        · exact .inr (.inl rfl)
        · exact .inr (.inr rfl)
    rcases one with e | e | e <;> rw [e] <;> rfl
  · rcases side_cases i with rfl | rfl
    · obtain ⟨f, e⟩ := a.side
      exact ⟨_, f, (b.others 0 (by decide)).trans e⟩
    · obtain ⟨f, e⟩ := b.side
      exact ⟨_, f, e⟩
  · rcases side_cases i with rfl | rfl
    · exact b.preSheds 0 a.preShed
    · exact b.preShed
  · cases e : u.paralleling.islandSync with
    | none => rfl
    | some y => exact absurd rfl ((syncless y.side).1 y e)
  · cases e : u.paralleling.waitingSync with
    | none => rfl
    | some w => exact absurd rfl ((syncless w.1).2 w.1 w.2 e)

/-! ## The record of the scheme (R123) -/

theorem useScheme_valid {h : Held SchemeSettings} (stored : s.store.scheme = some h) (valid : h.valid) :
    useScheme s = ({ s with changeover.scheme := some h.settings }, some h.settings) := by
  unfold useScheme
  rw [stored, useHeld_valid h _ _ _ s valid]

theorem useScheme_damaged {h : Held SchemeSettings} (stored : s.store.scheme = some h) (bad : h.integrity = .damaged) :
    useScheme s = (s, none) := by
  unfold useScheme
  rw [stored, useHeld_damaged h _ _ _ s bad]

/-- The scheme record found INVALID, with the flag and the mark that a check sets. -/
def Parts.schemeInvalid (s : Parts) (h : Held SchemeSettings) : Parts :=
  ((s.putScheme (some h.damage)).raise .record).mark schemeIndex

theorem useScheme_invalid {h : Held SchemeSettings} (stored : s.store.scheme = some h) (intact : h.integrity ≠ .damaged)
    (moved : h.settings ≠ h.code.covers) (lost : h.code.restores = false) (serving : s.changeover.scheme.isSome = true) :
    useScheme s = ((schemeManual (s.schemeInvalid h)).raise .changeover, none) := by
  unfold useScheme
  rw [stored, useHeld_invalid h _ _ _ s intact moved lost]
  have present : ¬ (s.schemeInvalid h).changeover.scheme.isNone = true := by
    rw [Option.isNone_iff_eq_none]
    exact Option.isSome_iff_ne_none.mp serving
  exact congrArg (·, none) (if_neg present)

/-- What a scheme record found INVALID leaves: the record DAMAGED, the scheme in service kept, both sides in MANUAL. -/
theorem schemeInvalid_withdrawn (s : Parts) (h : Held SchemeSettings) :
    SchemeWithdrawn (s.schemeInvalid h) (schemeManual (s.schemeInvalid h)) ∧
      (schemeManual (s.schemeInvalid h)).store.scheme = some h.damage ∧
      (schemeManual (s.schemeInvalid h)).changeover.scheme = s.changeover.scheme := by
  have stored : (s.schemeInvalid h).store.scheme = some h.damage := rfl
  have inService : (s.schemeInvalid h).changeover.scheme = s.changeover.scheme := rfl
  refine ⟨schemeManual_withdrawn _, ?_⟩
  generalize s.schemeInvalid h = p at stored inService ⊢
  obtain ⟨reads, kept, -, -⟩ := onSides_sideManual_keeps { p with changeover.mode := .manual }
  obtain ⟨ds, store⟩ := reads.devices
  unfold schemeManual
  rw [store, kept]
  exact ⟨stored, inService⟩

/-! ## The mode (R124) -/

theorem exec_schemeMode (t : Byte) (m : SchemeMode) (s : State) :
    exec (.schemeMode t m) s = taking 0x50 t (bare (schemeModeRequest m)) s := rfl

theorem schemeModeRequest_state (m : SchemeMode) (h : s.service.inService = false ∨ s.changeover.scheme = none) :
    schemeModeRequest m s = (s, .state) := by
  unfold schemeModeRequest
  refine if_pos ?_
  rcases h with h | h
  · exact .inl (by rw [h]; rfl)
  · exact .inr (by rw [h]; rfl)

/-- With a scheme in service a request passes the check of R124. -/
theorem schemeModeRequest_passes (serving : s.service.inService = true) (scheme : s.changeover.scheme.isSome = true) :
    ¬((!s.service.inService) = true ∨ s.changeover.scheme.isNone = true) := by
  rw [serving, Option.isNone_iff_eq_none]
  exact not_or.mpr ⟨by decide, Option.isSome_iff_ne_none.mp scheme⟩

theorem schemeModeRequest_already (serving : s.service.inService = true) (scheme : s.changeover.scheme.isSome = true) :
    schemeModeRequest s.changeover.mode s = (s, .already) := by
  unfold schemeModeRequest
  rw [if_neg (schemeModeRequest_passes serving scheme), if_pos rfl]

theorem schemeModeRequest_manual (serving : s.service.inService = true) (scheme : s.changeover.scheme.isSome = true)
    (mode : s.changeover.mode = .auto) : schemeModeRequest .manual s = (schemeManual s, .ok) := by
  unfold schemeModeRequest
  rw [if_neg (schemeModeRequest_passes serving scheme), if_neg (by rw [mode]; nofun)]

theorem schemeModeRequest_auto (serving : s.service.inService = true) (scheme : s.changeover.scheme.isSome = true)
    (mode : s.changeover.mode = .manual) {u : Parts} {y : Option SchemeSettings} (read : useScheme s = (u, y)) :
    schemeModeRequest .auto s =
      y.elim (u, .damaged) fun _ => (onSides takeDerived { u with changeover.mode := .auto }, .ok) := by
  unfold schemeModeRequest
  rw [if_neg (schemeModeRequest_passes serving scheme), if_neg (by rw [mode]; nofun), read]
  cases y <;> rfl

/-! ## The derived states of AUTO (R126) -/

theorem takeDerived_normal (h : deriveSide s i = .normal) : takeDerived i s = enterSide i .normal s := by
  unfold takeDerived
  rw [h]
  rfl

/-- A side fed by its own incomer alone from a live utility derives NORMAL. -/
theorem deriveSide_normal {y : SchemeSettings} (scheme : s.changeover.scheme = some y)
    (incomer : s.switching.devices[y.sides[i].incomer].state = .closed)
    (generatorTie : ∀ d, y.sides[i].generatorTie = some d → s.switching.devices[d].state = .open)
    (tie : ∀ d, y.tie = some d → s.switching.devices[d].state = .open)
    (live : s.changeover.utilities[y.sides[i].utility].qualification.isLive = true) : deriveSide s i = .normal := by
  have settings : s.sideSettings i = some y.sides[i] := by rw [Parts.sideSettings, scheme]; rfl
  have own : derivedState s (s.sideIncomer i) = .closed := by
    rw [Parts.sideIncomer, settings]
    unfold derivedState
    dsimp only [Option.map_some]
    rw [incomer]
    rfl
  have shared : derivedState s s.sideTie = .open := derivedState_open fun d h => tie d (by
    rw [Parts.sideTie, scheme] at h
    exact h)
  have generator : derivedState s (s.sideGeneratorTie i) = .open := derivedState_open fun d h => generatorTie d (by
    rw [Parts.sideGeneratorTie, settings] at h
    exact h)
  have qualified : (s.ownUtility i).isLive = true := by
    rw [Parts.ownUtility, settings]
    exact live
  unfold deriveSide
  rw [own, shared, generator]
  exact if_pos qualified

/-- What an entry into NORMAL leaves for the other side to derive by. -/
theorem enterNormal_keeps (i : SideId) (s : Parts) :
    let u := onSide i (enterSide i .normal) s
    u.switching = s.switching ∧ u.changeover.scheme = s.changeover.scheme ∧
      u.changeover.utilities = s.changeover.utilities ∧ u.changeover.sides[i].state = .normal ∧
      u.changeover.sides[i].feeding = s.sideIncomer i ∧
      ∀ j : SideId, j ≠ i → u.changeover.sides[j] = s.changeover.sides[j] := by
  obtain ⟨ns, told⟩ := onSide_form i (enterSide i .normal) s
  obtain ⟨ms, m, form⟩ := enterSide_form i .normal s
  have changeover := (withdrawOf_keeps i (s.side i).state s).2
  have side := enterSide_side i .normal s
  dsimp only
  rw [told]
  refine ⟨?_, ?_, ?_, congrArg SideLive.state side, congrArg SideLive.feeding side, fun j e => ?_⟩
  · rw [form]
    exact withdrawOf_switching i _ s
  · rw [form]
    exact (congrArg ChangeoverUnit.scheme changeover :)
  · rw [form]
    exact (congrArg ChangeoverUnit.utilities changeover :)
  · rw [form]
    exact getElem_set_fin_ne _ _ _ _ (Ne.symm e)

/-- Settles O42: MANUAL and a damaged record withdraw both sides; AUTO derives each from the devices as they stand. -/
theorem schemeModeIsTaken : Obligations.SchemeModeIsTaken := by
  intro t s live
  refine ⟨fun m barred => taking_judged _ _ live.1 (schemeModeRequest_state m barred) live.2, fun serving scheme =>
    ⟨taking_judged _ _ live.1 (schemeModeRequest_already serving scheme) live.2, fun auto => ?_, fun h manual stored bad => ?_,
      fun h manual stored intact moved lost => ?_, fun h manual stored valid => ?_⟩⟩
  · have w := schemeManual_withdrawn s.parts
    refine ⟨schemeManual s.parts, (exec_schemeMode ..).trans (taking_settled _ _ live.1
      (schemeModeRequest_manual serving scheme auto)), w.mode, w.claim, w.switching, w.islandSync, w.waitingSync, fun i => ?_⟩
    obtain ⟨x, f, side⟩ := w.sides i
    rw [side]
    exact ⟨w.preSheds i, rfl, rfl, rfl, rfl⟩
  · exact taking_judged _ _ live.1 (schemeModeRequest_auto serving scheme manual (useScheme_damaged stored bad)) live.2
  · obtain ⟨w, store, kept⟩ := schemeInvalid_withdrawn s.parts h
    have request := schemeModeRequest_auto serving scheme manual (useScheme_invalid stored intact moved lost scheme)
    have flagged := w.alerts.flags .record rfl
    have marked := w.alerts.marks schemeIndex (mark_marks schemeIndex)
    generalize schemeManual (s.parts.schemeInvalid h) = v at w store kept request flagged marked
    refine ⟨v.raise .changeover, (exec_schemeMode ..).trans (taking_settled _ _ live.1 request), store, flagged, rfl, marked,
      w.mode, kept, fun i => ?_⟩
    obtain ⟨x, f, side⟩ := w.sides i
    exact congrArg SideLive.state side
  · intro y taken
    have request := schemeModeRequest_auto serving scheme manual (useScheme_valid stored valid)
    refine ⟨(exec_schemeMode ..).trans (taking_settled _ _ live.1 request), fun fed tie => ?_⟩
    have first : deriveSide taken 0 = .normal := by
      obtain ⟨incomer, generatorTie, qualified⟩ := fed 0
      exact deriveSide_normal (y := y) rfl incomer generatorTie tie qualified
    obtain ⟨switching, kept, utilities, normal, feeds, others⟩ := enterNormal_keeps 0 taken
    let v := onSide 0 (enterSide 0 .normal) taken
    have second : deriveSide v 1 = .normal := by
      obtain ⟨incomer, generatorTie, qualified⟩ := fed 1
      refine deriveSide_normal (y := y) kept ?_ (fun d h => ?_) (fun d h => ?_) ?_
      · rw [switching]
        exact incomer
      · rw [switching]
        exact generatorTie d h
      · rw [switching]
        exact tie d h
      · rw [utilities]
        exact qualified
    obtain ⟨-, -, -, normal', feeds', others'⟩ := enterNormal_keeps 1 v
    have both : onSides takeDerived taken = onSide 1 (enterSide 1 .normal) v := by
      have one : onSide 0 (takeDerived 0) taken = v := by
        simp only [onSide, takeDerived_normal first, v]
      rw [onSides_eq, one]
      simp only [onSide, takeDerived_normal second]
    intro i
    rw [both]
    rcases side_cases i with rfl | rfl
    · rw [others' 0 (by decide)]
      exact ⟨normal, feeds⟩
    · refine ⟨normal', feeds'.trans ?_⟩
      simp only [Parts.sideIncomer, Parts.sideSettings, v, kept]
      rfl

end Sys2Proof.Machine

/-!
PROOF. The timers of the Changeover Unit (R120, R128, R132, R136).
-/

namespace Sys2Proof.Machine

variable {s t : Parts} {i : SideId} {d : DeviceId}

/-! ## Opens of several devices -/

/-- Trips of other devices leave a device and its record. -/
theorem foldl_sendOpen_other {q : Requester} {ds : List DeviceId} (out : d ∉ ds) (s : Parts) :
    s.SameDevice d (ds.foldl (fun s e => sendOpen e q s) s) := by
  induction ds generalizing s with
  | nil => exact ⟨rfl, rfl⟩
  | cons e ds ih =>
    obtain ⟨ne, out⟩ := not_or.mp (mt List.mem_cons.mpr out)
    exact (sendOpen_other q (Ne.symm ne)).trans (ih out _)

/-- Each device of a list is tripped as it stood. -/
theorem foldl_sendOpen_trips {q : Requester} {ds : List DeviceId} {h : Held DeviceSettings} (hq : q.isTrip = true)
    (nodup : ds.Nodup) (mem : d ∈ ds)
    (st : s.switching.devices[d].state = .closed ∨ s.switching.devices[d].state = .closing)
    (hd : s.store.devices[d] = some h) (hv : h.valid) :
    (ds.foldl (fun s e => sendOpen e q s) s).switching.devices[d] =
      s.switching.devices[d].openedBy q h.settings.breakerFailureTime := by
  induction ds generalizing s with
  | nil => cases mem
  | cons e ds ih =>
    obtain ⟨fresh, nodup⟩ := List.nodup_cons.mp nodup
    rw [List.foldl_cons]
    by_cases same : e = d
    · subst same
      rw [(foldl_sendOpen_other fresh _).device, sendOpen_trips hq st hd hv]
    · have kept := sendOpen_other (s := s) q same
      rw [ih nodup ((List.mem_cons.mp mem).resolve_left (Ne.symm same)) (by rw [kept.device]; exact st)
        (kept.record.trans hd), kept.device]

/-- Opens of several devices touch no more than those of one. -/
theorem foldl_sendOpen_operated {q : Requester} {ds : List DeviceId} (s : Parts) :
    (∃ vs rs a ns, ds.foldl (fun s e => sendOpen e q s) s = s.operated vs rs a ns) ∧
      s.Alerts (ds.foldl (fun s e => sendOpen e q s) s) := by
  induction ds generalizing s with
  | nil => exact ⟨⟨_, _, _, _, s.operated_self.symm⟩, .refl⟩
  | cons e ds ih =>
    obtain ⟨_, _, _, _, one⟩ := sendOpen_operated e q s
    obtain ⟨⟨_, _, _, _, rest⟩, alerts⟩ := ih (sendOpen e q s)
    exact ⟨⟨_, _, _, _, by rw [List.foldl_cons, rest, one]; rfl⟩, (sendOpen_alerts e q s).trans alerts⟩

/-- An open of a device that is not CLOSING aborts no close. -/
theorem DeviceLive.openedBy_closed {v : DeviceLive} (h : v.state = .closed) (q : Requester) (n : Nat) :
    v.openedBy q n = { v with
      state := .opening, owner := some q, origin := some q, failure := none, authorisations := ⟨false, false⟩,
      operateTimer := .running n, persistence := .stopped, abortedClose := false } := by
  unfold DeviceLive.openedBy
  rw [h]
  rfl

/-! ## Utilities (R120, R121) -/

theorem exec_lossTimerExpiry (u : UtilityId) (s : State) : exec (.lossTimerExpiry u) s = event (lossExpires u) s := rfl
theorem exec_returnTimerExpiry (u : UtilityId) (s : State) : exec (.returnTimerExpiry u) s = event (returnExpires u) s := rfl
theorem exec_deadTimerExpiry (i : SideId) (s : State) : exec (.deadTimerExpiry i) s = event (deadExpires i) s := rfl
theorem exec_retransferSyncTimerExpiry (i : SideId) (s : State) :
    exec (.retransferSyncTimerExpiry i) s = event (retransferSyncExpires i) s := rfl
theorem exec_overlapTimerExpiry (b : BusId) (s : State) : exec (.overlapTimerExpiry b) s = event (overlapExpires b) s := rfl

theorem lossExpires_idle {u : UtilityId} (h : ∀ n, s.changeover.utilities[u].timer ≠ .loss false n) :
    lossExpires u s = s := by
  unfold lossExpires
  dsimp only
  split
  next n e => exact absurd e (h n)
  · rfl

theorem returnExpires_idle {u : UtilityId} (h : ∀ n, s.changeover.utilities[u].timer ≠ .back false n) :
    returnExpires u s = s := by
  unfold returnExpires
  dsimp only
  split
  next n e => exact absurd e (h n)
  · rfl

theorem lossExpires_runs {u : UtilityId} {n : Nat} (h : s.changeover.utilities[u].timer = .loss false n) :
    lossExpires u s = setUtility u { s.changeover.utilities[u] with
      qualification := .lost, underlying := some .lost, timer := .stopped } s := by
  unfold lossExpires
  dsimp only
  rw [h]

theorem returnExpires_runs {u : UtilityId} {n : Nat} (h : s.changeover.utilities[u].timer = .back false n) :
    returnExpires u s = setUtility u { s.changeover.utilities[u] with
      qualification := .qualified, underlying := some .qualified, timer := .stopped } s := by
  unfold returnExpires
  dsimp only
  rw [h]

theorem onSide_same {f : Parts → Parts} (h : f s = s) : onSide i f s = s := by
  unfold onSide
  dsimp only
  rw [h, if_pos rfl]

/-- With no scheme in service the sides judge nothing. -/
theorem sideQualification_none {u : UtilityId} {q : Qualification} (h : s.changeover.scheme = none) :
    sideQualification u q i s = s := by
  unfold sideQualification Parts.sideSettings
  rw [h]
  rfl

theorem onSides_none {u : UtilityId} {q : Qualification} (h : s.changeover.scheme = none) :
    onSides (sideQualification u q) s = s := by
  rw [onSides_eq, onSide_same (sideQualification_none h), onSide_same (sideQualification_none h)]

/-- With no scheme in service a utility's change is its own, with its islands, its mark and its flag. -/
theorem setUtility_none (u : UtilityId) (z : UtilityLive) (h : s.changeover.scheme = none) :
    ∃ is m ns, setUtility u z s = { s with
      changeover.utilities := s.changeover.utilities.set u z
      topology.islands := is
      attention.changed := m
      notices := ns
      attention.flags.changeover := s.attention.flags.changeover ||
        (z.qualification == .lost && s.changeover.utilities[u].qualification != .lost) } := by
  let p : Parts := { s with changeover.utilities := s.changeover.utilities.set u z }
  unfold setUtility
  dsimp only
  split
  next same =>
    have quiet : (z.qualification == .lost && s.changeover.utilities[u].qualification != .lost) = false := by
      rw [same]
      cases z.qualification <;> rfl
    rw [quiet, Bool.or_false]
    exact ⟨_, _, _, rfl⟩
  next moved =>
    have first : ∃ is ns, (if (s.changeover.utilities[u].qualification.isLive != z.qualification.isLive) = true then
        recompute p else p) = { p with topology.islands := is, notices := ns } := by
      split
      · exact recompute_form p
      · exact ⟨_, _, rfl⟩
    obtain ⟨is, ns, e⟩ := first
    have judged := onSides_none (u := u) (q := z.qualification)
      (s := Parts.mark { p with topology.islands := is, notices := ns } (utilityIndex u)) h
    rw [e, judged]
    split
    next lost =>
      have flag : (z.qualification == .lost && s.changeover.utilities[u].qualification != .lost) = true := by
        rw [lost] at moved ⊢
        rw [bne_iff_ne.mpr moved]
        rfl
      rw [flag, Bool.or_true]
      exact ⟨is, _, ns, rfl⟩
    next other =>
      rw [beq_eq_false_iff_ne.mpr other, Bool.false_and, Bool.or_false]
      exact ⟨is, _, ns, rfl⟩

/-! ## The dead timer of a side (R127, R128) -/

theorem putSide_state (x : SideLive) : (putSide i x s).side i = x := getElem_set_fin_self _ _ _

theorem judgeDeadWait_other (h : (s.side i).state ≠ .deadWait) : judgeDeadWait i s = s := if_neg fun c => h c.1

theorem judgeRtOpening_other (h : (s.side i).state ≠ .rtOpening) : judgeRtOpening i s = s := if_neg fun c => h c.1

theorem judgeRtOpening_waits (h : (s.side i).openWait ≠ .met) : judgeRtOpening i s = s := if_neg fun c => h c.2.1

/-- Without a tie and with its own utility not QUALIFIED, a side's choice is its generator or to wait for a source (R128). -/
theorem chooseSource_alone {y : SchemeSettings} {own : Bool} (scheme : s.changeover.scheme = some y) (tie : y.tie = none)
    (lost : s.ownUtility i ≠ .qualified) : chooseSource s i own =
      if y.generatorBus.isSome && y.sides[i].generatorTie.isSome then .genWait else .awaitSource := by
  have unqualified : (s.ownUtility i == .qualified) = false := beq_eq_false_iff_ne.mpr lost
  have untied : tieOption s i = false := by
    have absent : s.sideTie = none := by rw [Parts.sideTie, scheme]; exact tie
    unfold tieOption
    rw [absent]
    rfl
  unfold chooseSource
  rw [scheme]
  dsimp only
  rw [unqualified, untied]
  simp only [Bool.and_false, Bool.false_eq_true, if_false]

/-- An entry into AWAIT_SOURCE from another state raises the flag. -/
theorem enterAwait_flag (h : (s.side i).state ≠ .awaitSource) :
    (enterSide i .awaitSource s).attention.flags.changeover = true := by
  obtain ⟨ns, m, form⟩ := enterSide_form i .awaitSource s
  rw [form]
  exact (congrArg (_ || ·) (decide_eq_true (.inr ⟨rfl, h⟩))).trans (Bool.or_true _)

theorem deadExpires_runs (h : (s.side i).dead.isRunning = true) : deadExpires i s =
    onSide i (fun s => judgeRtOpening i (judgeDeadWait i s)) (putSide i { s.side i with dead := .ended } s) := if_pos h

theorem deadExpires_waits (h : (s.side i).dead.isRunning = true) (h₁ : (s.side i).state ≠ .deadWait)
    (h₂ : (s.side i).state ≠ .rtOpening) : deadExpires i s = putSide i { s.side i with dead := .ended } s := by
  rw [deadExpires_runs h]
  refine onSide_same ?_
  rw [judgeDeadWait_other (by rw [putSide_state]; exact h₁), judgeRtOpening_other (by rw [putSide_state]; exact h₂)]

/-- A side in DEAD_WAIT on a DEAD bus takes its generator, or waits for a source. -/
theorem deadExpires_judges {y : SchemeSettings} {isl : Island} (h : (s.side i).dead.isRunning = true)
    (state : (s.side i).state = .deadWait) (scheme : s.changeover.scheme = some y) (tie : y.tie = none)
    (island : s.islandOf y.sides[i].bus = some isl) (dead : isl.energisation = .dead)
    (lost : s.changeover.utilities[y.sides[i].utility].qualification ≠ .qualified) :
    let p := putSide i { s.side i with dead := .ended } s
    let st : SideState := if y.generatorBus.isSome && y.sides[i].generatorTie.isSome then .genWait else .awaitSource
    ∃ ns, deadExpires i s = { enterSide i st p with notices := ns } := by
  intro p st
  have side : p.side i = { s.side i with dead := .ended } := putSide_state _
  have settings : p.sideSettings i = some y.sides[i] := by
    have kept : p.changeover.scheme = some y := scheme
    rw [Parts.sideSettings, kept]
    rfl
  have darkness : p.sideDead i = true := by
    have here : p.sideIsland i = some isl := by
      rw [Parts.sideIsland, settings]
      exact island
    unfold Parts.sideDead
    rw [here]
    exact beq_iff_eq.mpr dead
  have own : p.ownUtility i ≠ .qualified := by
    rw [Parts.ownUtility, settings]
    exact lost
  have chosen : chooseSource p i true = st := chooseSource_alone (y := y) scheme tie own
  have judged : judgeRtOpening i (judgeDeadWait i p) = enterSide i st p := by
    have acts : judgeDeadWait i p = takeOption i st p := by
      unfold judgeDeadWait
      rw [chosen, side]
      exact if_pos ⟨state, darkness, rfl⟩
    have plain : takeOption i st p = enterSide i st p := by
      simp only [st]
      split <;> rfl
    have entered : (enterSide i st p).side i = (p.side i).entered st (feedingAfter p i st) := enterSide_side i st p
    rw [acts, plain]
    refine judgeRtOpening_other ?_
    rw [entered]
    change st ≠ .rtOpening
    simp only [st]
    split <;> nofun
  obtain ⟨ns, told⟩ := onSide_form i (fun s => judgeRtOpening i (judgeDeadWait i s)) p
  exact ⟨ns, (deadExpires_runs h).trans (told.trans (by rw [judged]))⟩

/-! ## The retransfer sync timer of a side (R132) -/

/-- The end of an island sync leaves a device record that is VALID. -/
theorem withdrawIslandSync_record {h : Held DeviceSettings} (stored : s.store.devices[d] = some h) (valid : h.valid) :
    (withdrawIslandSync i s).store.devices[d] = some h := by
  have read (e : DeviceId) (u : Parts) (k : u.store.devices[d] = some h) :
      (readClosingTime e u).1.store.devices[d] = some h := by
    have used : (useDevice e u).1.store.devices[d] = some h := by
      by_cases same : e = d
      · subst same
        rw [useDevice_valid e h u k valid]
        exact k
      · exact (useDevice_record same).trans k
    unfold readClosingTime
    split
    next eq => rw [eq] at used; exact used
    next eq => rw [eq] at used; exact used
  have ended (u : Parts) (k : u.store.devices[d] = some h) : (endIslandSync u).store.devices[d] = some h := by
    unfold endIslandSync
    split
    · exact k
    next y _ =>
      obtain ⟨store, -, -, -⟩ := islandSync_ended y u
      dsimp only at store ⊢
      generalize y.incoming.elim _ _ = v at store ⊢
      have kept : v.store.devices[d] = some h := by rw [store]; exact k
      split
      · exact read _ { v with paralleling.waitingSync := none } kept
      · exact kept
  have dropped : (dropWaiting i s).store.devices[d] = some h := by
    unfold dropWaiting
    repeat' split
    all_goals exact stored
  rw [withdrawIslandSync_eq]
  repeat' split
  · exact ended _ dropped
  · exact dropped
  · exact dropped

/-- In RT_SYNC a side gives up its sync, and its CLOSED generator tie is opened. -/
theorem enterRtOpening_opens {h : Held DeviceSettings} (state : (s.side i).state = .rtSync)
    (closed : s.switching.devices[d].state = .closed) (stored : s.store.devices[d] = some h) (valid : h.valid) :
    (enterRtOpening i (some d) s).changeover.sides[i] = { s.side i with
        state := .rtOpening, step := none, sync := .stopped, closeSent := false, openWait := .completion d } ∧
      (enterRtOpening i (some d) s).switching.devices[d] =
        s.switching.devices[d].openedBy .changeover h.settings.openLimit := by
  obtain ⟨ns, m, form⟩ := enterSide_form i .rtOpening s
  let p := enterSide i .rtOpening s
  have entered : p.side i = (s.side i).entered .rtOpening (s.side i).feeding := enterSide_side i .rtOpening s
  have switching : p.switching = s.switching := by
    simp only [p]
    rw [form]
    exact withdrawOf_switching i _ s
  have record : p.store.devices[d] = some h := by
    simp only [p]
    rw [form, state]
    exact withdrawIslandSync_record stored valid
  have still : p.switching.devices[d].state = .closed := by rw [switching]; exact closed
  let q := startOpening p d .changeover h.settings.openLimit
  have opened : openRequest d .changeover p = (q, .accepted) := by
    rw [openRequest_starts (r := .changeover) ?_ ?_ ?_ ?_ (fun e => by cases e) record valid]
    · rfl
    all_goals rw [still]; simp
  have quiet : p.switching.devices[d].state ≠ .closing := by rw [still]; nofun
  have started := startOpening_quiet (r := .changeover) h.settings.openLimit quiet
  have device : q.switching.devices[d] = p.switching.devices[d].openedBy .changeover h.settings.openLimit := by
    simp only [q]
    rw [started]
    exact Parts.setDevice_self ..
  have sides : q.side i = p.side i := by
    simp only [q]
    rw [started]
    exact congrArg (fun c : ChangeoverUnit => c.sides[i]) (Parts.setDevice_changeover ..)
  let z : SideLive := { q.side i with openWait := .completion d }
  have waits : enterRtOpening i (some d) s = putSide i z q := by
    have asked : openFor (some d) p = (q, .completion d) := by
      unfold openFor
      dsimp only
      rw [opened]
    have form : enterRtOpening i (some d) s =
        judgeRtOpening i (putOpenWait i (openFor (some d) p).2 (openFor (some d) p).1) := rfl
    rw [form, asked]
    exact judgeRtOpening_waits (s := putSide i z q) (by rw [putSide_state]; nofun)
  rw [waits]
  refine ⟨?_, device.trans (by rw [switching])⟩
  have side : (putSide i z q).changeover.sides[i] = z := putSide_state z
  rw [side]
  simp only [z]
  rw [sides, entered]
  rfl

/-! ## The overlap timer of an island (R136) -/

theorem overlapOpens_nodup (s : Parts) (isl : Island) : (overlapOpens s isl).Nodup := by
  unfold overlapOpens
  have pick {c : Prop} [Decidable c] {a b : List DeviceId} (ha : a.Nodup) (hb : b.Nodup) : (if c then a else b).Nodup := by
    split
    · exact ha
    · exact hb
  refine pick ((List.nodup_finRange 48).filter _) (List.Nodup.filter _ ?_)
  split
  · exact ascending_nodup _
  · exact .nil

/-- A retransfer that synchronises too long opens the side's generator tie. -/
theorem retransferSyncExpires_form {s : Parts} {i : SideId} {d : DeviceId} (state : (s.side i).state = .rtSync)
    (runs : (s.side i).sync.isRunning = true) (tie : s.sideGeneratorTie i = some d) :
    ∃ ns, retransferSyncExpires i s = { enterRtOpening i (some d) s with notices := ns } := by
  obtain ⟨ns, told⟩ := onSide_form i (fun p => enterRtOpening i (p.sideGeneratorTie i) p) s
  have expires : retransferSyncExpires i s = onSide i (fun p => enterRtOpening i (p.sideGeneratorTie i) p) s :=
    if_pos ⟨state, runs⟩
  dsimp only at told
  rw [tie] at told
  exact ⟨ns, expires.trans told⟩

/-- Settles O44: each timer that runs out is the judgement of its utility, its side or its island. -/
theorem changeoverTimersExpire : Obligations.ChangeoverTimersExpire := by
  refine ⟨fun u s live => ?_, fun i s live => ?_, fun b s live => ?_⟩
  · intro x becomes
    have unit (z : UtilityLive) (none : s.parts.changeover.scheme = Option.none) :
        (setUtility u z s.parts).changeover =
            { s.parts.changeover with utilities := s.parts.changeover.utilities.set u z } ∧
          (setUtility u z s.parts).attention.flags = { s.parts.attention.flags with
            changeover := s.parts.attention.flags.changeover ||
              (z.qualification == .lost && x.qualification != .lost) } ∧
          { setUtility u z s.parts with
            changeover := s.parts.changeover, attention := s.parts.attention, notices := []
            topology.islands := s.parts.topology.islands } = s.parts := by
      obtain ⟨is, m, ns, form⟩ := setUtility_none u z none
      rw [form]
      refine ⟨rfl, rfl, ?_⟩
      change { s.parts with notices := [] } = s.parts
      rw [← live.2.1]
    refine ⟨fun idle => event_idle live (lossExpires_idle idle), fun idle => event_idle live (returnExpires_idle idle),
      fun n runs => ⟨?_, unit _⟩, fun n runs => ⟨?_, unit _⟩⟩
    · rw [exec_lossTimerExpiry, event_live _ _ live.1, lossExpires_runs runs]
    · rw [exec_returnTimerExpiry, event_live _ _ live.1, returnExpires_runs runs]
  · intro x
    refine ⟨fun still => event_idle live (if_neg (by rw [Parts.side, still]; decide)), fun runs other other' => ?_,
      fun y isl runs state scheme tie island dead lost => ?_, fun idle => event_idle live (if_neg fun c => ?_),
      fun d h state runs tie closed stored valid => ?_⟩
    · exact event_calm live (deadExpires_waits runs other other') ⟨live.2.1, live.2.2⟩
    · obtain ⟨ns, judged⟩ := deadExpires_judges runs state scheme tie island dead lost
      refine ⟨_, (exec_deadTimerExpiry i s).trans (event_live _ _ live.1), fun bus generator => ?_, fun absent => ?_⟩
      · rw [judged, bus, generator]
        have side := enterSide_side i .genWait (putSide i { s.parts.side i with dead := .ended } s.parts)
        exact ⟨congrArg SideLive.state side, congrArg SideLive.step side, congrArg SideLive.supply side⟩
      · have none : (y.generatorBus.isSome && y.sides[i].generatorTie.isSome) = false := by
          rcases absent with e | e
          · rw [e]
            rfl
          · rw [e]
            exact Bool.and_false _
        rw [judged, none]
        refine ⟨congrArg SideLive.state
          (enterSide_side i .awaitSource (putSide i { s.parts.side i with dead := .ended } s.parts)), ?_⟩
        refine enterAwait_flag (s := putSide i { s.parts.side i with dead := .ended } s.parts) ?_
        rw [putSide_state]
        change x.state ≠ _
        rw [state]
        nofun
    · rcases idle with other | still
      · exact other c.1
      · have run : x.sync.isRunning = true := c.2
        rw [still] at run
        cases run
    · obtain ⟨ns, told⟩ := retransferSyncExpires_form state runs tie
      obtain ⟨side, device⟩ := enterRtOpening_opens (i := i) state closed stored valid
      refine ⟨_, (exec_retransferSyncTimerExpiry i s).trans (event_live _ _ live.1), ?_⟩
      rw [told]
      generalize enterRtOpening i (some d) s.parts = p at side device
      exact ⟨side, device.trans (DeviceLive.openedBy_closed closed _ _)⟩
  · refine ⟨fun absent => event_idle live (if_neg ?_), fun present => ?_⟩
    · rw [List.any_eq_true]
      rintro ⟨o, mem, here⟩
      exact absent o mem (beq_iff_eq.mp here)
    · have any : (s.parts.changeover.overlaps.any fun t => t.island == b) = true := by
        obtain ⟨o, mem, here⟩ := present
        exact List.any_eq_true.mpr ⟨o, mem, beq_iff_eq.mpr here⟩
      let p : Parts := Parts.raise
        { s.parts with changeover.overlaps := restartOverlap b s.parts.changeover.overlaps } .changeover
      have expires : overlapExpires b s.parts = match s.parts.island? b with
          | some isl => (overlapOpens s.parts isl).foldl (fun s d => sendOpen d .overlap s) p
          | none => p := if_pos any
      have flag : p.attention.flags.has .changeover = true := raise_has .changeover
      refine ⟨_, (exec_overlapTimerExpiry b s).trans (event_live _ _ live.1), ?_, ?_, fun isl island d mem h closed stored valid => ?_⟩
      all_goals rw [expires]
      · cases s.parts.island? b with
        | none => exact flag
        | some isl => exact (foldl_sendOpen_operated p).2.flags .changeover flag
      · cases s.parts.island? b with
        | none => rfl
        | some isl =>
          obtain ⟨⟨_, _, _, _, form⟩, -⟩ := foldl_sendOpen_operated (q := .overlap) (ds := overlapOpens s.parts isl) p
          dsimp only
          rw [form]
          rfl
      · rw [island]
        dsimp only
        have was : p.switching.devices[d].state = .closed := closed
        rw [foldl_sendOpen_trips (s := p) (q := .overlap) rfl (overlapOpens_nodup _ _) mem (.inl was) stored valid,
          DeviceLive.openedBy_closed was]
        rfl

end Sys2Proof.Machine

/-!
PROOF. The operations of a generator (R138, R140 to R142, R151), the host's generator requests (R152) and the timers of the
Paralleling Unit (R141, R146, R150, R151).
-/

namespace Sys2Proof.Machine

variable {r s t : Parts} {g : GeneratorId}

/-! ## Writes that move no source (R138) -/

/-- Whether a generator is live is by its state and its device. -/
theorem generatorLive_put {x : GeneratorLive} (h : (s.gen g).state = x.state ∧ (s.gen g).settings = x.settings ∨
    (s.gen g).state.isRunning = false ∧ x.state.isRunning = false) :
    (s.putGen g x).generatorLive g = s.generatorLive g := by
  have here : (s.putGen g x).paralleling.generators[g] = x := getElem_set_fin_self _ _ _
  unfold Parts.generatorLive Parts.generatorDevice
  rw [here]
  rcases h with ⟨state, settings⟩ | ⟨still, still'⟩
  · rw [← state, ← settings]
    rfl
  · have was : s.paralleling.generators[g].state.isRunning = false := still
    rw [was, still', Bool.false_and, Bool.false_and]

/-- A write that leaves whether the generator is live and whether it shares sends no notice. -/
theorem setGenerator_quiet {x : GeneratorLive} (running : (s.putGen g x.kept).generatorLive g = s.generatorLive g)
    (state : (s.gen g).state = x.state ∨ (s.gen g).state.shares = false ∧ x.state.shares = false) :
    ∃ ls m, setGenerator g x s = { s.putGen g x.kept with lanes.lanes := ls, attention.changed := m } := by
  have online : ((s.gen g).state == .online) = (x.kept.state == .online) := by
    rw [x.kept_state]
    rcases state with e | ⟨e, e'⟩
    · rw [e]
    · have offline {st : GeneratorState} (h : st.shares = false) : (st == .online) = false :=
        beq_eq_false_iff_ne.mpr fun same => by rw [same] at h; cases h
      rw [offline e, offline e']
  have quiet : ¬((s.gen g).state ≠ x.kept.state ∧ ((s.gen g).state.shares || x.kept.state.shares) = true) := by
    rw [x.kept_state]
    rintro ⟨ne, shares⟩
    rcases state with e | ⟨e, e'⟩
    · exact ne e
    · rw [e, e'] at shares
      cases shares
  obtain ⟨m, marked⟩ := markIf_marks ((s.gen g).shown != x.kept.shown) (generatorIndex g) (s.putGen g x.kept)
  have live : ({ s.putGen g x.kept with attention.changed := m } : Parts).generatorLive g = s.generatorLive g := running
  have form : setGenerator g x s = if contentOf (s.gen g) != contentOf x.kept then
      sendCommand g { s.putGen g x.kept with attention.changed := m }
      else { s.putGen g x.kept with attention.changed := m } := by
    unfold setGenerator writeGenerator
    dsimp only
    rw [show (if x.state.shares = true then x else { x with target := 0, sequence := none }) = x.kept from rfl]
    rw [if_neg quiet]
    rw [Bool.false_or]
    have inner : ∀ u : Parts, u = (s.putGen g x.kept).markIf ((s.gen g).shown != x.kept.shown) (generatorIndex g) →
        (if ((s.gen g).state == .online) != (x.kept.state == .online) then
          (if (((s.gen g).state == .online) != (x.kept.state == .online) || s.generatorLive g != u.generatorLive g) = true
            then recompute u else u).send .rating
        else if (((s.gen g).state == .online) != (x.kept.state == .online) || s.generatorLive g != u.generatorLive g) = true
            then recompute u else u) = { s.putGen g x.kept with attention.changed := m } := by
      rintro u rfl
      rw [marked, live, online]
      simp
    rw [← inner _ rfl]
    rfl
  rw [form]
  split
  · unfold sendCommand offerContent
    dsimp only
    repeat' split
    all_goals exact ⟨_, _, rfl⟩
  · exact ⟨_, _, rfl⟩

/-- A write that leaves the commands too is the value and the mark alone. -/
theorem setGenerator_still {x : GeneratorLive} (state : (s.gen g).state = x.state) (settings : (s.gen g).settings = x.settings)
    (content : contentOf (s.gen g) = contentOf x.kept) :
    setGenerator g x s = (s.putGen g x.kept).markIf ((s.gen g).shown != x.kept.shown) (generatorIndex g) := by
  have settings' : (s.gen g).settings = x.kept.settings := by
    rw [settings]
    unfold GeneratorLive.kept
    split <;> rfl
  have running := generatorLive_put (s := s) (x := x.kept) (.inl ⟨state.trans x.kept_state.symm, settings'⟩)
  obtain ⟨m, marked⟩ := markIf_marks ((s.gen g).shown != x.kept.shown) (generatorIndex g) (s.putGen g x.kept)
  have live : ((s.putGen g x.kept).markIf ((s.gen g).shown != x.kept.shown) (generatorIndex g)).generatorLive g =
      s.generatorLive g := by
    rw [marked]
    exact running
  unfold setGenerator writeGenerator
  dsimp only
  rw [show (if x.state.shares = true then x else { x with target := 0, sequence := none }) = x.kept from rfl]
  rw [if_neg (by rw [state, x.kept_state]; exact fun c => c.1 rfl), if_neg (by rw [content]; simp)]
  rw [if_neg (by rw [state, x.kept_state]; simp)]
  change (if (_ || s.generatorLive g != ((s.putGen g x.kept).markIf ((s.gen g).shown != x.kept.shown)
    (generatorIndex g)).generatorLive g) = true then _ else _) = _
  rw [live, if_neg (by rw [state, x.kept_state]; simp)]
  rfl

/-- A generator that enters or leaves ONLINE moves its island's rating. -/
theorem writeGenerator_rating {asked : Bool} {x : GeneratorLive}
    (moved : ((s.gen g).state == .online) ≠ (x.state == .online)) :
    Notice.rating ∈ (writeGenerator asked g x s).notices := by
  have online : (((s.gen g).state == .online) != (x.kept.state == .online)) = true := by
    rw [x.kept_state]
    exact bne_iff_ne.mpr moved
  have offered (u : Parts) : (sendCommand g u).notices = u.notices := by
    obtain ⟨ls, form⟩ : ∃ ls, sendCommand g u = { u with lanes.lanes := ls } := by
      unfold sendCommand offerContent
      dsimp only
      repeat' split
      all_goals exact ⟨_, rfl⟩
    rw [form]
  have told {c : Prop} [Decidable c] (u : Parts) (h : Notice.rating ∈ u.notices) :
      Notice.rating ∈ (if c then u.send (.shares g) else u).notices := by
    split
    · exact List.mem_append_left _ h
    · exact h
  have commanded {c : Prop} [Decidable c] (u : Parts) (h : Notice.rating ∈ u.notices) :
      Notice.rating ∈ (if c then sendCommand g u else u).notices := by
    split
    · rw [offered]
      exact h
    · exact h
  unfold writeGenerator
  dsimp only
  rw [show (if x.state.shares = true then x else { x with target := 0, sequence := none }) = x.kept from rfl]
  refine told _ (commanded _ ?_)
  rw [if_pos online]
  exact List.mem_append_right _ List.mem_cons_self

/-! ## Queues and grants (R143) -/

theorem releaseGrants_form (g : GeneratorId) (s : Parts) :
    ∃ as ns, releaseGrants g s = { s with paralleling.arbiters := as, notices := ns } := by
  unfold releaseGrants
  generalize allBuses = l
  induction l generalizing s with
  | nil => exact ⟨_, _, rfl⟩
  | cons b l ih =>
    have one : ∃ as ns, (if holdsGrantOf s b g then releaseGrant b s else s) =
        { s with paralleling.arbiters := as, notices := ns } := by
      unfold releaseGrant
      repeat' split
      all_goals exact ⟨_, _, rfl⟩
    obtain ⟨as, ns, e⟩ := one
    obtain ⟨as', ns', e'⟩ := ih { s with paralleling.arbiters := as, notices := ns }
    exact ⟨as', ns', by rw [List.foldl_cons, e, e']⟩

/-! ## Entries into states (R138, R141, R142, R151) -/

/-- A generator as an entry into a state that neither shares nor synchronises leaves it. -/
def GeneratorLive.cleared (x : GeneratorLive) : GeneratorLive := { x.still.level with target := 0, sequence := none }

/-- A failed generator, whoever asks for the failure, and what it leaves. -/
theorem enterFailed_live (asked : Bool) (why : GeneratorFailure) (c : RunCommand) :
    (enterFailed asked g why c s).paralleling.generators[g] =
        { (s.gen g).cleared with state := .failed, failure := some why, run := c, reference := none } ∧
      (enterFailed asked g why c s).attention.flags.generator = true ∧
      (enterFailed asked g why c s).beyondSyncs = s.beyondSyncs ∧ s.Alerts (enterFailed asked g why c s) := by
  let x : GeneratorLive := { (s.gen g).still.level with state := .failed, failure := some why, run := c, reference := none }
  let p := leaveQueues g (writeGenerator asked g x s)
  obtain ⟨as, ns, form⟩ := releaseGrants_form g p
  obtain ⟨_, _, _, _, touched⟩ := (writeGenerator_touches asked g x s).form
  have live : p.paralleling.generators[g] = x.kept := writeGenerator_self asked g x s
  have alerts : s.Alerts p := (writeGenerator_alerts asked g x s).trans (.of_eq rfl)
  have beyond : p.beyondSyncs = s.beyondSyncs := (congrArg Parts.beyondSyncs touched :)
  have fails : enterFailed asked g why c s = Parts.raise (releaseGrants g p) .generator := rfl
  rw [fails, form]
  exact ⟨live, rfl, beyond, Parts.Alerts.trans (s := { p with paralleling.arbiters := as, notices := ns })
    (alerts.trans (.of_eq rfl)) (raise_alerts .generator)⟩

theorem failGenerator_live (why : GeneratorFailure) (c : RunCommand) :
    (failGenerator g why c s).paralleling.generators[g] =
        { (s.gen g).cleared with state := .failed, failure := some why, run := c, reference := none } ∧
      (failGenerator g why c s).attention.flags.generator = true := by
  obtain ⟨live, flag, -⟩ := enterFailed_live (s := s) (g := g) false why c
  exact ⟨live, flag⟩

theorem unloadGenerator_live : (unloadGenerator g s).paralleling.generators[g] = { s.gen g with
    state := .unloading, target := 0
    unloadTimer := .running (s.service.station.elim 0 StationSettings.unloadLimit * 1000) } :=
  writeGenerator_self ..

theorem unloadGenerator_rest : ∃ v, (unloadGenerator g s).paralleling = { s.paralleling with generators := v } :=
  ⟨_, writeGenerator_generators ..⟩

/-- An entry into STARTING by a record that is VALID. -/
theorem startGenerator_eq {h : Held GeneratorSettings} (stored : s.store.generators[g] = some h) (valid : h.valid) :
    startGenerator g s = leaveQueues g (setGenerator g { (s.gen g).still.level with
      state := .starting, run := .run, startTimer := .running (h.settings.startLimit * 1000), reference := none
      settings := some h.settings } (takeCopy g h.settings s)) := by
  have copied : (takeCopy g h.settings s).gen g = { s.gen g with settings := some h.settings } :=
    getElem_set_fin_self _ _ _
  unfold startGenerator
  rw [useGenerator_valid g h s stored valid]
  dsimp only
  rw [copied]
  rfl

theorem startGenerator_live {h : Held GeneratorSettings} (stored : s.store.generators[g] = some h) (valid : h.valid) :
    (startGenerator g s).paralleling.generators[g] = { (s.gen g).cleared with
        state := .starting, run := .run, startTimer := .running (h.settings.startLimit * 1000), reference := none
        settings := some h.settings } ∧
      (startGenerator g s).paralleling.islandTimers = s.paralleling.islandTimers := by
  rw [startGenerator_eq stored valid]
  constructor
  · exact writeGenerator_self ..
  · exact (congrArg ParallelingUnit.islandTimers (writeGenerator_generators ..) :)

end Sys2Proof.Machine

/-!
PROOF. The host's generator requests (R152).
-/

namespace Sys2Proof.Machine

variable {s : Parts} {g : GeneratorId}

/-! ## Rest, cooldown and disconnection (R151) -/

/-- A generator whose record a state reads stays with its settings. -/
theorem GeneratorLive.kept_settings (x : GeneratorLive) : x.kept.settings = x.settings := by
  unfold GeneratorLive.kept
  split <;> rfl

theorem startWanted_unwanted (h : s.supplyWanted = false) : startWanted s = s := if_neg (by rw [h]; decide)

theorem restFrom_down {x : GeneratorLive} (lane : s.laneUp g = false) :
    restFrom x g s = setGenerator g { x.still.level with state := .unavailable, run := .stop } s :=
  if_neg (by rw [lane]; decide)

theorem restFrom_up {x : GeneratorLive} (lane : s.laneUp g = true) (unwanted : s.supplyWanted = false) :
    restFrom x g s = setGenerator g { x.still.level with state := .stopped, run := .stop } s := by
  unfold restFrom
  rw [if_pos lane]
  refine startWanted_unwanted ?_
  unfold Parts.supplyWanted at unwanted ⊢
  rw [setGenerator_changeover]
  exact unwanted

theorem coolGenerator_live {y : GeneratorSettings} (settings : (s.gen g).settings = some y) (time : y.cooldown ≠ 0) :
    (coolGenerator g s).paralleling.generators[g] = { (s.gen g).cleared with
      state := .cooldown, run := .stop, cooldownTimer := .running (y.cooldown * 1000), reference := none } := by
  have read : (s.gen g).settings.elim 0 GeneratorSettings.cooldown = y.cooldown := by rw [settings]; rfl
  unfold coolGenerator
  dsimp only
  generalize (s.gen g).settings.elim 0 GeneratorSettings.cooldown = time' at read
  subst read
  split
  next zero => exact absurd zero time
  next => exact writeGenerator_self ..

/-- An entry that ends what a generator waits for and holds: the generator, and no device and no record. -/
theorem releaseGrants_left (x : GeneratorLive) :
    (releaseGrants g (leaveQueues g (setGenerator g x s))).gen g = x.kept ∧
      (releaseGrants g (leaveQueues g (setGenerator g x s))).switching = s.switching ∧
      (releaseGrants g (leaveQueues g (setGenerator g x s))).store = s.store := by
  obtain ⟨ls, is, m, ns, touched⟩ := (setGenerator_touches g x s).form
  obtain ⟨as, ns', released⟩ := releaseGrants_form g (leaveQueues g (setGenerator g x s))
  rw [released]
  refine ⟨writeGenerator_self false g x s, ?_, ?_⟩
  · exact (congrArg Parts.switching touched :)
  · exact (congrArg Parts.store touched :)

/-- A disconnection opens a CLOSED device whose record is VALID. -/
theorem disconnectGenerator_opens {y : GeneratorSettings} {h : Held DeviceSettings}
    (settings : (s.gen g).settings = some y) (closed : s.switching.devices[y.device].state = .closed)
    (stored : s.store.devices[y.device] = some h) (valid : h.valid) :
    (disconnectGenerator g s).paralleling.generators[g] = { (s.gen g).cleared with state := .disconnecting } ∧
      (disconnectGenerator g s).switching.devices[y.device] =
        s.switching.devices[y.device].openedBy .paralleling h.settings.openLimit := by
  obtain ⟨live, switching, store⟩ := releaseGrants_left (s := s) (g := g)
    { (s.gen g).still.level with state := .disconnecting }
  unfold disconnectGenerator disconnectWith
  dsimp only
  generalize releaseGrants g (leaveQueues g (setGenerator g
    { (s.gen g).still.level with state := .disconnecting } s)) = p at live switching store ⊢
  have live' : p.gen g = { (s.gen g).cleared with state := .disconnecting } := live
  have device : p.generatorDevice g = some y.device := by
    change (p.gen g).settings.map _ = _
    rw [live']
    change (s.gen g).settings.map _ = _
    rw [settings]
    rfl
  have still : p.switching.devices[y.device].state = .closed := by rw [switching]; exact closed
  have opened : openRequest y.device .paralleling p = (startOpening p y.device .paralleling h.settings.openLimit,
      .accepted) := by
    rw [openRequest_starts (r := .paralleling) ?_ ?_ ?_ ?_ (fun e => by cases e) (by rw [store]; exact stored) valid]
    · rfl
    all_goals rw [still]; simp
  rw [device]
  dsimp only
  rw [opened]
  dsimp only
  rw [startOpening_quiet (s := p) (r := .paralleling) h.settings.openLimit (by rw [still]; nofun)]
  constructor
  · exact (congrArg (fun v : ParallelingUnit => v.generators[g]) (Parts.setDevice_paralleling ..)).trans live'
  · rw [Parts.setDevice_self, switching]

/-! ## Requests (R152) -/

theorem exec_generatorStart (t : Byte) (n : Nat) (s : State) :
    exec (.generatorStart t n) s = taking 0x60 t (bare (generatorRequest startJudge n)) s := rfl
theorem exec_generatorStop (t : Byte) (n : Nat) (s : State) :
    exec (.generatorStop t n) s = taking 0x61 t (bare (generatorRequest stopJudge n)) s := rfl
theorem exec_resetGenerator (t : Byte) (n : Nat) (s : State) :
    exec (.resetGenerator t n) s = taking 0x62 t (bare (generatorRequest resetJudge n)) s := rfl

variable {judge : GeneratorId → Parts → Parts × Status}

theorem generatorRequest_badIndex {n : Nat} (out : 12 ≤ n) : generatorRequest judge n s = (s, .badIndex) := by
  unfold generatorRequest
  rw [index?_none out]

theorem generatorRequest_state (h : s.service.inService = false ∨ isActive s.store.generators[g] = false) :
    generatorRequest judge g.val s = (s, .state) := by
  unfold generatorRequest
  rw [index?_val]
  refine if_pos ?_
  rcases h with h | h <;> rw [h]
  · exact .inl rfl
  · exact .inr rfl

theorem generatorRequest_judged {h : Held GeneratorSettings} (serving : s.service.inService = true)
    (stored : s.store.generators[g] = some h) (active : h.retired = false) :
    generatorRequest judge g.val s = judge g s := by
  have live : isActive s.store.generators[g] = true := by
    rw [stored]
    change (!h.retired) = true
    rw [active]
    rfl
  unfold generatorRequest
  rw [index?_val]
  exact if_neg (by rw [serving, live]; decide)

theorem isDamaged_stored {h : Held GeneratorSettings} (stored : s.store.generators[g] = some h) :
    isDamaged s.store.generators[g] = (h.integrity == .damaged) := by
  rw [stored]
  rfl

/-- A START or RESET of a DAMAGED record. -/
theorem startJudge_damaged (bad : isDamaged s.store.generators[g] = true) : startJudge g s = (s, .damaged) := if_pos bad

theorem resetJudge_damaged (bad : isDamaged s.store.generators[g] = true) : resetJudge g s = (s, .damaged) :=
  if_pos (.inr bad)

theorem startJudge_state (sound : isDamaged s.store.generators[g] = false)
    (h : (s.gen g).state = .unavailable ∨ (s.gen g).state = .failed ∨ (s.gen g).state = .unloading ∨
      (s.gen g).state = .disconnecting ∨ (s.gen g).state = .cooldown) : startJudge g s = (s, .state) := by
  unfold startJudge
  rw [if_neg (by rw [sound]; decide)]
  rcases h with h | h | h | h | h <;> rw [h]

/-- START of a STOPPED generator. -/
theorem startJudge_stopped (sound : isDamaged s.store.generators[g] = false) (stopped : (s.gen g).state = .stopped) :
    startJudge g s = if (s.gen g).mark = .run then (s, .already)
      else (startGenerator g (setGenerator g { s.gen g with mark := .run } s), .ok) := by
  unfold startJudge
  rw [if_neg (by rw [sound]; decide), stopped]
  rfl

theorem stopJudge_already (held : (s.gen g).mark = .held) (rest : (s.gen g).state = .stopped ∨
    (s.gen g).state = .unavailable ∨ (s.gen g).state = .cooldown ∨ (s.gen g).state = .failed) :
    stopJudge g s = (s, .already) := by
  unfold stopJudge
  refine if_pos ⟨held, ?_⟩
  rcases rest with h | h | h | h <;> rw [h]

theorem stopJudge_moves (moving : (s.gen g).state = .online ∨ (s.gen g).state = .starting) :
    stopJudge g s = (stopByState g (setGenerator g { s.gen g with mark := .held } s), .ok) := by
  unfold stopJudge
  refine if_neg ?_
  rcases moving with h | h <;> rw [h] <;> exact fun c => Bool.false_ne_true c.2

theorem resetJudge_failed (sound : isDamaged s.store.generators[g] = false) (failed : (s.gen g).state = .failed)
    (cause : (s.gen g).failure ≠ some .damaged) : resetJudge g s =
      if (s.generatorDevice g).any s.isConducting then (s, .state)
      else (restFrom { s.gen g with failure := none, mark := .none } g s, .ok) := by
  unfold resetJudge
  dsimp only
  rw [if_neg (not_or.mpr ⟨fun c => cause c.2, by rw [sound]; decide⟩), if_pos failed]

theorem resetJudge_sound (sound : isDamaged s.store.generators[g] = false) (live : (s.gen g).state ≠ .failed) :
    resetJudge g s = if (s.gen g).mark = .none then (s, .state)
      else (setGenerator g { s.gen g with mark := .none } s, .ok) := by
  unfold resetJudge
  dsimp only
  rw [if_neg (not_or.mpr ⟨fun c => live c.1, by rw [sound]; decide⟩), if_neg live]

/-- A host mark written. -/
theorem setGenerator_mark (m : HostMark) : ∃ ls c, setGenerator g { s.gen g with mark := m } s =
    { s.putGen g { s.gen g with mark := m }.kept with lanes.lanes := ls, attention.changed := c } :=
  setGenerator_quiet (generatorLive_put (.inl ⟨(GeneratorLive.kept_state { s.gen g with mark := m }).symm,
    (GeneratorLive.kept_settings { s.gen g with mark := m }).symm⟩)) (.inl rfl)

theorem gen_setGenerator (x : GeneratorLive) : (setGenerator g x s).gen g = x.kept := writeGenerator_self false g x s

theorem leaveQueues_form (g : GeneratorId) (s : Parts) :
    ∃ as, leaveQueues g s = { s with paralleling.arbiters := as } := ⟨_, rfl⟩

/-- A STOPPED generator started by the host: the generator, the lanes, the queues and the marks alone. -/
theorem startStopped_form {h : Held GeneratorSettings} (stored : s.store.generators[g] = some h) (valid : h.valid)
    (stopped : (s.gen g).state = .stopped) : ∃ as ls m,
    startGenerator g (setGenerator g { s.gen g with mark := .run } s) = { s with
      paralleling.generators := s.paralleling.generators.set g { (s.gen g).cleared with
        state := .starting, run := .run, mark := .run, reference := none, settings := some h.settings
        startTimer := .running (h.settings.startLimit * 1000) }
      paralleling.arbiters := as
      lanes.lanes := ls
      attention.changed := m } := by
  obtain ⟨ls, c, marked⟩ := setGenerator_mark (s := s) (g := g) .run
  let q := setGenerator g { s.gen g with mark := .run } s
  have gen : q.gen g = { s.gen g with mark := .run, target := 0, sequence := none } :=
    (gen_setGenerator _).trans (GeneratorLive.kept_plain (by change (s.gen g).state.shares = false; rw [stopped]; rfl))
  have stored' : q.store.generators[g] = some h := by
    have store : q.store = s.store := setGenerator_store ..
    rw [store]
    exact stored
  let z : GeneratorLive := { (q.gen g).still.level with
    state := .starting, run := .run, startTimer := .running (h.settings.startLimit * 1000), reference := none
    settings := some h.settings }
  have copied : (takeCopy g h.settings q).gen g = { q.gen g with settings := some h.settings } := getElem_set_fin_self _ _ _
  have idle : ((takeCopy g h.settings q).gen g).state = .stopped := by
    rw [copied, gen]
    exact stopped
  obtain ⟨ls', c', started⟩ := setGenerator_quiet (s := takeCopy g h.settings q) (g := g) (x := z)
    (generatorLive_put (.inr ⟨by rw [idle]; rfl, by rw [GeneratorLive.kept_state]; rfl⟩))
    (.inr ⟨by rw [idle]; rfl, rfl⟩)
  have value : z.kept = { (s.gen g).cleared with
      state := .starting, run := .run, mark := .run, reference := none, settings := some h.settings
      startTimer := .running (h.settings.startLimit * 1000) } := by
    rw [GeneratorLive.kept_plain rfl]
    simp only [z, gen]
    rfl
  have form : startGenerator g q = leaveQueues g (setGenerator g z (takeCopy g h.settings q)) := startGenerator_eq stored' valid
  rw [form, started, value]
  have generators : q.paralleling.generators = s.paralleling.generators.set g { s.gen g with mark := .run }.kept := by
    simp only [q]
    rw [marked]
    rfl
  obtain ⟨as, left⟩ := leaveQueues_form g { (takeCopy g h.settings q).putGen g { (s.gen g).cleared with
      state := .starting, run := .run, mark := .run, reference := none, settings := some h.settings
      startTimer := .running (h.settings.startLimit * 1000) } with lanes.lanes := ls', attention.changed := c' }
  refine ⟨as, ls', c', left.trans ?_⟩
  unfold takeCopy Parts.putGen
  dsimp only
  rw [generators, Vector.set_set, Vector.set_set]
  simp only [q]
  rw [marked]
  rfl

/-- A STOP of a generator that carries load unloads it. -/
theorem stopByState_online (online : (s.gen g).state = .online) :
    let u := stopByState g (setGenerator g { s.gen g with mark := .held } s)
    u.paralleling.generators[g] = { s.gen g with
        state := .unloading, mark := .held, target := 0
        unloadTimer := .running (s.service.station.elim 0 StationSettings.unloadLimit * 1000) } ∧
      Notice.rating ∈ u.notices := by
  intro u
  let q := setGenerator g { s.gen g with mark := .held } s
  have gen : q.gen g = { s.gen g with mark := .held } := by
    refine (gen_setGenerator _).trans (if_pos ?_)
    change (s.gen g).state.shares = true
    rw [online]
    rfl
  have state : (q.gen g).state = .online := by rw [gen]; exact online
  have unloads : u = unloadGenerator g q := by
    change stopByState g q = _
    unfold stopByState
    rw [state]
  have service : q.service = s.service := by
    obtain ⟨ls, c, marked⟩ := setGenerator_mark (s := s) (g := g) .held
    exact (congrArg Parts.service marked :)
  rw [unloads]
  refine ⟨?_, writeGenerator_rating (by rw [state]; nofun)⟩
  rw [unloadGenerator_live, gen, service]

/-- A STOP of a generator that starts cools it. -/
theorem stopByState_starting {y : GeneratorSettings} (starting : (s.gen g).state = .starting)
    (settings : (s.gen g).settings = some y) (time : y.cooldown ≠ 0) :
    (stopByState g (setGenerator g { s.gen g with mark := .held } s)).paralleling.generators[g] = { (s.gen g).cleared with
      state := .cooldown, run := .stop, mark := .held, reference := none
      cooldownTimer := .running (y.cooldown * 1000) } := by
  let q := setGenerator g { s.gen g with mark := .held } s
  have gen : q.gen g = { s.gen g with mark := .held, target := 0, sequence := none } :=
    (gen_setGenerator _).trans (GeneratorLive.kept_plain (by change (s.gen g).state.shares = false; rw [starting]; rfl))
  have cools : stopByState g q = coolGenerator g q := by
    unfold stopByState
    rw [show (q.gen g).state = .starting by rw [gen]; exact starting]
  change (stopByState g q).paralleling.generators[g] = _
  rw [cools, coolGenerator_live (by rw [gen]; exact settings) time, gen]
  rfl

/-- A FAILED generator reset to STOPPED: the generator, the lanes and the marks alone. -/
theorem resetFailed_form (failed : (s.gen g).state = .failed) (lane : s.laneUp g = true)
    (unwanted : s.supplyWanted = false) : ∃ ls m,
    restFrom { s.gen g with failure := none, mark := .none } g s =
      { s.putGen g { (s.gen g).cleared with state := .stopped, run := .stop, mark := .none, failure := none } with
        lanes.lanes := ls, attention.changed := m } := by
  rw [restFrom_up lane unwanted]
  exact setGenerator_quiet (generatorLive_put (.inr ⟨by rw [failed]; rfl, rfl⟩)) (.inr ⟨by rw [failed]; rfl, rfl⟩)

/-! ## Answers (R152) -/

/-- A request judged answers as it was judged, once the event has settled. -/
theorem taking_judges (code : Nat) (t : Byte) {owner : Parts → Parts × Status} {s : State} {u : Parts} {a : Status}
    (live : s.live) (judged : owner s.parts = (u, a)) :
    taking code t (bare owner) s = .next (s.answers code t a [] (settle u)) := by
  rw [taking_live _ _ _ _ live.1]
  simp only [bare, judged]

theorem taking_stands (code : Nat) (t : Byte) {owner : Parts → Parts × Status} {s : State} {a : Status}
    (live : s.live) (judged : owner s.parts = (s.parts, a)) :
    taking code t (bare owner) s = .next (s.answers code t a [] s.parts) :=
  taking_judged code t live.1 judged live.2

/-- Settles O46: the answers by the judgement of each request, and the generator by the entry that follows. -/
theorem generatorRequestsAreJudged : Obligations.GeneratorRequestsAreJudged := by
  unfold Obligations.GeneratorRequestsAreJudged
  intro t s live
  refine ⟨fun n out => ?_, fun g => ?_⟩
  · have no {judge} : generatorRequest judge n s.parts = (s.parts, .badIndex) := generatorRequest_badIndex out
    exact ⟨taking_stands _ t live no, taking_stands _ t live no, taking_stands _ t live no⟩
  intro x start stop reset still
  refine ⟨fun out => ?_, fun h serving stored active => ?_⟩
  · have no {judge} : generatorRequest judge g.val s.parts = (s.parts, .state) := generatorRequest_state out
    exact ⟨taking_stands _ t live no, taking_stands _ t live no, taking_stands _ t live no⟩
  have judged (judge) : generatorRequest judge g.val s.parts = judge g s.parts :=
    generatorRequest_judged serving stored active
  have sound (i : h.integrity ≠ .damaged) : isDamaged s.parts.store.generators[g] = false := by
    rw [isDamaged_stored stored]
    exact beq_eq_false_iff_ne.mpr i
  refine ⟨fun damaged => ?_, fun valid => ⟨fun state => ?_, fun stopped marked => ?_, fun stopped unmarked => ?_⟩,
    fun held rest => ?_, fun online => ?_, fun y starting settings time => ?_, fun d failed cause sane device => ⟨?_, ?_⟩,
    fun live' sane mark => ?_, fun live' sane mark => ?_⟩
  · have bad : isDamaged s.parts.store.generators[g] = true := by
      rw [isDamaged_stored stored, damaged]
      rfl
    exact ⟨taking_stands _ t live ((judged _).trans (startJudge_damaged bad)),
      taking_stands _ t live ((judged _).trans (resetJudge_damaged bad))⟩
  · exact taking_stands _ t live ((judged _).trans (startJudge_state (sound valid.1) state))
  · exact taking_stands _ t live ((judged _).trans
      ((startJudge_stopped (sound valid.1) stopped).trans (if_pos marked)))
  · obtain ⟨as, ls, m, started⟩ := startStopped_form stored valid stopped
    have starts := (judged _).trans ((startJudge_stopped (sound valid.1) stopped).trans (if_neg unmarked))
    refine ⟨_, taking_judged _ t live.1 starts ?_, ?_, fun j other => ?_, ?_⟩
    all_goals rw [started]
    · exact ⟨live.2.1, live.2.2⟩
    · exact getElem_set_fin_self _ _ _
    · exact getElem_set_fin_ne _ _ _ _ (Ne.symm other)
  · exact taking_stands _ t live ((judged _).trans (stopJudge_already held rest))
  · obtain ⟨unloads, rating⟩ := stopByState_online online
    exact ⟨_, taking_judges _ t live ((judged _).trans (stopJudge_moves (.inl online))), unloads, rating⟩
  · exact ⟨_, taking_judges _ t live ((judged _).trans (stopJudge_moves (.inr starting))),
      stopByState_starting starting settings time⟩
  · intro conducts
    refine taking_stands _ t live ((judged _).trans ((resetJudge_failed (sound sane) failed cause).trans (if_pos ?_)))
    rw [device]
    exact conducts
  · intro opened lane unwanted
    obtain ⟨ls, m, rested⟩ := resetFailed_form failed lane unwanted
    have resets := (judged _).trans ((resetJudge_failed (sound sane) failed cause).trans
      (if_neg (by rw [device]; exact fun c => Bool.false_ne_true (opened.symm.trans c))))
    refine ⟨_, taking_judged _ t live.1 resets ?_, ?_⟩
    all_goals rw [rested]
    · exact ⟨live.2.1, live.2.2⟩
    · exact getElem_set_fin_self _ _ _
  · exact taking_stands _ t live ((judged _).trans ((resetJudge_sound (sound sane) live').trans (if_pos mark)))
  · refine ⟨_, taking_judges _ t live ((judged _).trans ((resetJudge_sound (sound sane) live').trans (if_neg mark))), ?_, ?_⟩
    all_goals rw [show ∀ u : Parts, u.paralleling.generators[g] = u.gen g from fun _ => rfl, gen_setGenerator]
    · unfold GeneratorLive.kept
      split <;> rfl
    · exact GeneratorLive.kept_state _

end Sys2Proof.Machine

/-!
PROOF. The timers of the Paralleling Unit (R141, R146, R150, R151).
-/

namespace Sys2Proof.Machine

variable {s : Parts} {g : GeneratorId}

/-! ## The timers of an island (R150, R151) -/

theorem find?_insertBy {α : Type} {before : α → α → Bool} {p : α → Bool} {x : α} (here : p x = true) :
    ∀ {xs : List α}, (∀ y ∈ xs, p y = false) → (insertBy before x xs).find? p = some x
  | [], _ => List.find?_cons_of_pos here
  | y :: ys, absent => by
    have ⟨no, rest⟩ := List.forall_mem_cons.mp absent
    unfold insertBy
    split
    · exact List.find?_cons_of_pos here
    · rw [List.find?_cons_of_neg (by rw [no]; decide), find?_insertBy here rest]

theorem timersOf_island (b : BusId) : (s.timersOf b).island = b := by
  unfold Parts.timersOf
  cases found : s.paralleling.islandTimers.find? (·.island == b) with
  | none => rfl
  | some o => exact beq_iff_eq.mp (List.find?_some (p := fun o : IslandTimers => o.island == b) found)

theorem timersOf_setTimers (o : IslandTimers) : (setTimers o s).timersOf o.island = o := by
  have found : (setTimers o s).paralleling.islandTimers.find? (·.island == o.island) = some o := by
    refine find?_insertBy (p := fun y : IslandTimers => y.island == o.island) (beq_self_eq_true o.island) fun y mem => ?_
    have other := (List.mem_filter.mp mem).2
    exact beq_eq_false_iff_ne.mpr (bne_iff_ne.mp other)
  unfold Parts.timersOf
  rw [found]
  rfl

/-- The timers of an island are read from the list alone. -/
theorem timersOf_congr {u v : Parts} (same : u.paralleling.islandTimers = v.paralleling.islandTimers) (b : BusId) :
    u.timersOf b = v.timersOf b := by
  unfold Parts.timersOf
  rw [same]

/-- What an add or a remove timer that expires writes. -/
theorem timersOf_written {b : BusId} {o : IslandTimers} {u : Parts} (id : o.island = b)
    (same : u.paralleling.islandTimers = (setTimers o s).paralleling.islandTimers) : u.timersOf b = o := by
  rw [timersOf_congr same, ← id]
  exact timersOf_setTimers o

/-- The condition of an add candidate. -/
theorem addCandidate_iff {i : Island} :
    ((s.gen g).state == .stopped && (s.gen g).mark != .held && (s.generatorBus g).any i.members.contains) = true ↔
      (s.gen g).state = .stopped ∧ (s.gen g).mark ≠ .held ∧ ∃ y ∈ i.members, s.generatorBus g = some y := by
  rw [Bool.and_eq_true, Bool.and_eq_true, beq_iff_eq, bne_iff_ne, and_assoc, Option.any_eq_true]
  constructor
  · rintro ⟨state, mark, y, bus, mem⟩
    exact ⟨state, mark, y, List.contains_iff_mem.mp mem, bus⟩
  · rintro ⟨state, mark, y, mem, bus⟩
    exact ⟨state, mark, y, bus, List.contains_iff_mem.mpr mem⟩

theorem addExpires_runs {b : BusId} {i : Island} (island : s.island? b = some i) (runs : (s.timersOf b).add.isRunning = true) :
    addExpires b s =
      match addCandidate s i with
      | some g => startGenerator g (setTimers { s.timersOf b with
          add := .running (s.service.station.elim 0 StationSettings.addDelay * 1000) } s)
      | none => (setTimers { s.timersOf b with
          add := .running (s.service.station.elim 0 StationSettings.addDelay * 1000) } s).raise .generator := by
  unfold addExpires
  dsimp only
  rw [island]
  exact if_pos runs

theorem removeExpires_runs {b : BusId} {i : Island} (island : s.island? b = some i)
    (runs : (s.timersOf b).remove.isRunning = true) (candidate : removeCandidate s i = some g) :
    removeExpires b s = unloadGenerator g (setTimers { s.timersOf b with remove := .stopped } s) := by
  unfold removeExpires
  dsimp only
  rw [island]
  dsimp only
  rw [if_pos runs, show removeCandidate (setTimers { s.timersOf b with remove := .stopped } s) i = some g from candidate]

theorem addExpires_idle {b : BusId} (idle : (s.timersOf b).add.isRunning = false) : addExpires b s = s := by
  unfold addExpires
  cases s.island? b with
  | none => rfl
  | some i => exact if_neg (by rw [idle]; decide)

theorem removeExpires_idle {b : BusId} (idle : (s.timersOf b).remove.isRunning = false) : removeExpires b s = s := by
  unfold removeExpires
  cases s.island? b with
  | none => rfl
  | some i => exact if_neg (by rw [idle]; decide)

/-! ## The timers of a generator -/

theorem exec_startLimitExpiry (g : GeneratorId) (s : State) :
    exec (.startLimitExpiry g) s = event (startLimitExpires g) s := rfl
theorem exec_syncLimitExpiry (g : GeneratorId) (s : State) :
    exec (.syncLimitExpiry g) s = event (syncLimitExpires g) s := rfl
theorem exec_unloadLimitExpiry (g : GeneratorId) (s : State) :
    exec (.unloadLimitExpiry g) s = event (unloadLimitExpires g) s := rfl
theorem exec_cooldownExpiry (g : GeneratorId) (s : State) :
    exec (.cooldownExpiry g) s = event (cooldownExpires g) s := rfl
theorem exec_addTimerExpiry (b : BusId) (s : State) : exec (.addTimerExpiry b) s = event (addExpires b) s := rfl
theorem exec_removeTimerExpiry (b : BusId) (s : State) : exec (.removeTimerExpiry b) s = event (removeExpires b) s := rfl

theorem syncLimitExpires_syncing (state : (s.gen g).state = .syncing) (runs : (s.gen g).syncTimer.isRunning = true) :
    syncLimitExpires g s = failGenerator g .syncTimeout .stop s := by
  unfold syncLimitExpires
  rw [if_pos runs, state]

theorem syncLimitExpires_closing (state : (s.gen g).state = .syncClosing) (runs : (s.gen g).syncTimer.isRunning = true) :
    syncLimitExpires g s = setGenerator g { s.gen g with syncTimer := .ended } s := by
  unfold syncLimitExpires
  rw [if_pos runs, state]

/-- Settles O47: the expiry of each timer is the entry it takes, and that entry is written out. -/
theorem parallelingTimersExpire : Obligations.ParallelingTimersExpire := by
  unfold Obligations.ParallelingTimersExpire
  refine ⟨fun g s live => ?_, fun b i s live island => ?_⟩
  · intro x still becomes
    refine ⟨fun idle => event_idle live (if_neg ?_), fun state runs => ?_, fun state runs => ?_, fun state runs => ?_,
      fun y h state runs settings closed stored valid => ?_, fun state runs => ⟨fun lane => ?_, fun lane unwanted => ?_⟩⟩
    · rintro ⟨state, runs⟩
      rcases idle with other | idle
      · exact other state
      · exact Bool.false_ne_true (idle.symm.trans runs)
    · have expires : startLimitExpires g s.parts = failGenerator g .startTimeout .stop s.parts := if_pos ⟨state, runs⟩
      obtain ⟨fails, flag⟩ := failGenerator_live (s := s.parts) (g := g) .startTimeout .stop
      refine ⟨_, (exec_startLimitExpiry g s).trans (event_live _ _ live.1), ?_, fun _ => ?_⟩
      all_goals rw [expires]
      · exact fails
      · exact flag
    · obtain ⟨fails, flag⟩ := failGenerator_live (s := s.parts) (g := g) .syncTimeout .stop
      refine ⟨_, (exec_syncLimitExpiry g s).trans (event_live _ _ live.1), ?_, fun _ => ?_⟩
      all_goals rw [syncLimitExpires_syncing state runs]
      · exact fails
      · exact flag
    · refine ⟨_, (exec_syncLimitExpiry g s).trans (event_live _ _ live.1), ?_, nofun⟩
      rw [syncLimitExpires_closing state runs]
      refine (gen_setGenerator _).trans (GeneratorLive.kept_plain ?_)
      change x.state.shares = false
      rw [state]
      rfl
    · have expires : unloadLimitExpires g s.parts = disconnectGenerator g s.parts := if_pos ⟨state, runs⟩
      obtain ⟨live', device⟩ := disconnectGenerator_opens settings closed stored valid
      refine ⟨_, (exec_unloadLimitExpiry g s).trans (event_live _ _ live.1), ?_, ?_⟩
      all_goals rw [expires]
      · exact live'
      · rw [device, DeviceLive.openedBy_closed closed]
    · have expires : cooldownExpires g s.parts = restFrom x g s.parts := if_pos ⟨state, runs⟩
      refine ⟨_, (exec_cooldownExpiry g s).trans (event_live _ _ live.1), ?_, nofun⟩
      rw [expires, restFrom_down lane]
      exact gen_setGenerator _
    · have expires : cooldownExpires g s.parts = restFrom x g s.parts := if_pos ⟨state, runs⟩
      refine ⟨_, (exec_cooldownExpiry g s).trans (event_live _ _ live.1), ?_, nofun⟩
      rw [expires, restFrom_up lane unwanted]
      exact gen_setGenerator _
  · intro timers delay fits
    have id : timers.island = b := timersOf_island b
    refine ⟨fun idle => event_idle live (addExpires_idle idle), fun idle => event_idle live (removeExpires_idle idle),
      fun runs => ⟨fun unfit => ?_, fun g h fit first stored valid => ?_⟩, fun g runs candidate => ?_⟩
    · have absent : addCandidate s.parts i = none := List.find?_eq_none.mpr fun g _ c => unfit g (addCandidate_iff.mp c)
      have expires := addExpires_runs island runs
      rw [absent] at expires
      refine ⟨_, (exec_addTimerExpiry b s).trans (event_live _ _ live.1), ?_, ?_, ?_⟩
      all_goals rw [expires]
      · exact timersOf_written (o := { timers with add := .running delay }) id rfl
      · exact raise_has .generator
      · rfl
    · have candidate : addCandidate s.parts i = some g := find?_first (addCandidate_iff.mpr fit) fun j before =>
        Bool.eq_false_iff.mpr fun c => first j before (addCandidate_iff.mp c)
      have expires := addExpires_runs island runs
      rw [candidate] at expires
      obtain ⟨starts, rest⟩ := startGenerator_live (s := setTimers { timers with add := .running delay } s.parts)
        (g := g) stored valid
      refine ⟨_, (exec_addTimerExpiry b s).trans (event_live _ _ live.1), ?_, ?_, ?_, ?_⟩
      all_goals rw [expires]
      · exact timersOf_written (o := { timers with add := .running delay }) id rest
      · exact (congrArg GeneratorLive.state starts :)
      · exact (congrArg GeneratorLive.run starts :)
      · exact (congrArg GeneratorLive.startTimer starts :)
    · obtain ⟨v, rest⟩ := unloadGenerator_rest (s := setTimers { timers with remove := .stopped } s.parts) (g := g)
      have unloads := unloadGenerator_live (s := setTimers { timers with remove := .stopped } s.parts) (g := g)
      refine ⟨_, (exec_removeTimerExpiry b s).trans (event_live _ _ live.1), ?_, ?_, ?_⟩
      all_goals rw [removeExpires_runs island runs candidate]
      · exact timersOf_written (o := { timers with remove := .stopped }) id
          ((congrArg ParallelingUnit.islandTimers rest).trans rfl)
      · exact (congrArg GeneratorLive.state unloads :)
      · exact (congrArg GeneratorLive.target unloads :)

end Sys2Proof.Machine

/-!
PROOF. SYNC CLOSE and the limit of a host tie sync (R148).
-/

namespace Sys2Proof.Machine

variable {s : Parts} {g : GeneratorId} {d : DeviceId}

/-! ## A host mark of a generator that carries no load -/

/-- A mark set where a condition holds. -/
theorem markIf_eq (b : Bool) (i : StoreIndex) : s.markIf b i =
    { s with attention.changed := s.attention.changed.set i (s.attention.changed[i] || b) } := by
  unfold Parts.markIf
  cases b with
  | true =>
    rw [if_pos rfl, Bool.or_true]
    rfl
  | false =>
    rw [if_neg (by decide), Bool.or_false]
    have same : s.attention.changed.set i s.attention.changed[i] = s.attention.changed := Vector.set_getElem_self i.isLt
    rw [same]

/-- A host mark written on a generator with no target and no sequence number: its value and its record's mark alone. -/
theorem setGenerator_runs (target : (s.gen g).target = 0) (sequence : (s.gen g).sequence = none) :
    setGenerator g { s.gen g with mark := .run } s = { s.putGen g { s.gen g with mark := .run } with
      attention.changed := s.attention.changed.set (generatorIndex g)
        (s.attention.changed[generatorIndex g] || (s.gen g).mark != .run) } := by
  have kept : ({ s.gen g with mark := .run } : GeneratorLive).kept = { s.gen g with mark := .run } :=
    GeneratorLive.kept_none target sequence
  have shown : ((s.gen g).shown != ({ s.gen g with mark := .run } : GeneratorLive).shown) = ((s.gen g).mark != .run) := by
    rw [Bool.eq_iff_iff, bne_iff_ne, bne_iff_ne, not_iff_not]
    constructor
    · intro same
      exact congrArg (fun y => y.2.2.2.2.2.2) same
    · intro same
      unfold GeneratorLive.shown
      rw [same]
  rw [setGenerator_still (x := { s.gen g with mark := .run }) rfl rfl (by rw [kept]; rfl), markIf_eq, kept, shown]
  rfl

theorem setGenerator_runs_rest (target : (s.gen g).target = 0) (sequence : (s.gen g).sequence = none) :
    (setGenerator g { s.gen g with mark := .run } s).gen g = { s.gen g with mark := .run } ∧
      (setGenerator g { s.gen g with mark := .run } s).generatorBus g = s.generatorBus g ∧
      (setGenerator g { s.gen g with mark := .run } s).topology = s.topology ∧
      (setGenerator g { s.gen g with mark := .run } s).paralleling.arbiters = s.paralleling.arbiters ∧
      (setGenerator g { s.gen g with mark := .run } s).store = s.store := by
  rw [setGenerator_runs target sequence]
  have gen : (s.putGen g { s.gen g with mark := .run }).gen g = { s.gen g with mark := .run } := getElem_set_fin_self _ _ _
  refine ⟨gen, ?_, rfl, rfl, rfl⟩
  have device : (s.putGen g { s.gen g with mark := .run }).generatorDevice g = s.generatorDevice g :=
    (congrArg (fun x : GeneratorLive => x.settings.map GeneratorSettings.device) gen :)
  exact congrArg (fun x : Option DeviceId => x.bind s.terminalA) device

/-! ## Placing a READY generator (R141) -/

theorem leaveQueues_unqueued (c : BusId) : isQueued (leaveQueues g s) c g = false := by
  have queue : (leaveQueues g s).paralleling.arbiters[c] =
      s.paralleling.arbiters[c].map fun a => { a with queue := a.queue.filter (· != g) } := Vector.getElem_map ..
  unfold isQueued
  rw [queue]
  cases s.paralleling.arbiters[c] with
  | none => rfl
  | some a => exact Bool.eq_false_iff.mpr fun mem =>
      bne_iff_ne.mp (List.mem_filter.mp (List.contains_iff_mem.mp mem)).2 rfl

theorem placeGenerator_off {b : BusId} (bus : s.generatorBus g = some b)
    (off : ∀ i, s.islandOf b = some i → i.utilities ≠ [] ∨ i.energisation = .residual) :
    placeGenerator g s = leaveQueues g s := by
  unfold placeGenerator Parts.generatorIsland
  rw [bus, Option.bind_some]
  cases island : s.islandOf b with
  | none => rfl
  | some i =>
    dsimp only
    rcases off i island with fed | residual
    · rw [if_pos (by rw [List.isEmpty_eq_false_iff.mpr fed]; rfl)]
    · rw [residual]
      split <;> rfl

theorem placeGenerator_on {b : BusId} {i : Island} (bus : s.generatorBus g = some b) (island : s.islandOf b = some i)
    (unfed : i.utilities = []) : placeGenerator g s = match i.energisation with
      | .dead => joinArbiter b g s
      | .live => enterSyncing g true s
      | .residual => leaveQueues g s := by
  unfold placeGenerator Parts.generatorIsland
  rw [bus, Option.bind_some, island]
  exact if_neg (by rw [unfed]; decide)

theorem joinArbiter_self {b : BusId} {a : Arbiter} (arbiter : s.paralleling.arbiters[b] = some a) :
    (joinArbiter b g s).paralleling.arbiters[b] = some (if g ∈ a.queue then a else { a with queue := a.queue ++ [g] }) ∧
      (joinArbiter b g s).paralleling.generators = s.paralleling.generators := by
  unfold joinArbiter
  rw [arbiter]
  dsimp only
  by_cases mem : g ∈ a.queue
  · rw [if_pos (List.contains_iff_mem.mpr mem), if_pos mem]
    exact ⟨arbiter, rfl⟩
  · rw [if_neg (fun c => mem (List.contains_iff_mem.mp c)), if_neg mem]
    exact ⟨getElem_set_fin_self _ _ _, rfl⟩

/-- A read of a closing time whose record is VALID changes nothing. -/
theorem readClosingTime_valid {h : Held DeviceSettings} (stored : s.store.devices[d] = some h) (valid : h.valid) :
    readClosingTime d s = (s, h.settings.closingTime) := by
  unfold readClosingTime
  rw [useDevice_valid d h s stored valid]

/-- An entry into SYNCING by records that are VALID. -/
theorem enterSyncing_live {h : Held GeneratorSettings} {e : Held DeviceSettings}
    (stored : s.store.generators[g] = some h) (valid : h.valid)
    (device : s.store.devices[h.settings.device] = some e) (sound : e.valid) :
    let n := (enterSyncing g true s).paralleling.generators[g]
    (n.state = .syncing ∧ n.mark = (s.gen g).mark ∧ n.run = .run ∧ n.settings = some h.settings ∧
      n.closingTime = e.settings.closingTime ∧ n.startTimer = .stopped ∧
      n.syncTimer = .running (h.settings.syncLimit * 1000)) ∧
    ∀ c : BusId, isQueued (enterSyncing g true s) c g = false := by
  intro n
  let q := takeCopy g h.settings s
  let x : GeneratorLive := { (q.gen g).level with
    state := .syncing, run := .run, startTimer := .stopped, reference := chooseReference q g
    closingTime := e.settings.closingTime, syncTimer := .running (h.settings.syncLimit * 1000) }
  have copied : q.gen g = { s.gen g with settings := some h.settings } := getElem_set_fin_self _ _ _
  have enters : enterSyncing g true s = leaveQueues g (setGenerator g x q) := by
    unfold enterSyncing
    rw [useGenerator_valid g h s stored valid]
    dsimp only
    rw [readClosingTime_valid (s := takeCopy g h.settings s) device sound]
    rfl
  have live : n = x.kept := by
    change (enterSyncing g true s).paralleling.generators[g] = _
    rw [enters]
    exact gen_setGenerator x
  rw [live, GeneratorLive.kept_plain rfl, enters]
  refine ⟨⟨rfl, ?_, rfl, ?_, rfl, rfl, rfl⟩, leaveQueues_unqueued⟩
  · exact (congrArg GeneratorLive.mark copied :)
  · exact (congrArg GeneratorLive.settings copied :)

/-! ## SYNC CLOSE (R148) -/

theorem exec_syncClose (t : Byte) (n : Nat) (s : State) :
    exec (.syncClose t n) s = taking 0x21 t (replying (syncCloseRequest n)) s := rfl
theorem exec_hostTieSyncLimitExpiry (s : State) : exec .hostTieSyncLimitExpiry s = event hostSyncExpires s := rfl

/-- A request that leaves no notice answers with the blocks as it left them. -/
theorem taking_calmly (code : Nat) (t : Byte) {owner : Parts → Parts × Reply} {s : State} {u : Parts} {y : Reply}
    (h : s.inReset = false) (hj : owner s.parts = (u, y)) (calm : u.calm) :
    taking code t (replying owner) s = .next (s.answers code t y.code y.body u) := by
  rw [taking_replied code t h hj, settle_calm _ calm]

theorem syncCloseRequest_badIndex {n : Nat} (out : 48 ≤ n) : syncCloseRequest n s = (s, .status .badIndex) := by
  unfold syncCloseRequest
  rw [index?_none out]

theorem syncCloseRequest_out (out : s.service.inService = false ∨ s.switching.devices[d].state = .retired) :
    syncCloseRequest d.val s = (s, .status .state) := by
  unfold syncCloseRequest
  rw [index?_val]
  exact if_pos (out.imp_left fun h => by rw [h]; rfl)

theorem syncCloseRequest_local (serving : s.service.inService = true) (active : s.switching.devices[d].state ≠ .retired)
    (authority : s.switching.authority = .localControl) : syncCloseRequest d.val s = (s, .status .authority) := by
  unfold syncCloseRequest
  rw [index?_val]
  dsimp only
  rw [if_neg (not_or.mpr ⟨by rw [serving]; decide, active⟩), if_pos authority]

/-- SYNC CLOSE under REMOTE is judged by the device's entry. -/
theorem syncCloseRequest_entry (serving : s.service.inService = true) (active : s.switching.devices[d].state ≠ .retired)
    (authority : s.switching.authority = .remoteControl) : syncCloseRequest d.val s =
      match s.topology.index[d] with
      | some ⟨_, .generator g⟩ => ((syncCloseGenerator g d s).1, .status (syncCloseGenerator g d s).2)
      | some ⟨a, .bus b⟩ => ((startHostSync d a b s).1, .status (startHostSync d a b s).2)
      | _ => (s, .status .state) := by
  unfold syncCloseRequest
  rw [index?_val]
  dsimp only
  rw [if_neg (not_or.mpr ⟨by rw [serving]; decide, active⟩), if_neg (by rw [authority]; decide)] <;> rfl

theorem syncCloseGenerator_damaged (bad : isDamaged s.store.generators[g] = true ∨ isDamaged s.store.devices[d] = true) :
    syncCloseGenerator g d s = (s, .damaged) := if_pos bad

variable (generator : isDamaged s.store.generators[g] = false) (device : isDamaged s.store.devices[d] = false)

include generator device in
theorem syncCloseGenerator_state (h₁ : (s.gen g).state ≠ .starting) (h₂ : (s.gen g).state ≠ .ready)
    (h₃ : (s.gen g).state ≠ .syncing) : syncCloseGenerator g d s = (s, .state) := by
  unfold syncCloseGenerator
  rw [if_neg (by rw [generator, device]; decide)]
  split
  next h => exact absurd h h₁
  next h => exact absurd h h₂
  next h => exact absurd h h₃
  · rfl

include generator device in
theorem syncCloseGenerator_marks (state : (s.gen g).state = .starting ∨ (s.gen g).state = .ready ∨ (s.gen g).state = .syncing) :
    syncCloseGenerator g d s =
      ((if (s.gen g).state = .ready then placeGenerator g (setGenerator g { s.gen g with mark := .run } s)
        else setGenerator g { s.gen g with mark := .run } s), .ok) := by
  have stays : ((setGenerator g { s.gen g with mark := .run } s).gen g).state = (s.gen g).state := by
    rw [gen_setGenerator]
    exact GeneratorLive.kept_state _
  unfold syncCloseGenerator
  rw [if_neg (by rw [generator, device]; decide)]
  dsimp only
  rw [stays]
  rcases state with h | h | h <;> rw [h]

theorem startHostSync_state {a b : BusId} (h : s.paralleling.hostSync.isSome = true ∨
    (((s.islandOf a).any fun i => i.kind == .generator) = false ∧
      ((s.islandOf b).any fun i => i.kind == .generator) = false)) : startHostSync d a b s = (s, .state) := by
  refine if_pos ?_
  rcases h with h | ⟨ha, hb⟩
  · exact .inl h
  · refine .inr ?_
    dsimp only
    rw [ha, hb]
    rfl

/-- The terminal that a host tie sync brings in, and the one it brings it to. -/
theorem startHostSync_starts {a b : BusId} {h : Held DeviceSettings} {i : Island} {z : GeneratorSettings}
    (free : s.paralleling.hostSync = none)
    (fed : ((s.islandOf a).any fun i => i.kind == .generator) = true ∨
      ((s.islandOf b).any fun i => i.kind == .generator) = true)
    (stored : s.store.devices[d] = some h) (valid : h.valid)
    (island : s.islandOf (if ((s.islandOf b).any fun i => i.kind == .generator) = true then b else a) = some i)
    (lead : i.generators.find? s.isOnline = some g) (settings : (s.gen g).settings = some z) :
    startHostSync d a b s = ({ s with
      paralleling.hostSync := some
        { tie := d
          incoming := if ((s.islandOf b).any fun i => i.kind == .generator) = true then b else a
          running := if ((s.islandOf b).any fun i => i.kind == .generator) = true then a else b
          closingTime := h.settings.closingTime
          limit := .running (z.syncLimit * 1000) } }, .ok) := by
  have fed' : ((s.islandOf a).any (fun i => i.kind == .generator) || (s.islandOf b).any (fun i => i.kind == .generator)) =
      true := by
    rw [Bool.or_eq_true]
    exact fed
  have head : (onlineOf s i).head? = some g := by
    unfold onlineOf
    rw [List.head?_filter]
    exact lead
  unfold startHostSync
  dsimp only
  rw [if_neg (by rw [free, fed']; decide), readClosingTime_valid stored valid, island, Option.bind_some, head,
    Option.bind_some, settings]
  rfl

/-! ## The end of a host tie sync -/

/-- Whether the nudges of a generator are 0. -/
def Parts.levelled (s : Parts) (g : GeneratorId) : Prop :=
  s.paralleling.generators[g].frequencyNudge = 0 ∧ s.paralleling.generators[g].voltageNudge = 0

theorem setGenerator_levels (j : GeneratorId) : (setGenerator j (s.gen j).level s).levelled j := by
  have live : (setGenerator j (s.gen j).level s).paralleling.generators[j] = (s.gen j).level.kept := gen_setGenerator _
  unfold Parts.levelled
  rw [live]
  unfold GeneratorLive.kept
  split <;> exact ⟨rfl, rfl⟩

theorem setGenerator_levelled {j : GeneratorId} (level : s.levelled g) : (setGenerator j (s.gen j).level s).levelled g := by
  by_cases same : j = g
  · subst same
    exact setGenerator_levels j
  · unfold Parts.levelled
    rw [show (setGenerator j (s.gen j).level s).paralleling.generators[g] = s.paralleling.generators[g] from
      writeGenerator_other false same ..]
    exact level

theorem foldl_levelled {gs : List GeneratorId} (h : g ∈ gs ∨ s.levelled g) :
    (gs.foldl (fun s g => setGenerator g (s.gen g).level s) s).levelled g := by
  induction gs generalizing s with
  | nil => exact h.resolve_left nofun
  | cons j gs ih =>
    refine ih ?_
    rcases h with mem | level
    · rcases List.mem_cons.mp mem with rfl | later
      · exact .inr (setGenerator_levels _)
      · exact .inl later
    · exact .inr (setGenerator_levelled level)

/-- The nudges of a bus's island are 0 once it has been levelled, and no sync starts by it. -/
theorem levelIsland_levelled {b : BusId} {i : Island} (island : s.islandOf b = some i) (mem : g ∈ i.generators)
    (online : s.paralleling.generators[g].state = .online) : (levelIsland b s).levelled g := by
  unfold levelIsland
  rw [island]
  exact foldl_levelled (.inl (List.mem_filter.mpr ⟨mem, beq_iff_eq.mpr online⟩))

theorem levelIsland_hostSync (b : BusId) (s : Parts) :
    (levelIsland b s).paralleling.hostSync = s.paralleling.hostSync := by
  unfold levelIsland
  split
  next i _ =>
    generalize onlineOf s i = gs
    clear * -
    induction gs generalizing s with
    | nil => rfl
    | cons j gs ih =>
      refine (ih (setGenerator j (s.gen j).level s)).trans ?_
      exact (congrArg ParallelingUnit.hostSync (writeGenerator_generators false j (s.gen j).level s) :)
  · rfl

theorem hostSyncExpires_idle (idle : ∀ y, s.paralleling.hostSync = some y → y.limit.isRunning = false) :
    hostSyncExpires s = s := by
  unfold hostSyncExpires
  cases h : s.paralleling.hostSync with
  | none => rfl
  | some y => exact if_neg (by rw [idle y h]; decide)

theorem hostSyncExpires_runs {y : HostTieSync} (sync : s.paralleling.hostSync = some y) (runs : y.limit.isRunning = true) :
    hostSyncExpires s = (levelIsland y.incoming { s with paralleling.hostSync := none }).raise .generator := by
  unfold hostSyncExpires endHostSync
  rw [sync]
  exact if_pos runs

/-- Settles O45: each answer by the judgement that gives it, the placement by the bus island, and the end of a sync by the
levelling of its island. -/
theorem syncCloseAndItsLimit : Obligations.SyncCloseAndItsLimit := by
  unfold Obligations.SyncCloseAndItsLimit
  intro t s live
  refine ⟨fun n out => taking_turned _ t live (syncCloseRequest_badIndex out), fun d => ?_, fun idle => ?_,
    fun y sync runs => ?_⟩
  · intro answers v
    refine ⟨fun out => taking_turned _ t live (syncCloseRequest_out out), fun serving active => ⟨fun authority =>
      taking_turned _ t live (syncCloseRequest_local serving active authority), fun authority => ?_⟩⟩
    have judged := syncCloseRequest_entry serving active authority
    refine ⟨fun e entry kind => ?_, fun a g entry => ?_, fun a b entry => ?_⟩
    · refine taking_turned _ t live (judged.trans ?_)
      obtain ⟨a, far⟩ := e
      rw [entry]
      cases far with
      | utility u => rfl
      | block l => rfl
      | generator g => exact absurd kind (by nofun)
      | bus b => exact absurd kind (by nofun)
    · rw [entry] at judged
      dsimp only at judged
      intro x
      refine ⟨fun bad => ?_, fun generator device => ⟨fun h₁ h₂ h₃ => ?_, fun state target sequence => ?_,
        fun b state target sequence bus => ?_⟩⟩
      · rw [syncCloseGenerator_damaged bad] at judged
        exact taking_turned _ t live judged
      · rw [syncCloseGenerator_state generator device h₁ h₂ h₃] at judged
        exact taking_turned _ t live judged
      · have unready : (s.parts.gen g).state ≠ .ready := by
          change x.state ≠ _
          rcases state with h | h <;> rw [h] <;> nofun
        rw [syncCloseGenerator_marks generator device (state.imp_right .inr), if_neg unready,
          setGenerator_runs target sequence] at judged
        exact taking_calmly 0x21 t live.1 judged ⟨live.2.1, live.2.2⟩
      · rw [syncCloseGenerator_marks generator device (.inr (.inl state)),
          if_pos (show (s.parts.gen g).state = .ready from state)] at judged
        obtain ⟨gen, bus', topology, arbiters, store⟩ := setGenerator_runs_rest target sequence
        refine ⟨_, taking_replied 0x21 t live.1 judged, ?_⟩
        generalize setGenerator g { s.parts.gen g with mark := .run } s.parts = q at gen bus' topology arbiters store ⊢
        rw [← bus'] at bus
        have islands : q.islandOf b = s.parts.islandOf b := by
          unfold Parts.islandOf
          rw [topology]
        refine ⟨fun off => ?_, fun i m island unfed dead arbiter => ?_,
          fun i h e island unfed energised stored valid own sound => ?_⟩
        · rw [placeGenerator_off bus (by rw [islands]; exact off)]
          exact ⟨gen, leaveQueues_unqueued⟩
        · rw [placeGenerator_on bus (islands.trans island) unfed, dead]
          obtain ⟨queue, generators⟩ := joinArbiter_self (g := g) (s := q) (b := b) (a := m) (by rw [arbiters]; exact arbiter)
          exact ⟨(congrArg (fun v : Vector GeneratorLive 12 => v[g]) generators).trans gen, queue⟩
        · rw [placeGenerator_on bus (islands.trans island) unfed, energised]
          obtain ⟨⟨h₁, h₂, h₃, h₄, h₅, h₆, h₇⟩, unqueued⟩ := enterSyncing_live (s := q) (g := g)
            (by rw [store]; exact stored) valid (by rw [store]; exact own) sound
          exact ⟨h₁, h₂.trans (congrArg GeneratorLive.mark gen), h₃, h₄, h₅, h₆, h₇, unqueued⟩
    · rw [entry] at judged
      dsimp only at judged
      intro fed
      refine ⟨fun h => ?_, fun h i g z free some stored valid island lead settings => ?_⟩
      · rw [startHostSync_state h] at judged
        exact taking_turned _ t live judged
      · have starts := startHostSync_starts free some stored valid island lead settings
        rw [starts] at judged
        exact taking_calmly 0x21 t live.1 judged ⟨live.2.1, live.2.2⟩
  · exact event_idle live (hostSyncExpires_idle idle)
  · refine ⟨_, (exec_hostTieSyncLimitExpiry s).trans (event_live _ _ live.1), ?_, ?_, fun i island g mem online => ?_⟩
    all_goals rw [hostSyncExpires_runs sync runs]
    · exact levelIsland_hostSync _ _
    · exact raise_has .generator
    · exact levelIsland_levelled (s := { s.parts with paralleling.hostSync := none }) island mem online

end Sys2Proof.Machine

/-!
PROOF. Breaker failure at the Protection Unit (R106 to R113).
-/

namespace Sys2Proof.Machine

variable {s t u : Parts} {d : DeviceId} {kd : LockoutKind} {o : LockoutOrigin} {reason : Nat}

/-! ## The lockout of the failed device (R62, R63) -/

theorem isLocked_of_cover (h : s.lockouts.cover[d] ≠ 0) : s.isLocked d = true := by
  unfold Parts.isLocked
  rw [bne_iff_ne.mpr h, Bool.true_or]

theorem countIn_locked {ds : List DeviceId} (nodup : ds.Nodup) (mem : d ∈ ds) : (countIn ds s).isLocked d = true := by
  refine isLocked_of_cover ?_
  rw [countIn_cover nodup, List.contains_iff_mem.mpr mem]
  exact Nat.succ_ne_zero _

/-- A device in a merge target is locked. -/
theorem target_locked (counted : s.coversCounted) (read : s.targetsRead kd o) {k : SlotId} {x : LockoutSettings}
    (sound : s.soundOf k kd o = some x) (mem : d ∈ x.devices) : s.isLocked d = true := by
  obtain ⟨y, stored, intact, kind, origin, rfl⟩ := Parts.soundOf_some sound
  have set : writtenSet y = y.settings.devices := by rw [writtenSet, ← read k y stored intact kind origin]
  have covers : s.slotCovers d k = true := by
    rw [Parts.slotCovers_eq, stored, coversBy_active (counted.1 k y stored).1, bne_iff_ne.mpr intact, set,
      List.contains_iff_mem.mpr mem]
    rfl
  refine isLocked_of_cover ?_
  rw [counted.2 d]
  exact Nat.ne_of_gt (List.countP_pos_iff.mpr ⟨k, List.mem_finRange k, covers⟩)

/-- A device that a merge is done with is locked. -/
theorem mergeDevice_locked (counted : s.coversCounted) (read : s.targetsRead kd o)
    (done : (mergeDevice kd o d s).2 = true) : (mergeDevice kd o d s).1.isLocked d = true := by
  unfold mergeDevice at done ⊢
  dsimp only at done ⊢
  split
  next has =>
    obtain ⟨⟨k, ds⟩, mem, here⟩ := List.any_eq_true.mp has
    obtain ⟨slot, -, target⟩ := List.mem_filterMap.mp mem
    obtain ⟨x, sound, e⟩ := Option.map_eq_some_iff.mp target
    cases e
    exact target_locked counted read sound (List.contains_iff_mem.mp here)
  next hasnt =>
    rw [if_neg hasnt] at done
    split at done
    · exact countIn_locked (List.nodup_singleton d) (List.mem_singleton_self d)
    · cases done

theorem makePending_self : (makePending kd o reason s d).isLocked d = true := by
  cases h : s.isLocked d with
  | true => rw [makePending_locked h, h]
  | false =>
    obtain ⟨fs, e, -⟩ := makePending_waits (kd := kd) (o := o) (reason := reason) h
    rw [e]
    unfold Parts.isLocked
    refine Bool.or_eq_true_iff.mpr (.inr (List.any_eq_true.mpr ⟨_, mem_insertEntry.mpr (.inl rfl), beq_self_eq_true d⟩))

/-- A device left over goes into a record or waits. -/
theorem placeNew_locked {n : Nat} : (((placeNew kd o reason (n + 1) [d] s).2.foldl (makePending kd o reason)
    (placeNew kd o reason (n + 1) [d] s).1)).isLocked d = true := by
  unfold placeNew
  rw [if_neg (fun c : [d].isEmpty = true => Bool.false_ne_true c)]
  split
  next k _ =>
    rw [show ([d].drop 8) = [] from rfl, placeNew_nil]
    exact countIn_locked (List.nodup_singleton d) (List.mem_singleton_self d)
  · exact makePending_self

theorem abortLocked_lockouts (s : Parts) : (abortLocked s).lockouts = s.lockouts := by
  rw [abortLocked_eq]
  exact (foldl_abortOne_closing allDevices s).1

/-- A placement of one device locks it. -/
theorem placeLockouts_locked (counted : s.coversCounted) : (placeLockouts kd o reason [d] s).isLocked d = true := by
  have read := readTargets_read (kd := kd) (o := o) (s := s)
  have counted' := (readTargets_locks (kd := kd) (o := o) (Parts.Locks.refl (s := s))).counted counted
  unfold placeLockouts
  dsimp only
  rw [isLocked_congr (abortLocked_lockouts _), sendLockoutNotices_eq]
  generalize readTargets kd o s = v at read counted' ⊢
  have merged := mergeDevice_locked (d := d) counted' read
  have one : mergeAll kd o [d] v = ((mergeDevice kd o d v).1, if (mergeDevice kd o d v).2 then [] else [d]) := rfl
  rw [one]
  refine (isLocked_congr (Parts.sendAll_lockouts _ _) d).trans ?_
  dsimp only
  cases done : (mergeDevice kd o d v).2 with
  | true =>
    rw [if_pos rfl, placeNew_nil]
    exact merged done
  | false => exact placeNew_locked

/-- What the placement of a failed device leaves, with no close aborted. -/
theorem placeAutomatic_failed (counted : s.coversCounted) (free : s.noLockedClose)
    (still : s.switching.devices[d].state ≠ .closing) : ∃ u, placeAutomatic kd o [d] s = u ∧
      (∃ records table hold a ns, u = s.relocked records table hold a ns) ∧ s.Alerts u ∧
      u.attention.flags.lockout = true ∧ u.isLocked d = true := by
  obtain ⟨u, places, form⟩ := placeAutomatic_places (kd := kd) (o := o) (List.nodup_singleton d)
    (List.cons_ne_nil d []) s
  obtain ⟨records, table, hold, a, ns, rest⟩ := places.form
  have unaborted : u.noLockedClose := fun x closing => by
    have was : s.switching.devices[x].state = .closing := by rw [rest] at closing; exact closing
    have other : x ∉ [d] := fun mem => still (List.mem_singleton.mp mem ▸ was)
    refine Bool.eq_false_iff.mpr fun locked => ?_
    have before := places.locks x other locked
    rw [show (s.raise .lockout).isLocked x = s.isLocked x from rfl, free x was] at before
    cases before
  have placed : placeAutomatic kd o [d] s = u := form.trans (abortLocked_none unaborted)
  have filled : placeAutomatic kd o [d] s = placeLockouts kd o 0 [d] (s.raise .lockout) :=
    if_neg fun c : [d].isEmpty = true => Bool.false_ne_true c
  have locks : (placeAutomatic kd o [d] s).isLocked d = true := by
    rw [filled]
    exact placeLockouts_locked (s := s.raise .lockout) counted
  exact ⟨u, placed, ⟨records, table, hold, a, ns, rest⟩, (raise_alerts .lockout).trans places.alerts,
    places.alerts.flags .lockout (raise_has .lockout), placed ▸ locks⟩

/-! ## The further request (R111, R112) -/

/-- What a read of the scheme leaves: the devices and the Lockout Table. -/
def Parts.askLeaves (s : Parts) := (s.switching, s.lockouts)

/-- What the further request may do. -/
structure Parts.Asks (s t : Parts) : Prop where
  leaves : t.askLeaves = s.askLeaves
  alerts : s.Alerts t

theorem Parts.Asks.trans (k : s.Asks t) (l : t.Asks u) : s.Asks u :=
  ⟨l.leaves.trans k.leaves, k.alerts.trans l.alerts⟩

theorem Parts.Asks.of_beyond (beyond : t.beyondSyncs = s.beyondSyncs) (alerts : s.Alerts t) : s.Asks t :=
  ⟨congrArg (fun x => (x.1, x.2.2.2.2.1)) beyond, alerts⟩

theorem raise_asks (f : AttentionFlag) (s : Parts) : s.Asks (s.raise f) := ⟨rfl, raise_alerts f⟩

theorem withdrawOf_lockouts (i : SideId) (st : SideState) (s : Parts) : (withdrawOf i st s).lockouts = s.lockouts := by
  rcases withdrawOf_withdraws i st s with k | e
  · exact congrArg (fun x => x.2.2.2.2.1) k.beyond
  · rw [e]
    rfl

theorem sideManual_asks (i : SideId) (s : Parts) : s.Asks (onSide i (sideManual i) s) := by
  refine ⟨?_, (sideManual_withdrawn i s).alerts⟩
  unfold Parts.askLeaves
  rw [(sideManual_withdrawn i s).switching]
  obtain ⟨ns, told⟩ := onSide_form i (sideManual i) s
  let q := withdrawIslandSync i (withdrawPreShed i s)
  obtain ⟨ms, m, form⟩ := enterSide_form i .manual q
  have entered : sideManual i s = enterSide i .manual q := rfl
  have kept : q.lockouts = s.lockouts :=
    congrArg (fun x => x.2.2.2.2.1) (withdrawIslandSync_withdraws i (withdrawPreShed i s)).beyond
  rw [told, entered, form]
  exact congrArg (Prod.mk s.switching) ((withdrawOf_lockouts i (q.side i).state q).trans kept)

theorem schemeManual_asks (s : Parts) : s.Asks (schemeManual s) := by
  have form : schemeManual s = onSide 1 (sideManual 1) (onSide 0 (sideManual 0) { s with changeover.mode := .manual }) :=
    onSides_eq sideManual { s with changeover.mode := .manual }
  rw [form]
  refine Parts.Asks.trans (t := { s with changeover.mode := .manual }) ⟨rfl, .of_eq rfl⟩ ?_
  exact (sideManual_asks 0 _).trans (sideManual_asks 1 _)

theorem schemeDamaged_asks (s : Parts) : s.Asks (schemeDamaged s) := by
  unfold schemeDamaged
  split
  · exact ⟨rfl, .refl⟩
  · exact (schemeManual_asks s).trans (raise_asks .changeover _)

theorem useScheme_asks (s : Parts) : s.Asks (useScheme s).1 := by
  have read : s.Asks (useHeld s.store.scheme (fun h s => s.putScheme (some h)) schemeIndex schemeDamaged s).1 :=
    useHeld_preserves (P := fun u => s.Asks u) (fun _ p => p.trans ⟨rfl, .of_eq rfl⟩)
      (fun p => p.trans ⟨rfl, (raise_alerts _).trans (mark_alerts _)⟩) (fun p => p.trans (schemeDamaged_asks _))
      ⟨rfl, .refl⟩
  unfold useScheme
  split
  next e => rw [e] at read; exact read.trans ⟨rfl, .of_eq rfl⟩
  next e => rw [e] at read; exact read

theorem sideOfIncomer_asks (d : DeviceId) (s : Parts) : s.Asks (sideOfIncomer d s).1 := by
  unfold sideOfIncomer
  split
  · exact ⟨rfl, .refl⟩
  · exact useScheme_asks s

theorem sideOfIncomer_none (absent : s.changeover.scheme = none) : sideOfIncomer d s = (s, none) :=
  if_pos (by rw [absent]; rfl)

/-- The side whose incomer a device is, by a scheme record that is VALID. -/
theorem sideOfIncomer_valid {h : Held SchemeSettings} (serving : s.changeover.scheme.isSome = true)
    (stored : s.store.scheme = some h) (valid : h.valid) : sideOfIncomer d s =
      ({ s with changeover.scheme := some h.settings }, allSides.find? fun i => h.settings.sides[i].incomer == d) := by
  unfold sideOfIncomer
  rw [if_neg (by rw [Option.isNone_iff_eq_none]; exact Option.isSome_iff_ne_none.mp serving),
    useScheme_valid stored valid]
  refine congrArg (Prod.mk _) (congrArg (fun f => allSides.find? f) (funext fun i => ?_))
  change (some h.settings.sides[i].incomer == some d) = _
  rw [Option.some_beq_some]

theorem askFurther_utility {a : BusId} {y : UtilityId} (entry : s.topology.index[d] = some ⟨a, .utility y⟩) :
    askFurther d s = match (sideOfIncomer d s).2 with
      | some i => (assertIntertrip i d (sideOfIncomer d s).1, .intertrip)
      | none => ((sideOfIncomer d s).1, .nothing) := by
  unfold askFurther
  rw [entry]
  dsimp only
  split
  next e => rw [e]
  next e => rw [e]

theorem askFurther_generator {a : BusId} {g : GeneratorId} (entry : s.topology.index[d] = some ⟨a, .generator g⟩) :
    askFurther d s = (stopNow g s, .stopNow) := by
  unfold askFurther
  rw [entry]

theorem askFurther_other (utility : ∀ a y, s.topology.index[d] ≠ some ⟨a, .utility y⟩)
    (generator : ∀ a g, s.topology.index[d] ≠ some ⟨a, .generator g⟩) : askFurther d s = (s, .nothing) := by
  unfold askFurther
  split
  next entry => exact absurd entry (utility _ _)
  next entry => exact absurd entry (generator _ _)
  · rfl

theorem stopNow_asks (g : GeneratorId) (s : Parts) : s.Asks (stopNow g s) := by
  unfold stopNow
  split
  · exact ⟨rfl, .refl⟩
  · obtain ⟨-, -, beyond, alerts⟩ := enterFailed_live (s := s) (g := g) true .breakerFailure .stopNow
    exact .of_beyond beyond alerts

theorem assertIntertrip_alerts (i : SideId) (d : DeviceId) (s : Parts) : s.Alerts (assertIntertrip i d s) := by
  have put : s.Alerts { s with switching.intertrips := s.switching.intertrips.set i (some d) } := .of_eq rfl
  unfold assertIntertrip
  dsimp only
  split
  · exact put.trans (raise_alerts .device)
  · exact put

theorem assertIntertrip_form (i : SideId) (d : DeviceId) (s : Parts) : ∃ a, assertIntertrip i d s =
    { s with switching.intertrips := s.switching.intertrips.set i (some d), attention := a } ∧
      (s.switching.intertrips[i] = none → a.flags.device = true) := by
  unfold assertIntertrip
  dsimp only
  split
  · exact ⟨_, rfl, fun _ => rfl⟩
  next h => exact ⟨_, rfl, fun none => absurd (by rw [none]; rfl) h⟩

/-- The further request leaves the devices, the Lockout Table and what is flagged. -/
theorem askFurther_leaves (d : DeviceId) (s : Parts) :
    (askFurther d s).1.switching.devices = s.switching.devices ∧ (askFurther d s).1.lockouts = s.lockouts ∧
      s.Alerts (askFurther d s).1 := by
  have of_asks {v : Parts} (k : s.Asks v) :
      v.switching.devices = s.switching.devices ∧ v.lockouts = s.lockouts ∧ s.Alerts v :=
    ⟨congrArg (fun x => x.1.devices) k.leaves, congrArg Prod.snd k.leaves, k.alerts⟩
  have side := sideOfIncomer_asks d s
  unfold askFurther
  split
  · split
    next v i e =>
      rw [e] at side
      obtain ⟨devices, lockouts, alerts⟩ := of_asks side
      obtain ⟨a, form, -⟩ := assertIntertrip_form i d v
      refine ⟨?_, ?_, alerts.trans (assertIntertrip_alerts i d v)⟩
      all_goals rw [form]
      · exact devices
      · exact lockouts
    next e =>
      rw [e] at side
      exact of_asks side
  · exact of_asks (stopNow_asks _ s)
  · exact of_asks ⟨rfl, .refl⟩

/-- An incomer that fails, by the scheme: none in service asks nothing, and a VALID record names the side it feeds. -/
theorem askFurther_unserved {a : BusId} {y : UtilityId} (entry : s.topology.index[d] = some ⟨a, .utility y⟩)
    (absent : s.changeover.scheme = none) : askFurther d s = (s, .nothing) := by
  rw [askFurther_utility entry, sideOfIncomer_none absent]

theorem askFurther_side {a : BusId} {y : UtilityId} {h : Held SchemeSettings} {i : SideId}
    (entry : s.topology.index[d] = some ⟨a, .utility y⟩) (serving : s.changeover.scheme.isSome = true)
    (stored : s.store.scheme = some h) (valid : h.valid) (here : h.settings.sides[i].incomer = d)
    (first : ∀ j : SideId, j < i → h.settings.sides[j].incomer ≠ d) :
    askFurther d s = (assertIntertrip i d { s with changeover.scheme := some h.settings }, .intertrip) := by
  have found : (allSides.find? fun i => h.settings.sides[i].incomer == d) = some i :=
    find?_first (beq_iff_eq.mpr here) fun j before => beq_eq_false_iff_ne.mpr (first j before)
  rw [askFurther_utility entry, sideOfIncomer_valid serving stored valid, found]

theorem askFurther_sideless {a : BusId} {y : UtilityId} {h : Held SchemeSettings}
    (entry : s.topology.index[d] = some ⟨a, .utility y⟩) (serving : s.changeover.scheme.isSome = true)
    (stored : s.store.scheme = some h) (valid : h.valid) (away : ∀ i : SideId, h.settings.sides[i].incomer ≠ d) :
    askFurther d s = ({ s with changeover.scheme := some h.settings }, .nothing) := by
  have absent : (allSides.find? fun i => h.settings.sides[i].incomer == d) = none :=
    List.find?_eq_none.mpr fun i _ => by
      rw [beq_iff_eq]
      exact away i
  rw [askFurther_utility entry, sideOfIncomer_valid serving stored valid, absent]

/-! ## The backup set (R108, R109) -/

/-- The buses of an entry that candidates are held against. -/
theorem mem_backupSet {x : DeviceId} : x ∈ backupSet s d ↔
    ∃ e, s.topology.index[d] = some e ∧ x ≠ d ∧ isBackupCandidate s x = true ∧ ∃ b ∈ backupBuses e, heldAgainst s b x = true := by
  unfold backupSet
  cases s.topology.index[d] with
  | none => exact ⟨nofun, fun ⟨_, e, _⟩ => nomatch e⟩
  | some e =>
    rw [List.mem_filter, Bool.and_eq_true, Bool.and_eq_true, bne_iff_ne, List.any_eq_true]
    constructor
    · rintro ⟨-, ⟨ne, candidate⟩, held⟩
      exact ⟨e, rfl, ne, candidate, held⟩
    · rintro ⟨e', same, ne, candidate, held⟩
      cases same
      exact ⟨List.mem_finRange x, ⟨ne, candidate⟩, held⟩

theorem backupSet_sorted (s : Parts) (d : DeviceId) : (backupSet s d).Pairwise (· < ·) := by
  unfold backupSet
  split
  · exact .nil
  · exact (List.pairwise_lt_finRange 48).filter _

theorem isBackupCandidate_iff {x : DeviceId} : isBackupCandidate s x = true ↔
    (∃ e, s.topology.index[x] = some e ∧ e.terminalB.kind ≠ .feeder) ∧ s.switching.devices[x].state ≠ .retired ∧
      s.isConducting x = true ∧
      ¬(s.switching.devices[x].state = .failed ∧ s.switching.devices[x].failure = some .failedOpen) := by
  unfold isBackupCandidate
  dsimp only
  rw [Bool.and_eq_true, Bool.and_eq_true, Bool.and_eq_true, and_assoc, and_assoc, bne_iff_ne, Bool.not_eq_true',
    Bool.and_eq_false_iff, beq_eq_false_iff_ne, beq_eq_false_iff_ne, not_and_or]
  refine and_congr_left' ?_
  cases s.topology.index[x] with
  | none => exact ⟨nofun, fun ⟨_, e, _⟩ => nomatch e⟩
  | some e =>
    rw [bne_iff_ne]
    exact ⟨fun h => ⟨e, rfl, h⟩, fun ⟨_, same, h⟩ => by cases same; exact h⟩

theorem heldAgainst_iff {b : BusId} {x : DeviceId} : heldAgainst s b x = true ↔
    ∃ e, s.topology.index[x] = some e ∧ (e.terminalA = b ∨ e.terminalB = .bus b) := by
  unfold heldAgainst
  cases s.topology.index[x] with
  | none => exact ⟨nofun, fun ⟨_, e, _⟩ => nomatch e⟩
  | some e =>
    rw [Bool.or_eq_true, beq_iff_eq, beq_iff_eq]
    exact ⟨fun h => ⟨e, rfl, h⟩, fun ⟨_, same, h⟩ => by cases same; exact h⟩

/-- A device in the backup set: a candidate held against one of the failed device's buses. -/
theorem mem_backupSet_iff {buses : List BusId} {x : DeviceId}
    (kinds : buses = (s.topology.index[d]).elim [] backupBuses) : x ∈ backupSet s d ↔ x ≠ d ∧ s.isConducting x = true ∧
        s.switching.devices[x].state ≠ .retired ∧
        ¬(s.switching.devices[x].state = .failed ∧ s.switching.devices[x].failure = some .failedOpen) ∧
        ∃ e, s.topology.index[x] = some e ∧ e.terminalB.kind ≠ .feeder ∧
          ∃ b ∈ buses, e.terminalA = b ∨ e.terminalB = .bus b := by
  rw [mem_backupSet, isBackupCandidate_iff]
  constructor
  · rintro ⟨e, entry, ne, ⟨⟨f, own, kind⟩, active, conducts, works⟩, b, mem, held⟩
    obtain ⟨f', own', against⟩ := heldAgainst_iff.mp held
    cases own.symm.trans own'
    rw [entry, Option.elim_some] at kinds
    exact ⟨ne, conducts, active, works, f, own, kind, b, kinds ▸ mem, against⟩
  · rintro ⟨ne, conducts, active, works, f, own, kind, b, mem, against⟩
    cases entry : s.topology.index[d] with
    | none =>
      rw [kinds, entry] at mem
      cases mem
    | some e =>
      rw [entry, Option.elim_some] at kinds
      exact ⟨e, rfl, ne, ⟨⟨f, own, kind⟩, active, conducts, works⟩, b, kinds ▸ mem, heldAgainst_iff.mpr ⟨f, own, against⟩⟩

/-! ## The notice (R106) -/

/-- A breaker failure's placement and trips. -/
theorem takeBreakerFailure_eq {r : Requester} (placed : placeAutomatic .breakerFailure (.device d) [d] s = t) :
    takeBreakerFailure d r s =
      let w := (backupSet t d).foldl (fun s x => sendOpen x .breakerFailure s) t
      { (askFurther d w).1.raise .protection with
        protection.lastFailure := some { device := d, origin := r, backup := backupSet t d, asked := (askFurther d w).2 } } := by
  unfold takeBreakerFailure
  dsimp only
  rw [placed]

/-- Settles O27: the placement locks the device alone, the trips open each backup as it stood, and the further request
leaves the devices. -/
theorem breakerFailureTripsTheBackups : Obligations.BreakerFailureTripsTheBackups := by
  unfold Obligations.BreakerFailureTripsTheBackups
  intro d r s counted free failed u buses
  obtain ⟨p, placed, ⟨records, table, hold, a, ns, form⟩, alerts₀, flag₀, locked⟩ :=
    placeAutomatic_failed (kd := .breakerFailure) (o := .device d) counted free (by rw [failed]; nofun)
  have same : backupSet p d = backupSet s d := by rw [form]; rfl
  obtain ⟨⟨vs, rs, a', ns', trips⟩, alerts₁⟩ := foldl_sendOpen_operated (q := .breakerFailure) (ds := backupSet s d) p
  have taken : u = takeBreakerFailure d r s := rfl
  rw [takeBreakerFailure_eq placed, same] at taken
  dsimp only at taken
  have other (x) (out : x ∉ backupSet s d) := (foldl_sendOpen_other (q := .breakerFailure) out p).device
  have tripped (x) (mem : x ∈ backupSet s d) (h : Held DeviceSettings) := foldl_sendOpen_trips (s := p) (d := x) (h := h)
    (q := .breakerFailure) rfl ((backupSet_sorted s d).imp Fin.ne_of_lt) mem
  generalize (backupSet s d).foldl (fun s x => sendOpen x .breakerFailure s) p = w at taken trips alerts₁ other tripped
  have switching : p.switching = s.switching := by rw [form]; rfl
  have devices : p.store.devices = s.store.devices := by rw [form]; rfl
  have index : w.topology = s.topology := by rw [trips, form]; rfl
  have changeover : w.changeover = s.changeover := by rw [trips, form]; rfl
  have scheme : w.store.scheme = s.store.scheme := by rw [trips, form]; rfl
  have paralleling : w.paralleling = s.paralleling := by rw [trips, form]; rfl
  have intertrips : w.switching.intertrips = s.switching.intertrips := by rw [trips, form]; rfl
  have lockouts : w.lockouts = p.lockouts := by rw [trips]; rfl
  obtain ⟨askedDevices, askedLockouts, alerts₂⟩ := askFurther_leaves d w
  have kept : u.paralleling = (askFurther d w).1.paralleling := by
    rw [taken]
    generalize askFurther d w = x
    rfl
  have flagged {f : AttentionFlag} (h : (askFurther d w).1.attention.flags.has f = true) : u.attention.flags.has f = true := by
    rw [taken]
    exact (raise_alerts .protection).flags f h
  refine ⟨backupSet s d, (askFurther d w).2, by rw [taken], ?_, ?_, ?_, backupSet_sorted s d,
    fun x => mem_backupSet_iff ?_, fun x out => ?_, fun x mem h stored valid state => ?_, fun a y entry => ?_,
    fun a g entry => ?_, fun utility generator => ?_⟩
  · rw [taken]
    exact (isLocked_congr (askedLockouts.trans lockouts) d).trans locked
  · rw [taken]
    exact raise_has .protection
  · exact flagged (f := .lockout) (alerts₂.flags .lockout (alerts₁.flags .lockout flag₀))
  · change (match s.topology.index[d] with | some ⟨a, .bus b⟩ => _ | some ⟨_, .generator _⟩ | none => _ | some ⟨a, _⟩ => _) = _
    rcases s.topology.index[d] with _ | ⟨a, _ | _ | _ | _⟩ <;> rfl
  · rw [taken, ← switching, ← other x out]
    exact congrArg (fun v : Vector DeviceLive 48 => v[x]) askedDevices
  · rw [← switching] at state ⊢
    rw [← tripped x mem h state (by rw [devices]; exact stored) valid, taken]
    exact congrArg (fun v : Vector DeviceLive 48 => v[x]) askedDevices
  · have entry' : w.topology.index[d] = some ⟨a, .utility y⟩ := by rw [index]; exact entry
    refine ⟨fun absent => ?_, fun h serving stored valid => ⟨fun i here first => ?_, fun away => ?_⟩⟩
    · have asks := askFurther_unserved entry' (by rw [changeover]; exact absent)
      refine ⟨by rw [asks], ?_⟩
      rw [taken, asks]
      exact intertrips
    · have asks := askFurther_side entry' (by rw [changeover]; exact serving) (scheme.trans stored) valid here first
      obtain ⟨b, asserts, device⟩ := assertIntertrip_form i d { w with changeover.scheme := some h.settings }
      refine ⟨by rw [asks], ?_, fun none => flagged (f := .device) ?_⟩
      · rw [taken, asks, asserts, ← intertrips]
        rfl
      · rw [asks, asserts]
        exact device (by rw [← none, ← intertrips])
    · have asks := askFurther_sideless entry' (by rw [changeover]; exact serving) (scheme.trans stored) valid away
      refine ⟨by rw [asks], ?_⟩
      rw [taken, asks]
      exact intertrips
  · have asks := askFurther_generator (s := w) (g := g) (by rw [index]; exact entry)
    refine ⟨by rw [asks], fun set => ?_⟩
    have fails : stopNow g w = enterFailed true g .breakerFailure .stopNow w := if_neg (by
      change w.paralleling.generators[g].state ≠ .unset
      rw [paralleling]
      exact set)
    obtain ⟨live, flag, -⟩ := enterFailed_live (s := w) (g := g) true .breakerFailure .stopNow
    have live' : u.paralleling.generators[g] = { (w.gen g).cleared with
        state := .failed, failure := some .breakerFailure, run := .stopNow, reference := none } := by
      rw [kept, asks, fails]
      exact live
    rw [live']
    refine ⟨rfl, rfl, rfl, flagged (f := .generator) ?_⟩
    rw [asks, fails]
    exact flag
  · have asks := askFurther_other (s := w) (d := d) (by rw [index]; exact utility) (by rw [index]; exact generator)
    refine ⟨by rw [asks], ?_⟩
    rw [taken, asks]
    exact intertrips

end Sys2Proof.Machine

/-!
PROOF. What the rules of the sides (R125 to R135) leave of the records, of the utilities and of what calls for attention.
-/

namespace Sys2Proof.Machine

variable {r s t : Parts} {i : SideId} {d : DeviceId}

/-- Of the records at most those of devices are written, the utilities and the service state stay, and nothing that called for
attention no longer does. -/
structure Parts.Adjusts (s t : Parts) : Prop where
  devices : ∃ ds, t.store = { s.store with devices := ds }
  utilities : t.changeover.utilities = s.changeover.utilities
  alerts : s.Alerts t
  serving : t.service.inService = s.service.inService

theorem Parts.Adjusts.refl : s.Adjusts s := ⟨⟨_, rfl⟩, rfl, .refl, rfl⟩

theorem Parts.Adjusts.trans (k : r.Adjusts s) (l : s.Adjusts t) : r.Adjusts t := by
  obtain ⟨_, store⟩ := k.devices
  obtain ⟨ds, store'⟩ := l.devices
  exact ⟨⟨ds, by rw [store', store]⟩, l.utilities.trans k.utilities, k.alerts.trans l.alerts,
    l.serving.trans k.serving⟩

/-- An update that leaves the Store and the utilities. -/
theorem Parts.Adjusts.frame (store : t.store = s.store) (utilities : t.changeover.utilities = s.changeover.utilities)
    (alerts : s.Alerts t) (serving : t.service.inService = s.service.inService := by rfl) : s.Adjusts t :=
  ⟨⟨_, store⟩, utilities, alerts, serving⟩

/-- An update that leaves the attention block too. -/
theorem Parts.Adjusts.same (store : t.store = s.store) (utilities : t.changeover.utilities = s.changeover.utilities)
    (attention : t.attention = s.attention) (serving : t.service.inService = s.service.inService := by rfl) : s.Adjusts t :=
  .frame store utilities (.of_eq attention) serving

theorem Parts.Adjusts.ite {c : Prop} [Decidable c] (k : r.Adjusts s) (l : r.Adjusts t) :
    r.Adjusts (if c then s else t) := by
  split
  · exact k
  · exact l

theorem Parts.Adjusts.fst {α : Type} {q : Parts × α} {x : α} (k : r.Adjusts q.1) (e : q = (s, x)) : r.Adjusts s := by
  rw [e] at k
  exact k

theorem Parts.Adjusts.foldl {α : Type} {f : Parts → α → Parts} (step : ∀ (u : Parts) a, u.Adjusts (f u a)) (l : List α)
    (k : r.Adjusts s) : r.Adjusts (l.foldl f s) := by
  induction l generalizing s with
  | nil => exact k
  | cons a l ih => exact ih (k.trans (step s a))

theorem raise_adjusts (k : r.Adjusts s) (f : AttentionFlag) : r.Adjusts (s.raise f) :=
  k.trans (.frame rfl rfl (raise_alerts f))

theorem send_adjusts (k : r.Adjusts s) (n : Notice) : r.Adjusts (s.send n) := k.trans (.same rfl rfl rfl)

theorem mark_adjusts (k : r.Adjusts s) (j : StoreIndex) : r.Adjusts (s.mark j) :=
  k.trans (.frame rfl rfl (mark_alerts j))

theorem markIf_adjusts (k : r.Adjusts s) (b : Bool) (j : StoreIndex) : r.Adjusts (s.markIf b j) :=
  .ite (mark_adjusts k j) k

theorem recompute_adjusts (k : r.Adjusts s) : r.Adjusts (recompute s) := by
  obtain ⟨is, ns, form⟩ := recompute_form s
  rw [form]
  exact k.trans (.same rfl rfl rfl)

/-- A record of a kind other than a device's stands. -/
theorem Parts.Adjusts.record (k : s.Adjusts t) {n : RecordName} (other : n.kind ≠ .device) : t.record n = s.record n := by
  obtain ⟨ds, store⟩ := k.devices
  unfold Parts.record
  rw [store]
  cases n with
  | device d => exact absurd rfl other
  | _ => rfl

/-! ## Device requests (R26, R30) -/

theorem setDevice_adjusts (k : r.Adjusts s) (x : DeviceLive) : r.Adjusts (s.setDevice d x) := by
  refine k.trans ⟨⟨s.store.devices, ?_⟩, ?_, setDevice_alerts d x, by rw [Parts.setDevice_service]⟩
  · rw [Parts.setDevice_store]
  · rw [Parts.setDevice_changeover]

theorem useDevice_adjusts (k : r.Adjusts s) (d : DeviceId) : r.Adjusts (useDevice d s).1 := by
  obtain ⟨ds, a, form⟩ := useDevice_writes d s
  exact k.trans ⟨⟨ds, by rw [form]⟩, by rw [form], useDevice_alerts d, by rw [form]⟩

theorem openRequest_adjusts (k : r.Adjusts s) (d : DeviceId) (q : Requester) : r.Adjusts (openRequest d q s).1 := by
  obtain ⟨vs, ds, a, ns, form⟩ := openRequest_operated d q s
  exact k.trans ⟨⟨ds, by rw [form]; rfl⟩, by rw [form]; rfl, openRequest_alerts d q, by rw [form]; rfl⟩

theorem storeRefusal_adjusts (k : r.Adjusts s) (w : Refused) : r.Adjusts (storeRefusal s d w) := setDevice_adjusts k _

theorem acceptClose_adjusts (k : r.Adjusts s) {q : Requester} {au : Authorisations} {n : Nat} :
    r.Adjusts (acceptClose s d q au n) := by
  unfold acceptClose
  dsimp only
  generalize DeviceLive.mk _ _ _ _ _ _ _ _ _ _ _ = x
  exact recompute_adjusts ((setDevice_adjusts (d := d) k x).trans (.same rfl rfl rfl))

theorem closeRequest_adjusts (k : r.Adjusts s) (d : DeviceId) (q : Requester) (au : Authorisations) :
    r.Adjusts (closeRequest d q au s).1 := by
  have read := useDevice_adjusts k d
  unfold closeRequest
  dsimp only
  split
  · exact storeRefusal_adjusts k _
  · split
    · exact acceptClose_adjusts read
    · exact read
    · exact storeRefusal_adjusts read _

/-! ## Pre-sheds (R159, R161) -/

theorem setBlock_adjusts (k : r.Adjusts s) (l : BlockId) (x : BlockLive) : r.Adjusts (s.setBlock l x) :=
  markIf_adjusts (k.trans (t := { s with load.blocks := s.load.blocks.set l x }) (.same rfl rfl rfl)) _ _

theorem joinQueue_adjusts (k : r.Adjusts s) (l : BlockId) : r.Adjusts (joinQueue l s) :=
  send_adjusts (k.trans (t := placeInQueue l s) (.same rfl rfl rfl)) .restoreTrigger

theorem becomeShed_adjusts (k : r.Adjusts s) (l : BlockId) : r.Adjusts (becomeShed l s) := by
  have put : r.Adjusts { s with load.shedCounter := s.load.shedCounter + 1 } := k.trans (.same rfl rfl rfl)
  unfold becomeShed
  exact joinQueue_adjusts (setBlock_adjusts put l _) l

theorem shedOne_adjusts (k : r.Adjusts s) (l : BlockId) : r.Adjusts (shedOne l s) := by
  unfold shedOne
  split
  · exact becomeShed_adjusts (openRequest_adjusts k _ _) l
  · exact k

theorem shedLoop_adjusts {isl : Island} {capacity n : Nat} (k : r.Adjusts s) : r.Adjusts (shedLoop isl capacity n s) := by
  induction n generalizing s with
  | zero => exact k
  | succ n ih =>
    unfold shedLoop
    split
    · exact k
    · split
      · exact ih (raise_adjusts (shedOne_adjusts k _) .load)
      · exact raise_adjusts k .load

theorem shedStep_adjusts (k : r.Adjusts s) (isl : Island) : r.Adjusts (shedStep isl s) := by
  unfold shedStep
  split
  · exact shedLoop_adjusts k
  · exact k

theorem loadReview_adjusts (k : r.Adjusts s) : r.Adjusts (loadReview s) := by
  have steps := Parts.Adjusts.foldl (fun u isl => shedStep_adjusts .refl isl) (s.topology.islands.filter (balanceMoved s)) k
  unfold loadReview
  dsimp only
  generalize (s.topology.islands.filter (balanceMoved s)).foldl (fun s i => shedStep i s) s = v at steps
  split
  · exact (send_adjusts steps .restoreTrigger).trans (.same rfl rfl rfl)
  · exact steps.trans (.same rfl rfl rfl)

theorem preShedLoop_adjusts {isl : Island} {n : Nat} {p : PreShed} (k : r.Adjusts s) :
    r.Adjusts (preShedLoop isl n p s).1 := by
  induction n generalizing s p with
  | zero => exact k
  | succ n ih =>
    unfold preShedLoop
    split
    · exact k
    · split
      · exact ih (shedOne_adjusts k _)
      · exact k

theorem keepPreShed_adjusts (k : r.Adjusts s) (p : PreShed) : r.Adjusts (keepPreShed i p s) := by
  unfold keepPreShed
  split
  · exact send_adjusts (k.trans (t := { s with load.preSheds := s.load.preSheds.set i none }) (.same rfl rfl rfl)) _
  · exact k.trans (.same rfl rfl rfl)

theorem requestPreShed_adjusts (k : r.Adjusts s) {isl : Island} {n : Nat} : r.Adjusts (requestPreShed i isl n s) := by
  have run (p : PreShed) : r.Adjusts (runPreShed i p s) := by
    unfold runPreShed
    split
    next isl _ =>
      exact keepPreShed_adjusts (i := i) (preShedLoop_adjusts (isl := isl) (n := 24) (p := p) k)
        (preShedLoop isl 24 p s).2
    · exact keepPreShed_adjusts k p
  unfold requestPreShed reviewMoved
  dsimp only
  split
  · exact loadReview_adjusts (run _)
  · exact run _

/-! ## Entries of a side (R125) -/

theorem putSide_adjusts (k : r.Adjusts s) (x : SideLive) : r.Adjusts (putSide i x s) := k.trans (.same rfl rfl rfl)

theorem putSupply_adjusts (k : r.Adjusts s) {b : Bool} : r.Adjusts (putSupply i b s) := by
  unfold putSupply
  dsimp only
  split
  · exact k
  · exact send_adjusts (putSide_adjusts k _) _

theorem enterSide_adjusts (k : r.Adjusts s) (st : SideState) : r.Adjusts (enterSide i st s) := by
  obtain ⟨reads, same⟩ := withdrawOf_keeps i (s.side i).state s
  obtain ⟨ds, store⟩ := reads.devices
  obtain ⟨ns, m, form⟩ := enterSide_form i st s
  have service : (withdrawOf i (s.side i).state s).service = s.service := by
    rcases withdrawOf_withdraws i (s.side i).state s with w | e
    · exact congrArg (fun x => x.2.2.2.1) w.beyond
    · rw [e]
      rfl
  refine k.trans ⟨⟨ds, ?_⟩, ?_, enterSide_alerts i st s, ?_⟩
  · rw [form]
    exact store
  · rw [form]
    exact (congrArg ChangeoverUnit.utilities same :)
  · rw [form]
    exact (congrArg ServiceControl.inService service :)

theorem openFor_adjusts (k : r.Adjusts s) (d : Option DeviceId) : r.Adjusts (openFor d s).1 := by
  unfold openFor
  split
  · exact k
  next d =>
    have asked := openRequest_adjusts k d .changeover
    split
    next e => exact asked.fst e
    next e =>
      split
      · exact asked.fst e
      · exact asked.fst e
    next e => exact asked.fst e

theorem closeFor_adjusts (k : r.Adjusts s) (d : Option DeviceId) : r.Adjusts (closeFor d s).1 := by
  unfold closeFor
  split
  · exact k
  · split
    · exact k
    · exact closeRequest_adjusts k _ _ _

theorem enterRtClosing_adjusts (k : r.Adjusts s) : r.Adjusts (enterRtClosing i s) := by
  have entered := enterSide_adjusts (i := i) k .rtClosing
  have asked := closeFor_adjusts entered ((enterSide i .rtClosing s).sideIncomer i)
  unfold enterRtClosing closeIncomer
  split
  next e => exact asked.fst e
  next e => exact putSide_adjusts (asked.fst e) _
  next e => exact enterSide_adjusts (asked.fst e) _
  next e => exact enterSide_adjusts (asked.fst e) _

theorem preShedFor_adjusts (k : r.Adjusts s) {n : Nat} : r.Adjusts (preShedFor i n s) := by
  unfold preShedFor
  split
  · exact requestPreShed_adjusts k
  · exact send_adjusts k _

theorem takeOption_adjusts (k : r.Adjusts s) (st : SideState) : r.Adjusts (takeOption i st s) := by
  unfold takeOption
  split
  · exact enterRtClosing_adjusts k
  · exact preShedFor_adjusts (enterSide_adjusts k _)
  · exact enterSide_adjusts k _

theorem judgeAwait_adjusts (k : r.Adjusts s) : r.Adjusts (judgeAwait i s) := by
  refine .ite ?_ k
  split
  · exact k
  · exact takeOption_adjusts k _

theorem judgeRtOpening_adjusts (k : r.Adjusts s) : r.Adjusts (judgeRtOpening i s) :=
  .ite (.ite (enterRtClosing_adjusts k) (takeOption_adjusts k _)) k

theorem enterRtOpening_adjusts (k : r.Adjusts s) (d : Option DeviceId) : r.Adjusts (enterRtOpening i d s) :=
  judgeRtOpening_adjusts (putSide_adjusts (openFor_adjusts (enterSide_adjusts k _) d) _)

theorem startIslandSync_adjusts (k : r.Adjusts s) : r.Adjusts (startIslandSync i d s) := by
  obtain ⟨ds, a, form⟩ := useDevice_writes d s
  have read := useDevice_adjusts k d
  have timed : r.Adjusts (readClosingTime d s).1 := by
    unfold readClosingTime
    split
    next e => exact read.fst e
    next e => exact (read.fst e).trans (.same rfl rfl rfl)
  exact timed.trans (.same rfl rfl rfl)

theorem enterRtSync_adjusts (k : r.Adjusts s) : r.Adjusts (enterRtSync i s) := by
  unfold enterRtSync requestIslandSync
  dsimp only
  have entered := enterSide_adjusts (i := i) k .rtSync
  generalize enterSide i .rtSync s = u at entered ⊢
  generalize SideLive.mk _ _ _ _ _ _ _ _ = x
  have timed := putSide_adjusts (i := i) entered x
  repeat' split
  · exact startIslandSync_adjusts timed
  · exact timed.trans (.same rfl rfl rfl)
  · exact startIslandSync_adjusts timed
  · exact timed

theorem retransfer_adjusts (k : r.Adjusts s) : r.Adjusts (retransfer i s) := by
  refine .ite ?_ k
  split
  · exact enterRtOpening_adjusts k _
  · exact .ite (enterRtSync_adjusts k) (enterRtOpening_adjusts k _)
  · exact k

/-! ## Changes of a utility (R121, R126) -/

theorem takeDerivedState_adjusts (k : r.Adjusts s) (st : SideState) : r.Adjusts (takeDerivedState i st s) := by
  unfold takeDerivedState
  split
  · exact retransfer_adjusts (putSupply_adjusts (enterSide_adjusts k _))
  · exact retransfer_adjusts (enterSide_adjusts k _)
  · exact enterSide_adjusts k _

theorem deriveHeld_adjusts (k : r.Adjusts s) : r.Adjusts (deriveHeld i s) := by
  refine .ite ?_ k
  split
  · exact k
  · exact takeDerivedState_adjusts k _

theorem openIntoDeadWait_adjusts (k : r.Adjusts s) (d : Option DeviceId) : r.Adjusts (openIntoDeadWait i d s) :=
  enterSide_adjusts (openFor_adjusts k d) _

theorem sideOwnUtility_adjusts (k : r.Adjusts s) (q : Qualification) : r.Adjusts (sideOwnUtility q i s) := by
  have opened := openFor_adjusts k (s.sideIncomer i)
  unfold sideOwnUtility
  dsimp only
  split
  · refine .ite ?_ k
    split
    · exact putSide_adjusts (enterSide_adjusts opened _) _
    · exact enterSide_adjusts opened _
  · exact .ite (enterRtClosing_adjusts k) k
  · exact .ite (retransfer_adjusts k) k
  · exact .ite (retransfer_adjusts k) k
  · exact .ite (enterSide_adjusts k _) k
  · exact .ite (.ite opened (enterSide_adjusts k _)) k
  · exact judgeAwait_adjusts k
  · exact deriveHeld_adjusts k
  · exact k

theorem sideOtherUtility_adjusts (k : r.Adjusts s) (q : Qualification) : r.Adjusts (sideOtherUtility q i s) := by
  unfold sideOtherUtility
  dsimp only
  split
  · exact .ite (.ite (openIntoDeadWait_adjusts k _) k) (.ite (enterSide_adjusts k _) k)
  · exact .ite (openIntoDeadWait_adjusts k _) k
  · exact judgeAwait_adjusts k
  · exact k

theorem sideQualification_adjusts (k : r.Adjusts s) (u : UtilityId) (q : Qualification) :
    r.Adjusts (sideQualification u q i s) := by
  unfold sideQualification
  split
  · exact .ite (sideOwnUtility_adjusts k q) (sideOtherUtility_adjusts k q)
  · exact k

theorem onSide_adjusts {f : Parts → Parts} (k : r.Adjusts (f s)) : r.Adjusts (onSide i f s) := .ite k (send_adjusts k _)

theorem onSides_adjusts {f : SideId → Parts → Parts} (step : ∀ (u : Parts) j, u.Adjusts (f j u)) (k : r.Adjusts s) :
    r.Adjusts (onSides f s) := by
  rw [onSides_eq]
  exact onSide_adjusts ((onSide_adjusts (k.trans (step s 0))).trans (step _ 1))

/-- A utility written, with what its change moves. -/
theorem setUtility_adjusts (u : UtilityId) (x : UtilityLive) (s : Parts) :
    Parts.Adjusts { s with changeover.utilities := s.changeover.utilities.set u x } (setUtility u x s) := by
  unfold setUtility
  dsimp only
  generalize ({ s with changeover.utilities := s.changeover.utilities.set u x } : Parts) = p
  have moved : p.Adjusts (if (s.changeover.utilities[u].qualification.isLive != x.qualification.isLive) = true then
      recompute p else p) := .ite (recompute_adjusts .refl) .refl
  have judged := onSides_adjusts (f := sideQualification u x.qualification)
    (fun v j => sideQualification_adjusts .refl u x.qualification) (mark_adjusts moved (utilityIndex u))
  exact .ite .refl (.ite (raise_adjusts judged .changeover) judged)

end Sys2Proof.Machine

/-!
PROOF. The damage notices (R10, R43, R47, R101, R122, R154, R166): what a block's fallback leaves of the damaged record, of the
others and of what calls for attention.
-/

namespace Sys2Proof.Machine

variable {r s t : Parts}

/-! ## Generators (R154) -/

section
variable {g : GeneratorId}

theorem writeGenerator_adjusts (k : r.Adjusts s) (asked : Bool) (g : GeneratorId) (x : GeneratorLive) :
    r.Adjusts (writeGenerator asked g x s) := by
  obtain ⟨_, _, _, _, form⟩ := (writeGenerator_touches asked g x s).form
  exact k.trans (.frame (by rw [form]; rfl) (by rw [form]; rfl) (writeGenerator_alerts asked g x s) (by rw [form]; rfl))

theorem leaveQueues_adjusts (k : r.Adjusts s) (g : GeneratorId) : r.Adjusts (leaveQueues g s) :=
  k.trans (.same rfl rfl rfl)

theorem releaseGrants_adjusts (k : r.Adjusts s) (g : GeneratorId) : r.Adjusts (releaseGrants g s) := by
  obtain ⟨as, ns, form⟩ := releaseGrants_form g s
  rw [form]
  exact k.trans (.same rfl rfl rfl)

theorem failGenerator_adjusts (k : r.Adjusts s) (g : GeneratorId) (why : GeneratorFailure) (c : RunCommand) :
    r.Adjusts (failGenerator g why c s) := by
  unfold failGenerator enterFailed
  exact raise_adjusts (releaseGrants_adjusts (leaveQueues_adjusts (writeGenerator_adjusts k false g _) g) g) .generator

theorem disconnectWith_adjusts {done : Parts → Parts} (after : ∀ {u : Parts}, r.Adjusts u → r.Adjusts (done u))
    (k : r.Adjusts s) (g : GeneratorId) : r.Adjusts (disconnectWith done g s) := by
  unfold disconnectWith
  dsimp only
  have left := releaseGrants_adjusts (leaveQueues_adjusts (writeGenerator_adjusts k false g
    { (s.gen g).still.level with state := .disconnecting }) g) g
  change r.Adjusts (releaseGrants g (leaveQueues g (setGenerator g { (s.gen g).still.level with state := .disconnecting } s)))
    at left
  generalize releaseGrants g (leaveQueues g (setGenerator g { (s.gen g).still.level with state := .disconnecting } s)) = u
    at left ⊢
  split
  · exact after left
  next d _ =>
    have asked := openRequest_adjusts left d .paralleling
    split
    next e => exact asked.fst e
    next e =>
      have open_ := asked.fst e
      exact .ite (after open_) open_
    next e => exact after (asked.fst e)

theorem generatorDamaged_adjusts (k : r.Adjusts s) (g : GeneratorId) : r.Adjusts (generatorDamaged g s) := by
  have fails {u : Parts} (k : r.Adjusts u) := failGenerator_adjusts k g .damaged .stop
  unfold generatorDamaged
  refine .ite k ?_
  split
  · exact k
  · exact writeGenerator_adjusts k false g _
  · exact writeGenerator_adjusts k false g _
  · exact k
  · exact k
  · exact disconnectWith_adjusts fails k g
  · exact disconnectWith_adjusts fails k g
  · exact fails k

end

/-! ## Elements (R101) -/

section
variable {e : ElementId}

/-- What the reviews that follow an element's damage leave of it: its record, its live half, the device it guards, and what is
unprotected by it. -/
structure Parts.Spares (e : ElementId) (s t : Parts) : Prop where
  record : t.store.elements[e] = s.store.elements[e]
  rest : t.store = { s.store with elements := t.store.elements }
  live : t.protection.elements[e] = s.protection.elements[e]
  guards : t.protection.guards = s.protection.guards
  unprotected : ∀ d, s.protection.guards[e] = some d → s.protection.unprotected[d] = true →
    t.protection.unprotected[d] = true
  alerts : s.Alerts t

theorem Parts.Spares.refl : s.Spares e s := ⟨rfl, rfl, rfl, rfl, fun _ _ => id, .refl⟩

theorem Parts.Spares.trans (k : r.Spares e s) (l : s.Spares e t) : r.Spares e t :=
  ⟨l.record.trans k.record, by rw [l.rest, k.rest], l.live.trans k.live, l.guards.trans k.guards,
    fun d guard was => l.unprotected d (by rw [k.guards]; exact guard) (k.unprotected d guard was), k.alerts.trans l.alerts⟩

theorem markIf_spares (b : Bool) (i : StoreIndex) : s.Spares e (s.markIf b i) := by
  obtain ⟨m, form⟩ := markIf_marks b i s
  refine ⟨?_, ?_, ?_, ?_, fun d _ was => ?_, markIf_alerts b i⟩
  all_goals rw [form]
  exact was

theorem setElement_spares {x : ElementId} (ne : x ≠ e) (v : ElementLive) : s.Spares e (s.setElement x v) :=
  Parts.Spares.trans (s := { s with protection.elements := s.protection.elements.set x v })
    ⟨rfl, rfl, getElem_set_fin_ne _ _ _ _ ne, rfl, fun _ _ => id, .of_eq rfl⟩ (markIf_spares _ _)

/-- A device that a failed element guards stays unprotected at every review. -/
theorem isUnguarded_of_fails {d : DeviceId} (guard : s.protection.guards[e] = some d)
    (fails : s.protection.elements[e].fails = true) : s.isUnguarded d = true :=
  List.any_eq_true.mpr ⟨e, List.mem_finRange e, by rw [guard, fails, Bool.and_true]; exact beq_self_eq_true _⟩

theorem reviewGuard_unguarded {d : DeviceId} (unguarded : s.isUnguarded d = true) :
    (reviewGuard d s).protection.unprotected[d] = true ∧
      (s.protection.unprotected[d] = false → (reviewGuard d s).attention.flags.protection = true) := by
  unfold reviewGuard
  dsimp only
  rw [unguarded]
  split
  · exact ⟨getElem_set_fin_self _ _ _, fun _ => rfl⟩
  next was =>
    refine ⟨getElem_set_fin_self _ _ _, fun safe => absurd ?_ was⟩
    rw [safe]
    rfl

theorem reviewGuard_form (d : DeviceId) (s : Parts) : ∃ a, reviewGuard d s = { s with
    protection.unprotected := s.protection.unprotected.set d (s.isUnguarded d), attention := a } ∧
      s.Alerts (reviewGuard d s) := by
  have put : s.Alerts { s with protection.unprotected := s.protection.unprotected.set d (s.isUnguarded d) } := .of_eq rfl
  unfold reviewGuard
  dsimp only
  split
  · exact ⟨_, rfl, put.trans (raise_alerts .protection)⟩
  · exact ⟨_, rfl, put⟩

theorem reviewGuardOf_spares (fails : s.protection.elements[e].fails = true) (x : ElementId) :
    s.Spares e (reviewGuardOf x s) := by
  unfold reviewGuardOf
  split
  next d guard =>
    obtain ⟨a, form, alerts⟩ := reviewGuard_form d s
    refine ⟨by rw [form], by rw [form], by rw [form], by rw [form], fun d' guard' was => ?_, alerts⟩
    by_cases same : d = d'
    · subst same
      exact (reviewGuard_unguarded (isUnguarded_of_fails guard' fails)).1
    · rw [form]
      exact (getElem_set_fin_ne _ _ _ _ same).trans was
  · exact .refl

/-- The fallback of another element. -/
theorem damageElement_spares {x : ElementId} (ne : x ≠ e) (fails : s.protection.elements[e].fails = true) :
    s.Spares e (damageElement x s) := by
  unfold damageElement
  dsimp only
  generalize ElementLive.mk _ _ _ _ _ = v
  have put := setElement_spares (s := s) ne v
  have left : s.Spares e { s.setElement x v with
      protection.upstream := (s.setElement x v).protection.upstream.set x none } :=
    put.trans ⟨rfl, rfl, rfl, rfl, fun _ _ => id, .of_eq rfl⟩
  exact left.trans (reviewGuardOf_spares (by rw [left.live]; exact fails) x)

/-- A review reads no element that is not PICKED_UP, and writes no zone timer that does not run. -/
theorem reviewZone_spares {n : Nat} {x : ElementId} (still : s.protection.elements[e].state = .damaged)
    (stopped : s.protection.elements[e].zone.isRunning = false) : s.Spares e (reviewZone n x s) := by
  induction n generalizing s x with
  | zero => exact .refl
  | succ n ih =>
    by_cases same : x = e
    · subst same
      have idle : (s.protection.elements[x].state == .pickedUp && !s.isRestrained x) = false := by rw [still]; rfl
      unfold reviewZone
      dsimp only
      rw [idle, Bool.not_false, if_pos rfl, if_neg (by rw [stopped]; exact Bool.false_ne_true)]
      exact .refl
    · have fails {u : Parts} (k : s.Spares e u) : u.protection.elements[e].fails = true := by
        unfold ElementLive.fails
        rw [k.live, still]
        rfl
      have falls {u : Parts} (k : s.Spares e u) : s.Spares e (match u.protection.upstream[x] with
          | some y => reviewZone n y (damageElement x u)
          | none => damageElement x u) := by
        have damaged := k.trans (damageElement_spares same (fails k))
        split
        · exact damaged.trans (ih (by rw [damaged.live]; exact still) (by rw [damaged.live]; exact stopped))
        · exact damaged
      have read := useHeld_preserves (P := fun u => s.Spares e u) (o := s.store.elements[x])
        (put := fun h s => s.putElement x (some h)) (i := elementIndex x)
        (fun {u} h k => k.trans ⟨getElem_set_fin_ne _ _ _ _ same, rfl, rfl, rfl, fun _ _ => id, .of_eq rfl⟩)
        (fun {u} k => k.trans ⟨rfl, rfl, rfl, rfl, fun _ _ => id, (raise_alerts _).trans (mark_alerts _)⟩) falls .refl
      unfold reviewZone
      dsimp only
      split
      · split
        · exact setElement_spares same _
        · exact .refl
      split
      · exact .refl
      split
      · exact .refl
      split
      · exact read.trans (setElement_spares same _)
      · exact read

/-- The fallback of an element itself (R101). -/
theorem damageElement_takes (e : ElementId) (s : Parts) :
    (damageElement e s).protection.elements[e] = { s.protection.elements[e] with
        state := .damaged, zone := .stopped, blind := .stopped
        accumulator := if s.protection.elements[e].state = .tripped then 0 else s.protection.elements[e].accumulator } ∧
      (damageElement e s).store = s.store ∧ (damageElement e s).protection.guards = s.protection.guards ∧
      s.Alerts (damageElement e s) ∧
      ∀ d, s.protection.guards[e] = some d → (damageElement e s).protection.unprotected[d] = true ∧
        (s.protection.unprotected[d] = false → (damageElement e s).attention.flags.protection = true) := by
  let v : ElementLive := { s.protection.elements[e] with
    state := .damaged, zone := .stopped, blind := .stopped
    accumulator := if s.protection.elements[e].state = .tripped then 0 else s.protection.elements[e].accumulator }
  let p : Parts := { s.setElement e v with
    protection.upstream := (s.setElement e v).protection.upstream.set e none }
  have live : p.protection.elements[e] = v := Parts.setElement_self s e v
  have store : p.store = s.store := Parts.setElement_store ..
  have guards : p.protection.guards = s.protection.guards := by
    change (s.setElement e v).protection.guards = _
    rw [Parts.setElement_protection]
  have unprotected : p.protection.unprotected = s.protection.unprotected := by
    change (s.setElement e v).protection.unprotected = _
    rw [Parts.setElement_protection]
  have put : s.Alerts p := Parts.Alerts.trans (s := { s with protection.elements := s.protection.elements.set e v })
    (.of_eq rfl) ((markIf_alerts _ _).trans (.of_eq rfl))
  have takes : damageElement e s = reviewGuardOf e p := rfl
  rw [takes]
  unfold reviewGuardOf
  cases guard : p.protection.guards[e] with
  | none =>
    refine ⟨live, store, guards, put, fun d here => ?_⟩
    rw [← guards, guard] at here
    cases here
  | some d =>
    dsimp only
    have unguarded : p.isUnguarded d = true := isUnguarded_of_fails guard (by rw [live]; rfl)
    obtain ⟨a, form, alerts⟩ := reviewGuard_form d p
    obtain ⟨taken, raised⟩ := reviewGuard_unguarded unguarded
    refine ⟨by rw [form]; exact live, by rw [form]; exact store, by rw [form]; exact guards, put.trans alerts, fun d' here => ?_⟩
    rw [← guards, guard] at here
    cases here
    exact ⟨taken, fun safe => raised (by rw [unprotected]; exact safe)⟩

/-- The damage notice of an element at a position that it acts on. -/
theorem elementDamaged_takes (acts : s.damageActs e = true) :
    (elementDamaged e s).protection.elements[e] = { s.protection.elements[e] with
        state := .damaged, zone := .stopped, blind := .stopped
        accumulator := if s.protection.elements[e].state = .tripped then 0 else s.protection.elements[e].accumulator } ∧
      (elementDamaged e s).store.elements[e] = s.store.elements[e] ∧ s.Alerts (elementDamaged e s) ∧
      ∀ d, s.protection.guards[e] = some d → (elementDamaged e s).protection.unprotected[d] = true ∧
        (s.protection.unprotected[d] = false → (elementDamaged e s).attention.flags.protection = true) := by
  obtain ⟨live, store, guards, alerts, unprotects⟩ := damageElement_takes e s
  have spared : (damageElement e s).Spares e (elementDamaged e s) := by
    unfold elementDamaged
    rw [if_pos acts]
    split
    · exact reviewZone_spares (by rw [live]) (by rw [live]; rfl)
    · exact .refl
  refine ⟨spared.live.trans live, by rw [spared.record, store], alerts.trans spared.alerts, fun d guard => ?_⟩
  obtain ⟨taken, raised⟩ := unprotects d guard
  exact ⟨spared.unprotected d (by rw [guards]; exact guard) taken, fun safe => spared.alerts.flags .protection (raised safe)⟩

theorem elementDamaged_idle (idle : s.damageActs e = false) : elementDamaged e s = s := if_neg (by rw [idle]; decide)

end

/-! ## Every kind -/

theorem addHold_adjusts (k : r.Adjusts s) (x : HoldReason) : r.Adjusts (s.addHold x) := by
  unfold Parts.addHold
  split
  · exact k
  · exact raise_adjusts (k.trans (t := { s with service.hold := s.service.hold.put x true }) (.same rfl rfl rfl)) .hold

theorem busDamaged_adjusts (k : r.Adjusts s) (b : BusId) : r.Adjusts (busDamaged b s) := by
  unfold busDamaged
  refine .ite k ?_
  dsimp only
  exact recompute_adjusts ((addHold_adjusts k .busDamaged).trans (.same rfl rfl rfl))

theorem blockDamaged_adjusts (k : r.Adjusts s) (l : BlockId) : r.Adjusts (blockDamaged l s) := by
  have held : r.Adjusts (becomePlain l .held s) :=
    (setBlock_adjusts k l { s.load.blocks[l] with state := .held, shedSequence := none, restorer := none }).trans
      (.same rfl rfl rfl)
  unfold blockDamaged
  exact .ite k (raise_adjusts (.ite held k) .load)

theorem lockoutDamaged_adjusts (k : r.Adjusts s) (j : SlotId) : r.Adjusts (lockoutDamaged j s) := by
  unfold lockoutDamaged
  split
  next h _ =>
    dsimp only
    rw [sendLockoutNotices_eq]
    exact (raise_adjusts (addHold_adjusts (k.trans (t := countOut (writtenSet h) s) (.same rfl rfl rfl)) _) .lockout).trans
      (.same rfl rfl rfl)
  · exact k

theorem onSides_sideManual_adjusts (k : r.Adjusts s) : r.Adjusts (onSides sideManual s) := by
  have manual (u : Parts) (j : SideId) : u.Adjusts (sideManual j u) := by
    have dropped : u.Adjusts (withdrawPreShed j u) := .same rfl rfl rfl
    obtain ⟨reads, same⟩ := withdrawIslandSync_keeps j (withdrawPreShed j u)
    have withdraws := withdrawIslandSync_withdraws j (withdrawPreShed j u)
    exact enterSide_adjusts (dropped.trans ⟨reads.devices, by rw [same], withdraws.alerts,
      congrArg (fun x => x.2.2.2.1.inService) withdraws.beyond⟩) .manual
  exact onSides_adjusts manual k

theorem schemeDamaged_adjusts (k : r.Adjusts s) : r.Adjusts (schemeDamaged s) := by
  unfold schemeDamaged
  refine .ite k (raise_adjusts (k.trans ?_) .changeover)
  exact onSides_sideManual_adjusts (.same (s := s) (t := { s with changeover.mode := .manual }) rfl rfl rfl)

/-- The fallback of a record that is not an element's writes no record but a device's, and is told of. -/
theorem damageNotice_adjusts {n : RecordName} (utility : n.kind ≠ .utility) (element : n.kind ≠ .element) :
    s.Adjusts (damageNotice n s) := by
  cases n with
  | station => exact .refl
  | bus b => exact busDamaged_adjusts .refl b
  | utility u => exact absurd rfl utility
  | generator g => exact generatorDamaged_adjusts .refl g
  | device d => exact .refl
  | block l => exact blockDamaged_adjusts .refl l
  | element e => exact absurd rfl element
  | lockout j => exact lockoutDamaged_adjusts .refl j
  | scheme => exact schemeDamaged_adjusts .refl
  | point p => exact .refl

theorem utilityDamaged_takes {u : UtilityId} (serving : s.changeover.utilities[u].settings.isSome = true) :
    Parts.Adjusts { s with changeover.utilities := s.changeover.utilities.set u { s.changeover.utilities[u] with
        qualification := .unknown, underlying := none, timer := .stopped, measured := false } } (utilityDamaged u s) ∧
      (utilityDamaged u s).attention.flags.changeover = true := by
  have takes : utilityDamaged u s = (setUtility u { s.changeover.utilities[u] with
      qualification := .unknown, underlying := none, timer := .stopped, measured := false } s).raise .changeover :=
    if_neg (by rw [Option.isNone_iff_eq_none]; exact Option.isSome_iff_ne_none.mp serving)
  rw [takes]
  exact ⟨raise_adjusts (setUtility_adjusts u _ s) .changeover, raise_has .changeover⟩

theorem utilityDamaged_idle {u : UtilityId} (idle : s.changeover.utilities[u].settings = none) : utilityDamaged u s = s :=
  if_pos (by rw [idle]; rfl)

/-- Whatever a fallback does, the damaged record stands and what called for attention still does. -/
theorem damageNotice_leaves (n : RecordName) (s : Parts) :
    (damageNotice n s).record n = s.record n ∧ s.Alerts (damageNotice n s) := by
  have adjusts (k : s.Adjusts (damageNotice n s)) (other : n.kind ≠ .device) :
      (damageNotice n s).record n = s.record n ∧ s.Alerts (damageNotice n s) := ⟨k.record other, k.alerts⟩
  cases n with
  | device d => exact ⟨rfl, .refl⟩
  | utility u =>
    change (utilityDamaged u s).record (.utility u) = _ ∧ s.Alerts (utilityDamaged u s)
    cases h : s.changeover.utilities[u].settings with
    | none => rw [utilityDamaged_idle h]; exact ⟨rfl, .refl⟩
    | some y =>
      obtain ⟨k, -⟩ := utilityDamaged_takes (s := s) (u := u) (by rw [h]; rfl)
      exact ⟨(k.record (n := .utility u) nofun).trans rfl, ⟨k.alerts.flags, k.alerts.marks⟩⟩
  | element e =>
    change (elementDamaged e s).record (.element e) = _ ∧ s.Alerts (elementDamaged e s)
    cases acts : s.damageActs e with
    | true =>
      obtain ⟨-, record, alerts, -⟩ := elementDamaged_takes acts
      exact ⟨congrArg (Option.map (Held.map AnySettings.element)) record, alerts⟩
    | false => rw [elementDamaged_idle acts]; exact ⟨rfl, .refl⟩
  | _ => exact adjusts (damageNotice_adjusts nofun nofun) nofun

end Sys2Proof.Machine

/-!
PROOF. The refusals of LOAD, AMEND and RETIRE in their order (R13 to R15), and LOAD, AMEND and RETIRE in CONFIGURING.
-/

namespace Sys2Proof.Machine

section
variable {s : Parts} {n : RecordName} {k : RecordKind} {kind index : Nat} {ps : List FieldPair} {h : Held AnySettings}
  {x : AnySettings}

/-- The record that a check finds INVALID, DAMAGED, with the flag and the mark that the check sets. -/
def Parts.invalidated (s : Parts) (n : RecordName) (h : Held AnySettings) : Parts :=
  ((s.putRecord n h.damage).raise .record).mark n.position

theorem record_invalidated (stored : s.record n = some h) : (s.invalidated n h).record n = some h.damage := by
  have own := record_fits stored
  have fits : n.fits h.damage := own
  have kept : (s.invalidated n h).record n = (s.putRecord n h.damage).record n := by cases n <;> rfl
  exact kept.trans (record_putRecord (h := h.damage) fits)

/-- What a check that finds a record INVALID leaves. -/
theorem damageNotice_invalidated (stored : s.record n = some h) :
    (damageNotice n (s.invalidated n h)).record n = some h.damage ∧
      (damageNotice n (s.invalidated n h)).attention.flags.record = true ∧
      (damageNotice n (s.invalidated n h)).attention.changed[n.position] = true := by
  obtain ⟨record, alerts⟩ := damageNotice_leaves n (s.invalidated n h)
  exact ⟨record.trans (record_invalidated stored), alerts.flags .record rfl, alerts.marks _ (mark_marks n.position)⟩

/-! ## Where a request is not admitted in service (R13 to R15) -/

theorem amendAdmitted_iff : amendAdmitted n ps s = false ↔ s.service.inService = true ∧
    ((∃ p ∈ ps, p.field ∉ amendableFields n.kind) ∨ ∃ d, n = .device d ∧ s.switching.devices[d].state ≠ .open) := by
  have named : (ps.all fun p => (amendableFields n.kind).contains p.field) = false ↔
      ∃ p ∈ ps, p.field ∉ amendableFields n.kind := by
    rw [List.all_eq_false]
    simp only [List.contains_iff_mem]
  unfold amendAdmitted
  rw [Bool.or_eq_false_iff, Bool.not_eq_false', Bool.and_eq_false_iff, named]
  refine and_congr_right' (or_congr_right ?_)
  cases n with
  | device d =>
    rw [beq_eq_false_iff_ne]
    exact ⟨fun h => ⟨d, rfl, h⟩, fun ⟨_, e, h⟩ => by cases e; exact h⟩
  | _ => exact ⟨nofun, fun ⟨_, e, _⟩ => nomatch e⟩

theorem retireAdmitted_iff : retireAdmitted n s = false ↔ s.service.inService = true ∧
    ∀ d, n = .device d → s.position d ≠ .open ∨ s.switching.devices[d].state = .closing ∨
      s.switching.devices[d].state = .opening := by
  unfold retireAdmitted
  rw [Bool.or_eq_false_iff, Bool.not_eq_false']
  refine and_congr_right' ?_
  cases n with
  | device d =>
    have flight : (!s.switching.devices[d].state.inFlight) = false ↔
        s.switching.devices[d].state = .closing ∨ s.switching.devices[d].state = .opening := by
      rw [Bool.not_eq_false']
      cases s.switching.devices[d].state <;> simp [DeviceState.inFlight]
    rw [Bool.and_eq_false_iff, beq_eq_false_iff_ne, flight]
    exact ⟨fun h _ e => by cases e; exact h, fun h => h d rfl⟩
  | _ => exact iff_of_true rfl nofun

/-- What bars a LOAD (R13). -/
def Parts.loadBarred (s : Parts) (n : RecordName) : Prop :=
  match n with
  | .lockout j => isActive s.store.lockouts[j] = false
  | .scheme => s.service.inService = true ∧ s.changeover.mode ≠ .manual
  | .device d => s.service.inService = true ∧ isActive s.store.devices[d] = true
  | .element e => s.service.inService = true ∧ (s.protection.elements[e].state = .pickedUp ∨
      s.protection.elements[e].state = .resetting ∨ s.protection.elements[e].state = .tripped)
  | .generator g => s.service.inService = true ∧ s.paralleling.generators[g].state ≠ .stopped ∧
      s.paralleling.generators[g].state ≠ .unavailable ∧ s.paralleling.generators[g].state ≠ .failed
  | .block l => s.service.inService = true ∧ s.load.blocks[l].state = .restoring
  | .station | .bus _ | .utility _ | .point _ => s.service.inService = true

theorem loadAdmitted_barred (barred : s.loadBarred n) : loadAdmitted n s = false := by
  have serving {b : Bool} (serves : s.service.inService = true) (no : b = false) : (!s.service.inService || b) = false := by
    rw [serves, no]
    rfl
  cases n with
  | lockout j => exact barred
  | scheme => exact serving barred.1 (beq_eq_false_iff_ne.mpr barred.2)
  | device d =>
    have stands : (!isActive s.store.devices[d]) = false := by rw [barred.2]; rfl
    exact serving barred.1 stands
  | element e =>
    refine serving barred.1 ?_
    dsimp only
    rcases barred.2 with h | h | h <;> rw [h]
  | generator g =>
    obtain ⟨serves, stopped, unavailable, failed⟩ := barred
    refine serving serves ?_
    dsimp only
    split
    next h => exact absurd h stopped
    next h => exact absurd h unavailable
    next h => exact absurd h failed
    · rfl
  | block l =>
    have restores : (s.load.blocks[l].state != .restoring) = false := by rw [barred.2]; rfl
    exact serving barred.1 restores
  | _ => exact serving barred rfl

end

/-- Settles O17: the judgements in their order, each refusal by its first failure. -/
theorem recordRequestsAreRefusedInOrder : Obligations.RecordRequestsAreRefusedInOrder := by
  unfold Obligations.RecordRequestsAreRefusedInOrder
  intro t kind index ps s live inService load amend retire
  have loads {a : Status} (e : loadRequest kind index ps s.parts = (s.parts, a)) : load a := taking_stands 0x10 t live e
  have amends {a : Status} (e : amendRequest kind index ps s.parts = (s.parts, a)) : amend a := taking_stands 0x11 t live e
  have retires {a : Status} (e : retireRequest kind index s.parts = (s.parts, a)) : retire a := taking_stands 0x12 t live e
  refine ⟨fun out => ⟨loads (loadRequest_badKind out), amends (amendRequest_badKind out), retires (retireRequest_badKind out)⟩,
    fun lockout => ?_, fun k hk => ⟨fun unnamed => ⟨loads (loadRequest_badIndex hk unnamed), fun other =>
      ⟨amends (amendRequest_badIndex hk other unnamed), retires (retireRequest_badIndex hk other unnamed)⟩⟩, fun n named => ?_⟩⟩
  · subst lockout
    exact ⟨amends amendRequest_lockout, retires retireRequest_lockout⟩
  have kinds := recordNamed_kind named
  subst kinds
  have loading := loadRequest_named (s := s.parts) (ps := ps) hk named
  have amending (other : n.kind ≠ .lockout) := amendRequest_named (s := s.parts) (ps := ps) hk other named
  have retiring (other : n.kind ≠ .lockout) := retireRequest_named (s := s.parts) hk other named
  intro barred amendable fixed stays
  have fields : amendable = amendableFields n.kind := by
    cases n <;> rfl
  have fixes : fixed ↔ amendAdmitted n ps s.parts = false := by rw [amendAdmitted_iff, ← fields]
  refine ⟨fun form => loads (loading.trans (loadNamed_badRequest form)), fun fit complete refused => ?_,
    fun x fit complete read acyclic bars => ?_, fun other form => amends ((amending other).trans (amendNamed_badRequest form)),
    fun other some_ fit => ⟨fun refused => ?_, fun h stored free => ⟨fun damaged => ?_, fun intact differs lost => ?_,
      fun valid refused => ?_⟩⟩, fun other => ⟨fun refused => ?_, fun h stored retired free => ?_⟩⟩
  · rcases refused with read | ⟨x, read, cycle⟩
    · exact loads (loading.trans (loadNamed_unread fit complete read))
    · exact loads (loading.trans (loadNamed_cycle fit complete read cycle))
  · refine loads (loading.trans (loadNamed_barred fit complete read acyclic (loadAdmitted_barred ?_)))
    cases n <;> exact bars
  · rcases refused with empty | bars
    · exact amends ((amending other).trans (amendNamed_empty fit some_ empty))
    · exact amends ((amending other).trans (amendNamed_barred fit some_ (fixes.mp bars)))
  · have admitted := Bool.not_eq_false _ ▸ mt fixes.mpr free
    exact amends ((amending other).trans (amendNamed_damaged fit some_ stored admitted damaged))
  · have admitted := Bool.not_eq_false _ ▸ mt fixes.mpr free
    exact ⟨_, taking_judges 0x11 t live ((amending other).trans
      (amendNamed_invalid fit some_ stored admitted intact differs lost)), damageNotice_invalidated stored⟩
  · have admitted := Bool.not_eq_false _ ▸ mt fixes.mpr free
    rcases refused with read | ⟨x, read, cycle⟩
    · exact amends ((amending other).trans (amendNamed_unread fit some_ stored admitted valid read))
    · exact amends ((amending other).trans (amendNamed_cycle fit some_ stored admitted valid read cycle))
  · rcases refused with empty | bars
    · exact retires ((retiring other).trans (retireNamed_empty empty))
    · exact retires ((retiring other).trans (retireNamed_barred (retireAdmitted_iff.mpr bars)))
  · have admitted : retireAdmitted n s.parts = true := Bool.not_eq_false _ ▸ mt retireAdmitted_iff.mp free
    exact retires ((retiring other).trans (retireNamed_already stored admitted retired))

end Sys2Proof.Machine

/-!
PROOF. LOAD, AMEND and RETIRE in CONFIGURING (R13 to R16): the record written, and the derived indices rebuilt.
-/

namespace Sys2Proof.Machine

section
variable {s : Parts} {n : RecordName} {k : RecordKind} {ps : List FieldPair} {h : Held AnySettings} {x : AnySettings}

/-! ## Requests on a record without a derived index -/

theorem readSettings_kind (read : readSettings k ps = some x) : kindOf x = k := by
  cases k <;> (obtain ⟨_, -, rfl⟩ := Option.map_eq_some_iff.mp read; rfl)

theorem loadNotice_configuring {before : Parts} (configuring : s.service.inService = false) (other : n.kind ≠ .lockout) :
    loadNotice n before s = s := by
  have idle : (!s.service.inService) = true := by rw [configuring]; rfl
  cases n with
  | device d => exact if_neg (by rw [configuring]; decide)
  | element e => exact if_pos idle
  | generator g => exact if_pos idle
  | block l => exact if_pos idle
  | scheme => exact if_pos idle
  | lockout j => exact absurd rfl other
  | _ => rfl

theorem rebuildFor_plain (device : n.kind ≠ .device) (element : n.kind ≠ .element) : rebuildFor n s = s := by
  cases n with
  | device d => exact absurd rfl device
  | element e => exact absurd rfl element
  | _ => rfl

theorem retireNotice_configuring (configuring : s.service.inService = false) : retireNotice n s = s := by
  cases n with
  | device d => exact if_neg (by rw [configuring]; decide)
  | _ => rfl

/-- An AMEND in CONFIGURING is taken by no owner. -/
theorem amendNotice_configuring {fields : List Nat} (configuring : s.service.inService = false)
    (utilities : ∀ u : UtilityId, s.changeover.utilities[u].settings = none) : amendNotice n fields s = s := by
  cases n with
  | utility u => exact if_pos (by rw [utilities u]; rfl)
  | generator g => exact if_neg fun c => Bool.false_ne_true (configuring.symm.trans c.1)
  | block l => exact if_pos (.inl (by rw [configuring]; rfl))
  | element e =>
    have idle : s.damageActs e = false := by
      unfold Parts.damageActs
      rw [configuring, Bool.false_and]
    exact if_neg (by rw [idle]; decide)
  | _ => rfl

end

/-- Settles O13: the owners take nothing while CONFIGURING, so the record written is all. -/
theorem loadAndAmendWriteARecordInConfiguring : Obligations.LoadAndAmendWriteARecordInConfiguring := by
  unfold Obligations.LoadAndAmendWriteARecordInConfiguring
  intro t kind index ps k n x s live configuring hk named other fit
  have kinds := recordNamed_kind named
  subst kinds
  intro amended
  refine ⟨fun device element complete read => ?_, fun h utilities stored valid some_ read acyclic => ?_⟩
  · have fits : n.fits (Held.fresh x) := ⟨readSettings_kind read, readSettings_kind read⟩
    have quiet : (s.parts.putRecord n (Held.fresh x)).service.inService = false := by
      rw [putRecord_service]
      exact configuring
    have loads : loadRecord n x s.parts = s.parts.putRecord n (Held.fresh x) := by
      unfold loadRecord
      rw [rebuildFor_plain device element, loadNotice_configuring quiet other]
    have request := (loadRequest_named hk named).trans (loadNamed_admitted fit complete read (closesCycle_other element)
      (loadAdmitted_configuring configuring other))
    rw [loads] at request
    exact ⟨taking_judged 0x10 t live.1 request (putRecord_calm live.2 n _), record_putRecord fits,
      fun m ne => record_putRecord_ne s.parts _ ne⟩
  · have fits : n.fits (h.rewrite x) := ⟨readSettings_kind read, readSettings_kind read⟩
    have amends : amendRecord n h x (ps.map FieldPair.field) s.parts = s.parts.putRecord n (h.rewrite x) := by
      refine amendNotice_configuring ?_ fun u => ?_
      · rw [putRecord_service]
        exact configuring
      · obtain ⟨st, form⟩ := putRecord_writes s.parts n (h.rewrite x)
        rw [form]
        exact utilities u
    have request := (amendRequest_named hk other named).trans (amendNamed_admitted fit some_ stored
      (amendAdmitted_configuring configuring) valid read acyclic)
    rw [amends] at request
    exact ⟨taking_judged 0x11 t live.1 request (putRecord_calm live.2 n _), record_putRecord fits,
      fun m ne => record_putRecord_ne s.parts _ ne⟩

/-! ## The derived indices (R16) -/

section
variable {s : Parts}

theorem foldl_set_getElem_fin {α : Type} {n : Nat} (f : Fin n → α) (l : List (Fin n)) (v : Vector α n) (e : Fin n) :
    (l.foldl (fun v i => v.set i (f i)) v)[e] = if e ∈ l then f e else v[e] := by
  induction l generalizing v with
  | nil => rfl
  | cons i l ih =>
    rw [List.foldl_cons, ih]
    by_cases later : e ∈ l
    · rw [if_pos later, if_pos (List.mem_cons_of_mem i later)]
    · rw [if_neg later]
      by_cases same : i = e
      · subst same
        rw [if_pos List.mem_cons_self]
        exact getElem_set_fin_self _ _ _
      · rw [if_neg (fun mem => (List.mem_cons.mp mem).elim (fun e' => same e'.symm) later)]
        exact getElem_set_fin_ne _ _ _ _ same

/-- A vector written at every index. -/
theorem foldl_set_ofFn {α : Type} {n : Nat} (f : Fin n → α) (v : Vector α n) :
    (List.finRange n).foldl (fun v i => v.set i (f i)) v = Vector.ofFn f := by
  refine Vector.ext fun i hi => ?_
  have written := foldl_set_getElem_fin f (List.finRange n) v ⟨i, hi⟩
  rw [if_pos (List.mem_finRange _)] at written
  exact written.trans (Vector.getElem_ofFn hi).symm

/-- The entry of a device by its record. -/
def Parts.entryBy (s : Parts) (d : DeviceId) : Option IndexEntry := (activeSettings s.store.devices[d]).map entryOf

/-- The device an element guards by its record. -/
def Parts.guardBy (s : Parts) (e : ElementId) : Option DeviceId :=
  (activeSettings s.store.elements[e]).map ElementSettings.guarded

theorem isActive_some {α : Type} (h : Held α) : isActive (some h) = !h.retired := rfl

theorem activeSettings_active {α : Type} {h : Held α} (active : h.retired = false) :
    activeSettings (some h) = some h.settings := if_pos (by rw [isActive_some, active]; rfl)

theorem activeSettings_retired {α : Type} {h : Held α} (retired : h.retired = true) : activeSettings (some h) = none :=
  if_neg (by rw [isActive_some, retired]; decide)

theorem rebuildEntry_valid {d : DeviceId} (valid : ∀ h, s.store.devices[d] = some h → h.retired = false → h.valid) :
    rebuildEntry s d = s.setIndexEntry d (s.entryBy d) := by
  unfold rebuildEntry Parts.entryBy
  cases stored : s.store.devices[d] with
  | none => rfl
  | some h =>
    cases active : h.retired with
    | true => rw [if_neg (by rw [isActive_some, active]; decide), activeSettings_retired active]; rfl
    | false =>
      rw [if_pos (by rw [isActive_some, active]; rfl), useDevice_valid d h s stored (valid h stored active),
        activeSettings_active active]
      rfl

theorem rebuildGuard_valid {e : ElementId} (valid : ∀ h, s.store.elements[e] = some h → h.retired = false → h.valid) :
    rebuildGuard s e = s.setGuard e (s.guardBy e) := by
  unfold rebuildGuard Parts.guardBy
  cases stored : s.store.elements[e] with
  | none => rfl
  | some h =>
    cases active : h.retired with
    | true => rw [if_neg (by rw [isActive_some, active]; decide), activeSettings_retired active]; rfl
    | false =>
      have read : useElement e s = (s, some h.settings) := by
        unfold useElement
        rw [stored]
        exact useHeld_valid h _ _ _ s (valid h stored active)
      rw [if_pos (by rw [isActive_some, active]; rfl), read, activeSettings_active active]
      rfl

/-- Where every record is VALID the index is that of the records. -/
theorem rebuildIndex_valid (valid : ∀ (d : DeviceId) h, s.store.devices[d] = some h → h.retired = false → h.valid) :
    rebuildIndex s = { s with topology.index := Vector.ofFn s.entryBy } := by
  have step (l : List DeviceId) (v : Vector (Option IndexEntry) 48) :
      l.foldl rebuildEntry { s with topology.index := v } =
        { s with topology.index := l.foldl (fun v (d : DeviceId) => v.set d (s.entryBy d)) v } := by
    induction l generalizing v with
    | nil => rfl
    | cons d l ih =>
      rw [List.foldl_cons, List.foldl_cons, rebuildEntry_valid (s := { s with topology.index := v }) (valid d)]
      exact ih _
  have all := step (List.finRange 48) s.topology.index
  rw [foldl_set_ofFn s.entryBy] at all
  unfold rebuildIndex allDevices
  exact all

theorem rebuildGuards_valid (valid : ∀ (e : ElementId) h, s.store.elements[e] = some h → h.retired = false → h.valid) :
    rebuildGuards s = { s with protection.guards := Vector.ofFn s.guardBy } := by
  have step (l : List ElementId) (v : Vector (Option DeviceId) 64) :
      l.foldl rebuildGuard { s with protection.guards := v } =
        { s with protection.guards := l.foldl (fun v (e : ElementId) => v.set e (s.guardBy e)) v } := by
    induction l generalizing v with
    | nil => rfl
    | cons e l ih =>
      rw [List.foldl_cons, List.foldl_cons, rebuildGuard_valid (s := { s with protection.guards := v }) (valid e)]
      exact ih _
  have all := step (List.finRange 64) s.protection.guards
  rw [foldl_set_ofFn s.guardBy] at all
  unfold rebuildGuards allElements
  exact all

/-- With no bus in use there is no island to work out. -/
theorem recompute_unused (unused : ∀ b : BusId, s.topology.inUse[b] = false) (islands : s.topology.islands = []) :
    recompute s = s := by
  have none : computeIslands s = [] := by
    unfold computeIslands
    dsimp only
    rw [List.filter_eq_nil_iff.mpr fun b _ => by rw [unused b, Bool.false_and]; decide]
    rfl
  have quiet : islandNotices s.topology.islands [] = [] := rfl
  unfold recompute
  dsimp only
  rw [none, quiet, ← islands]
  rfl

theorem rebuildFor_device (d : DeviceId) (valid : ∀ (d : DeviceId) h, s.store.devices[d] = some h → h.retired = false → h.valid)
    (unused : ∀ b : BusId, s.topology.inUse[b] = false) (islands : s.topology.islands = []) :
    rebuildFor (.device d) s = { s with
      topology.index := Vector.ofFn s.entryBy, topology.conducting := Vector.ofFn s.isConducting } := by
  unfold rebuildFor
  dsimp only
  rw [rebuildIndex_valid valid]
  generalize Vector.ofFn s.entryBy = v
  unfold takeAllConducting
  rw [recompute_unused (by exact unused) (by exact islands)]
  rfl

/-- Settles O18: a RETIRE writes the life state, and the indices are those of the records that stay ACTIVE. -/
theorem retireWithdrawsARecord : Obligations.RetireWithdrawsARecord := by
  unfold Obligations.RetireWithdrawsARecord
  intro t kind index s live configuring
  refine ⟨fun lockout => ?_, fun k n hk named other => ?_, fun devices elements unused islands => ⟨fun d h stored active => ?_,
    fun e h stored active => ?_⟩⟩
  · subst lockout
    exact taking_stands 0x12 t live retireRequest_lockout
  · have kinds := recordNamed_kind named
    subst kinds
    have request := retireRequest_named (s := s.parts) hk other named
    have admitted := retireAdmitted_configuring (n := n) configuring
    refine ⟨fun empty => taking_stands 0x12 t live (request.trans (retireNamed_empty empty)), fun h stored retired =>
      taking_stands 0x12 t live (request.trans (retireNamed_already stored admitted retired)),
      fun h stored active device element => ?_⟩
    have own := record_fits stored
    have fits : n.fits { h with retired := true } := own
    have quiet : (s.parts.putRecord n { h with retired := true }).service.inService = false := by
      rw [putRecord_service]
      exact configuring
    have retires := request.trans (retireNamed_admitted stored admitted active)
    rw [rebuildFor_plain device element, retireNotice_configuring quiet] at retires
    exact ⟨taking_judged 0x12 t live.1 retires (putRecord_calm live.2 n _), record_putRecord fits⟩
  · let p := s.parts.putDevice d (some { h with retired := true })
    have named : recordNamed .device d.val = some (.device d) := congrArg (Option.map RecordName.device) (index?_val d)
    have request := retireRequest_named (kind := 4) (k := .device) (s := s.parts) rfl nofun named
    have present : s.parts.record (.device d) = some (h.map .device) := congrArg (Option.map (Held.map AnySettings.device)) stored
    have retires := request.trans (retireNamed_admitted present (retireAdmitted_configuring configuring) active)
    have put : s.parts.putRecord (.device d) { h.map AnySettings.device with retired := true } = p := rfl
    have valid (e : DeviceId) (x) (at_e : p.store.devices[e] = some x) : x.valid := by
      by_cases same : d = e
      · subst same
        cases (getElem_set_fin_self _ _ _).symm.trans at_e
        exact devices d h stored
      · exact devices e x ((getElem_set_fin_ne _ _ _ _ same).symm.trans at_e)
    rw [put, rebuildFor_device (s := p) d (fun e x at_e _ => valid e x at_e) unused islands, retireNotice_configuring (by exact configuring)] at retires
    refine ⟨_, taking_judged 0x12 t live.1 retires ⟨live.2.1, live.2.2⟩, rfl, ?_, rfl⟩
    have gone : p.store.devices[d] = some { h with retired := true } := getElem_set_fin_self _ _ _
    refine (Vector.getElem_ofFn d.isLt).trans ?_
    change (activeSettings p.store.devices[d]).map entryOf = none
    rw [gone, activeSettings_retired rfl]
    rfl
  · let p := s.parts.putElement e (some { h with retired := true })
    have named : recordNamed .element e.val = some (.element e) := congrArg (Option.map RecordName.element) (index?_val e)
    have request := retireRequest_named (kind := 6) (k := .element) (s := s.parts) rfl nofun named
    have present : s.parts.record (.element e) = some (h.map .element) :=
      congrArg (Option.map (Held.map AnySettings.element)) stored
    have retires := request.trans (retireNamed_admitted present (retireAdmitted_configuring configuring) active)
    have put : s.parts.putRecord (.element e) { h.map AnySettings.element with retired := true } = p := rfl
    have valid (f : ElementId) (x) (at_f : p.store.elements[f] = some x) : x.valid := by
      by_cases same : e = f
      · subst same
        cases (getElem_set_fin_self _ _ _).symm.trans at_f
        exact elements e h stored
      · exact elements f x ((getElem_set_fin_ne _ _ _ _ same).symm.trans at_f)
    have rebuilt : rebuildFor (.element e) p = { p with protection.guards := Vector.ofFn p.guardBy } :=
      rebuildGuards_valid fun f x at_f _ => valid f x at_f
    rw [put, rebuilt, retireNotice_configuring (by exact configuring)] at retires
    refine ⟨_, taking_judged 0x12 t live.1 retires ⟨live.2.1, live.2.2⟩, rfl, ?_, rfl⟩
    have gone : p.store.elements[e] = some { h with retired := true } := getElem_set_fin_self _ _ _
    refine (Vector.getElem_ofFn e.isLt).trans ?_
    change (activeSettings p.store.elements[e]).map ElementSettings.guarded = none
    rw [gone, activeSettings_retired rfl]
    rfl

end

end Sys2Proof.Machine

/-!
PROOF. LOAD of a device, an element and a lockout record (R13, R16, R70).
-/

namespace Sys2Proof.Machine

section
variable {s : Parts} {k : SlotId} {former : Held LockoutSettings} {x : LockoutSettings}

/-- The table once a former set has been counted out, unless its record was DAMAGED, and the loaded one in. -/
def recounted (k : SlotId) (former : Held LockoutSettings) (x : LockoutSettings) (s : Parts) : Parts :=
  countIn x.devices (if former.integrity = .damaged then s.putLockout k (some (Held.fresh x))
    else countOut (writtenSet former) (s.putLockout k (some (Held.fresh x))))

/-- The Store and the cover counts are all of the Lockout Table that a recount writes. -/
theorem recounted_form : ∃ cover, recounted k former x s = { s with
    store.lockouts := s.store.lockouts.set k (some (Held.fresh x)), lockouts.cover := cover } := by
  unfold recounted
  split
  · exact ⟨_, rfl⟩
  · exact ⟨_, rfl⟩

theorem recounted_cover (old : (writtenSet former).Nodup) (new : x.devices.Nodup) (d : DeviceId) :
    (recounted k former x s).lockouts.cover[d] =
      s.lockouts.cover[d] - (if former.integrity ≠ .damaged ∧ d ∈ writtenSet former then 1 else 0) +
        (if d ∈ x.devices then 1 else 0) := by
  have count (ds : List DeviceId) : (ds.contains d).toNat = if d ∈ ds then 1 else 0 := by
    by_cases mem : d ∈ ds
    · rw [if_pos mem, List.contains_iff_mem.mpr mem]; rfl
    · rw [if_neg mem, Bool.eq_false_iff.mpr fun c => mem (List.contains_iff_mem.mp c)]; rfl
  unfold recounted
  rw [countIn_cover new, count x.devices]
  refine congrArg (· + if d ∈ x.devices then 1 else 0) ?_
  by_cases bad : former.integrity = .damaged
  · simp only [ne_eq, bad, not_true_eq_false, false_and, if_true, if_false]
    rfl
  · simp only [ne_eq, bad, not_false_eq_true, true_and, if_false, countOut_cover old, count (writtenSet former)]
    rfl

/-- What the LOAD of a lockout record does beside the Store, with no lockout hold to end. -/
theorem loadRecord_lockout (stored : s.store.lockouts[k] = some former) (free : s.service.hold.lockoutDamaged = false) :
    loadRecord (.lockout k) (.lockout x) s =
      ((abortLocked (recounted k former x s)).sendAll
        (lockoutTells (s.putLockout k (some (Held.fresh x))) (abortLocked (recounted k former x s)))).mark (lockoutIndex k) := by
  have put : s.putRecord (.lockout k) (Held.fresh (.lockout x)) = s.putLockout k (some (Held.fresh x)) := rfl
  have here : (s.putLockout k (some (Held.fresh x))).store.lockouts[k] = some (Held.fresh x) := getElem_set_fin_self _ _ _
  have set : writtenSet (Held.fresh x) = x.devices := rfl
  obtain ⟨cover, form⟩ := recounted_form (k := k) (former := former) (x := x) (s := s)
  obtain ⟨vs, ds, a, ns, aborts⟩ := abortLocked_operated (recounted k former x s)
  have held : (abortLocked (recounted k former x s)).service.hold.has .lockoutDamaged = false := by
    rw [aborts, form]
    exact free
  unfold loadRecord rebuildFor loadNotice
  dsimp only
  rw [stored, put]
  unfold lockoutLoaded
  rw [here]
  dsimp only
  rw [set, sendLockoutNotices_eq]
  change Parts.mark (Parts.sendAll (if (abortLocked (recounted k former x s)).anyLockoutDamaged then
    abortLocked (recounted k former x s) else (abortLocked (recounted k former x s)).removeHold .lockoutDamaged)
    (lockoutTells _ (if (abortLocked (recounted k former x s)).anyLockoutDamaged then
      abortLocked (recounted k former x s) else (abortLocked (recounted k former x s)).removeHold .lockoutDamaged))) _ = _
  rw [Parts.removeHold_absent _ _ held, ite_self]

end

/-- Settles O14: the record written, the index of the records as they then stand, and the recount of a lockout's devices. -/
theorem loadRebuildsIndicesAndRecountsLockouts : Obligations.LoadRebuildsIndicesAndRecountsLockouts := by
  unfold Obligations.LoadRebuildsIndicesAndRecountsLockouts
  intro t ps s live
  refine ⟨fun configuring unused islands => ⟨fun d x fit complete read others => ?_, fun e x fit complete read acyclic others => ?_⟩,
    fun k h x free stored active nodup fit complete read => ?_⟩
  · let p := s.parts.putDevice d (some (Held.fresh x))
    have named : recordNamed .device d.val = some (.device d) := congrArg (Option.map RecordName.device) (index?_val d)
    have request := (loadRequest_named (kind := 4) (k := .device) (s := s.parts) (ps := ps) rfl named).trans
      (loadNamed_admitted (n := .device d) (x := .device x) fit complete (congrArg (Option.map AnySettings.device) read)
        (closesCycle_other nofun) (loadAdmitted_configuring configuring nofun))
    have valid (e : DeviceId) (y) (at_e : p.store.devices[e] = some y) : y.valid := by
      by_cases same : d = e
      · subst same
        cases (getElem_set_fin_self _ _ _).symm.trans at_e
        exact ⟨nofun, rfl⟩
      · exact others e y (Ne.symm same) ((getElem_set_fin_ne _ _ _ _ same).symm.trans at_e)
    have loads : loadRecord (.device d) (.device x) s.parts = { p with
        topology.index := Vector.ofFn p.entryBy, topology.conducting := Vector.ofFn p.isConducting } := by
      have put : s.parts.putRecord (.device d) (Held.fresh (.device x)) = p := rfl
      unfold loadRecord
      rw [put, rebuildFor_device (s := p) d (fun e y at_e _ => valid e y at_e) unused islands]
      exact loadNotice_configuring configuring nofun
    rw [loads] at request
    exact ⟨_, taking_judged 0x10 t live.1 request ⟨live.2.1, live.2.2⟩, rfl, fun e => Vector.getElem_ofFn e.isLt, rfl⟩
  · let p := s.parts.putElement e (some (Held.fresh x))
    have named : recordNamed .element e.val = some (.element e) := congrArg (Option.map RecordName.element) (index?_val e)
    have request := (loadRequest_named (kind := 6) (k := .element) (s := s.parts) (ps := ps) rfl named).trans
      (loadNamed_admitted (n := .element e) (x := .element x) fit complete (congrArg (Option.map AnySettings.element) read)
        acyclic (loadAdmitted_configuring configuring nofun))
    have valid (f : ElementId) (y) (at_f : p.store.elements[f] = some y) : y.valid := by
      by_cases same : e = f
      · subst same
        cases (getElem_set_fin_self _ _ _).symm.trans at_f
        exact ⟨nofun, rfl⟩
      · exact others f y (Ne.symm same) ((getElem_set_fin_ne _ _ _ _ same).symm.trans at_f)
    have loads : loadRecord (.element e) (.element x) s.parts = { p with protection.guards := Vector.ofFn p.guardBy } := by
      have put : s.parts.putRecord (.element e) (Held.fresh (.element x)) = p := rfl
      have rebuilt : rebuildFor (.element e) p = { p with protection.guards := Vector.ofFn p.guardBy } :=
        rebuildGuards_valid fun f y at_f _ => valid f y at_f
      unfold loadRecord
      rw [put, rebuilt]
      exact loadNotice_configuring configuring nofun
    rw [loads] at request
    exact ⟨_, taking_judged 0x10 t live.1 request ⟨live.2.1, live.2.2⟩, rfl, fun f => Vector.getElem_ofFn f.isLt, rfl⟩
  · have named : recordNamed .lockout k.val = some (.lockout k) := congrArg (Option.map RecordName.lockout) (index?_val k)
    have admitted : loadAdmitted (.lockout k) s.parts = true := by
      change isActive s.parts.store.lockouts[k] = true
      rw [stored, isActive_some, active]
      rfl
    have request := (loadRequest_named (kind := 7) (k := .lockout) (s := s.parts) (ps := ps) rfl named).trans
      (loadNamed_admitted (n := .lockout k) (x := .lockout x) fit complete (congrArg (Option.map AnySettings.lockout) read)
        (closesCycle_other nofun) admitted)
    rw [loadRecord_lockout stored free] at request
    have cover := recounted_cover (s := s.parts) (k := k) (former := h) nodup (readLockout_nodup read)
    obtain ⟨c, form⟩ := recounted_form (k := k) (former := h) (x := x) (s := s.parts)
    have tables := abortLocked_lockouts (recounted k h x s.parts)
    obtain ⟨vs, ds, a, ns, aborted⟩ := abortLocked_operated (recounted k h x s.parts)
    have aborts {d : DeviceId} {y : Held DeviceSettings} := abortLocked_aborts (s := recounted k h x s.parts) (e := d) (y := y)
    have quiet := abortLocked_none (s := recounted k h x s.parts)
    have tells := lockoutTells_counts (before := s.parts.putLockout k (some (Held.fresh x))) (s := recounted k h x s.parts)
      (by rw [form]; rfl)
    generalize abortLocked (recounted k h x s.parts) = w at request tables aborted aborts quiet
    refine ⟨_, taking_judges 0x10 t live request, ?_, fun d => ?_, ?_, mark_marks _, fun d y closing locked record valid => ?_,
      fun unlocked => ?_⟩
    · change w.store.lockouts = _
      rw [aborted, form]
      rfl
    · change w.lockouts.cover[d] = _
      rw [tables, cover]
    · change w.lockouts.pending = _
      rw [tables, form]
    · change w.switching.devices[d] = _
      have here : (recounted k h x s.parts).isLocked d = true := (isLocked_congr tables.symm d).trans locked
      rw [aborts (by rw [form]; exact closing) here (by rw [form]; exact record) valid, form]
    · have same : w = recounted k h x s.parts := quiet fun d closing =>
        (isLocked_congr tables.symm d).trans (unlocked d (by rw [form] at closing; exact closing))
      rw [same, form]
      refine ⟨rfl, ?_, ?_⟩
      · change s.parts.notices ++ lockoutTells _ _ = _
        rw [live.2.1, List.nil_append]
        rw [form] at tells
        exact tells
      · change { s.parts with notices := [] } = s.parts
        rw [← live.2.1]

end Sys2Proof.Machine

/-!
PROOF. The scrub step (R12), and what each owner's fallback does (R10, R47, R70, R123, R154, R166).
-/

namespace Sys2Proof.Machine

variable {r s t : Parts}

/-! ## The fallbacks -/

theorem busDamaged_takes {b : BusId} (serving : s.service.inService = true) (used : s.topology.inUse[b] = true) :
    (busDamaged b s).service.hold.busDamaged = true ∧ (busDamaged b s).topology.damaged[b] = true ∧
      (busDamaged b s).topology.classes[b] = .none ∧
      (busDamaged b s).attention.flags.hold = (s.attention.flags.hold || !s.service.hold.busDamaged) := by
  let p : Parts := { s.addHold .busDamaged with
    topology.damaged := (s.addHold .busDamaged).topology.damaged.set b true
    topology.classes := (s.addHold .busDamaged).topology.classes.set b .none }
  have takes : busDamaged b s = recompute p := by
    unfold busDamaged
    rw [used]
    rfl
  have held : (s.addHold .busDamaged).service.hold.busDamaged = true ∧
      (s.addHold .busDamaged).attention.flags.hold = (s.attention.flags.hold || !s.service.hold.busDamaged) := by
    unfold Parts.addHold
    rw [serving]
    cases here : s.service.hold.busDamaged with
    | true =>
      have again : s.service.hold.has .busDamaged = true := here
      rw [again]
      exact ⟨here, (Bool.or_false _).symm⟩
    | false =>
      have first : s.service.hold.has .busDamaged = false := here
      rw [first]
      exact ⟨rfl, (Bool.or_true _).symm⟩
  obtain ⟨is, ns, form⟩ := recompute_form p
  rw [takes, form]
  exact ⟨held.1, getElem_set_fin_self _ _ _, getElem_set_fin_self _ _ _, held.2⟩

theorem blockDamaged_takes {l : BlockId} (serving : s.service.inService = true)
    (own : s.load.blocks[l].settings.isSome = true) : (blockDamaged l s).attention.flags.load = true ∧
      (s.load.blocks[l].state = .shed → (blockDamaged l s).load.blocks[l].state = .held ∧ l ∉ (blockDamaged l s).load.queue) ∧
      (s.load.blocks[l].state ≠ .shed → (blockDamaged l s).load = s.load) := by
  have takes : blockDamaged l s =
      (if s.load.blocks[l].state = .shed then becomePlain l .held s else s).raise .load := by
    refine if_neg (not_or.mpr ⟨by rw [serving]; decide, ?_⟩)
    rw [Option.isNone_iff_eq_none]
    exact Option.isSome_iff_ne_none.mp own
  rw [takes]
  refine ⟨raise_has .load, fun shed => ?_, fun other => ?_⟩
  · obtain ⟨m, form⟩ := becomePlain_form l .held s
    rw [if_pos shed, form]
    exact ⟨(congrArg BlockLive.state (getElem_set_fin_self s.load.blocks l
      { s.load.blocks[l] with state := .held, shedSequence := none, restorer := none }) :), not_mem_left l s.load.queue⟩
  · rw [if_neg other]
    rfl

/-- A generator that closes its device opens it where its record is damaged. -/
theorem disconnectWith_closing {done : Parts → Parts} {g : GeneratorId} {d : DeviceId} (device : s.generatorDevice g = some d)
    (closing : s.switching.devices[d].state = .closing) :
    (disconnectWith done g s).paralleling.generators[g].state = .disconnecting ∧
      (disconnectWith done g s).switching.devices[d].state = .opening := by
  obtain ⟨live, switching, -⟩ := releaseGrants_left (s := s) (g := g)
    { (s.gen g).still.level with state := .disconnecting }
  unfold disconnectWith
  dsimp only
  generalize releaseGrants g (leaveQueues g (setGenerator g
    { (s.gen g).still.level with state := .disconnecting } s)) = p at live switching ⊢
  have live' : p.gen g = { (s.gen g).cleared with state := .disconnecting } := live
  have device' : p.generatorDevice g = some d := by
    change (p.gen g).settings.map _ = _
    rw [live']
    exact device
  have still : p.switching.devices[d].state = .closing := by rw [switching]; exact closing
  obtain ⟨n, opened⟩ : ∃ n, openRequest d .paralleling p =
      (startOpening (useDevice d p).1 d .paralleling n, .accepted) := by
    unfold openRequest
    dsimp only
    rw [still]
    exact ⟨_, rfl⟩
  obtain ⟨_, _, _, _, form⟩ := openRequest_operated d .paralleling p
  rw [device']
  dsimp only
  rw [opened] at form ⊢
  dsimp only at form ⊢
  refine ⟨?_, startOpening_state ..⟩
  rw [form]
  exact congrArg GeneratorLive.state live'

theorem generatorDamaged_takes {g : GeneratorId} (active : isActive s.store.generators[g] = true) :
    let o := (s.gen g).state
    let v := (generatorDamaged g s).paralleling.generators[g]
    (o = .unavailable ∨ o = .stopped ∨ o = .starting ∨ o = .ready ∨ o = .syncing ∨ o = .cooldown →
      v.state = .failed ∧ v.failure = some .damaged ∧ v.run = .stop ∧
        (generatorDamaged g s).attention.flags.generator = true) ∧
    (o = .failed → v = { s.gen g with failure := some .damaged, target := 0, sequence := none }) ∧
    (o = .online → v.state = .unloading ∧ v.target = 0) ∧
    (o = .unloading ∨ o = .disconnecting ∨ o = .unset → v = s.gen g) ∧
    ∀ d, o = .deadClosing ∨ o = .syncClosing → s.generatorDevice g = some d → s.switching.devices[d].state = .closing →
      v.state = .disconnecting ∧ (generatorDamaged g s).switching.devices[d].state = .opening := by
  intro o v
  have reads : generatorDamaged g s = match (s.gen g).state with
      | .unset => s
      | .failed => setGenerator g { s.gen g with failure := some .damaged } s
      | .online => unloadGenerator g s
      | .unloading | .disconnecting => s
      | .deadClosing | .syncClosing => disconnectWith (failGenerator g .damaged .stop) g s
      | _ => failGenerator g .damaged .stop s := by
    refine (if_neg ?_).trans rfl
    rw [active]
    decide
  refine ⟨fun idle => ?_, fun failed => ?_, fun online => ?_, fun leaves => ?_, fun d closing device moving => ?_⟩
  · obtain ⟨live, flag⟩ := failGenerator_live (s := s) (g := g) .damaged .stop
    have fails : generatorDamaged g s = failGenerator g .damaged .stop s := by
      rw [reads]
      rcases idle with e | e | e | e | e | e <;> rw [show (s.gen g).state = _ from e]
    have failed : v = _ := (congrArg (fun p : Parts => p.paralleling.generators[g]) fails).trans live
    rw [failed]
    exact ⟨rfl, rfl, rfl, by rw [fails]; exact flag⟩
  · have fails : generatorDamaged g s = setGenerator g { s.gen g with failure := some .damaged } s := by
      rw [reads, show (s.gen g).state = _ from failed]
    change (generatorDamaged g s).gen g = _
    rw [fails, gen_setGenerator]
    exact GeneratorLive.kept_plain (by change (s.gen g).state.shares = false; rw [show (s.gen g).state = _ from failed]; rfl)
  · have unloads : generatorDamaged g s = unloadGenerator g s := by rw [reads, show (s.gen g).state = _ from online]
    have live : v = _ := (congrArg (fun p : Parts => p.paralleling.generators[g]) unloads).trans unloadGenerator_live
    rw [live]
    exact ⟨rfl, rfl⟩
  · have same : generatorDamaged g s = s := by
      rw [reads]
      rcases leaves with e | e | e <;> rw [show (s.gen g).state = _ from e]
    change (generatorDamaged g s).gen g = _
    rw [same]
  · have disconnects : generatorDamaged g s = disconnectWith (failGenerator g .damaged .stop) g s := by
      rw [reads]
      rcases closing with e | e <;> rw [show (s.gen g).state = _ from e]
    obtain ⟨live, opens⟩ := disconnectWith_closing (done := failGenerator g .damaged .stop) device moving
    change (generatorDamaged g s).paralleling.generators[g].state = _ ∧ _
    rw [disconnects]
    exact ⟨live, opens⟩

theorem lockoutDamaged_takes {k : SlotId} {y : Held LockoutSettings} (serving : s.service.inService = true)
    (stored : s.store.lockouts[k] = some y) (nodup : (writtenSet y).Nodup) :
    (∀ d : DeviceId, (lockoutDamaged k s).lockouts.cover[d] = s.lockouts.cover[d] - if d ∈ writtenSet y then 1 else 0) ∧
      (lockoutDamaged k s).service.hold.lockoutDamaged = true ∧ (lockoutDamaged k s).attention.flags.lockout = true := by
  have takes : lockoutDamaged k s =
      sendLockoutNotices s (((countOut (writtenSet y) s).addHold .lockoutDamaged).raise .lockout) := by
    unfold lockoutDamaged
    rw [stored]
  have cover := countOut_cover nodup s
  have serving' : (countOut (writtenSet y) s).service.inService = true := serving
  rw [takes, sendLockoutNotices_eq]
  generalize countOut (writtenSet y) s = p at cover serving'
  have held : (p.addHold .lockoutDamaged).service.hold.lockoutDamaged = true ∧
      (p.addHold .lockoutDamaged).lockouts = p.lockouts := by
    unfold Parts.addHold
    rw [serving']
    cases here : p.service.hold.has .lockoutDamaged with
    | true => exact ⟨here, rfl⟩
    | false => exact ⟨rfl, rfl⟩
  refine ⟨fun d => ?_, held.1, rfl⟩
  change (p.addHold .lockoutDamaged).lockouts.cover[d] = _
  rw [held.2, cover]
  by_cases mem : d ∈ writtenSet y
  · rw [if_pos mem, List.contains_iff_mem.mpr mem]
    rfl
  · rw [if_neg mem, Bool.eq_false_iff.mpr (mt List.contains_iff_mem.mp mem)]
    rfl

theorem schemeDamaged_takes (serving : s.changeover.scheme.isSome = true) :
    (schemeDamaged s).changeover.mode = .manual ∧ (∀ i : SideId, (schemeDamaged s).changeover.sides[i].state = .manual) ∧
      (schemeDamaged s).changeover.scheme = s.changeover.scheme ∧ (schemeDamaged s).attention.flags.changeover = true := by
  have takes : schemeDamaged s = (schemeManual s).raise .changeover := by
    have present : ¬ s.changeover.scheme.isNone = true := by
      rw [Option.isNone_iff_eq_none]
      exact Option.isSome_iff_ne_none.mp serving
    unfold schemeDamaged
    rw [if_neg present]
  have withdrawn := schemeManual_withdrawn s
  obtain ⟨-, kept, -, -⟩ := onSides_sideManual_keeps { s with changeover.mode := .manual }
  have scheme : (schemeManual s).changeover.scheme = s.changeover.scheme := by
    unfold schemeManual
    rw [kept]
  rw [takes]
  generalize schemeManual s = w at withdrawn scheme
  refine ⟨withdrawn.mode, fun i => ?_, scheme, raise_has .changeover⟩
  obtain ⟨x, f, side⟩ := withdrawn.sides i
  change w.changeover.sides[i].state = _
  rw [side]
  rfl

end Sys2Proof.Machine

/-!
PROOF. The scrub step (R12).
-/

namespace Sys2Proof.Machine

section
variable {s : Parts} {n m : RecordName} {h : Held AnySettings}

/-- The fallbacks of the other kinds write no record. -/
theorem damageNotice_store (other : n.kind ∉ [.utility, .generator, .element, .scheme]) :
    (damageNotice n s).store = s.store := by
  cases n with
  | bus b =>
    change (busDamaged b s).store = _
    unfold busDamaged
    split
    · rfl
    · obtain ⟨is, ns, form⟩ := recompute_form { s.addHold .busDamaged with
        topology.damaged := (s.addHold .busDamaged).topology.damaged.set b true
        topology.classes := (s.addHold .busDamaged).topology.classes.set b .none }
      rw [form]
      exact (addHold_frame s .busDamaged).2
  | block l =>
    change (blockDamaged l s).store = _
    unfold blockDamaged
    obtain ⟨m, form⟩ := becomePlain_form l .held s
    split
    · rfl
    · rw [form]
      dsimp only
      split <;> rfl
  | lockout k =>
    change (lockoutDamaged k s).store = _
    unfold lockoutDamaged
    split
    · dsimp only
      rw [sendLockoutNotices_eq]
      exact (addHold_frame (countOut _ s) .lockoutDamaged).2
    · rfl
  | station => rfl
  | device d => rfl
  | point p => rfl
  | utility _ | generator _ | element _ | scheme => exact absurd (by simp [RecordName.kind]) other

/-- The fallback of a Station, device or point record is none. -/
theorem damageNotice_plain (plain : n.kind = .station ∨ n.kind = .device ∨ n.kind = .point) : damageNotice n s = s := by
  cases n with
  | station | device _ | point _ => rfl
  | _ => exact absurd plain (by simp [RecordName.kind])

theorem record_congr {t : Parts} (store : t.store = s.store) (m : RecordName) : t.record m = s.record m := by
  unfold Parts.record
  rw [store]

/-- The scrub position and the step timer moved on. -/
def Parts.scrubbed (s : Parts) (i : StoreIndex) (x : StationSettings) : Parts :=
  { s with store.scrubPosition := i, store.scrubTimer := .running (scrubInterval x) }

theorem record_scrubbed (s : Parts) (i : StoreIndex) (x : StationSettings) (m : RecordName) :
    (s.scrubbed i x).record m = s.record m := by cases m <;> rfl

theorem exec_scrubStep {t : StationSettings} {s : State} (live : s.live) (serving : s.parts.service.inService = true)
    (station : s.parts.service.station = some t) (running : s.parts.store.scrubTimer.isRunning = true) :
    exec (.scrubStep []) s = .next (s.settled
      ((useRecord (recordAt s.parts.store.scrubPosition) s.parts).1.scrubbed (s.parts.store.scrubPosition + 1) t)) := by
  have expires : scrubStep [] s.parts =
      (useRecord (recordAt s.parts.store.scrubPosition) s.parts).1.scrubbed (s.parts.store.scrubPosition + 1) t := by
    change scrubExpires s.parts = _
    unfold scrubExpires
    rw [station, serving, running]
    rfl
  exact (event_live _ _ live.1).trans (by rw [expires])

/-- A record that is EMPTY, DAMAGED or VALID is passed over. -/
theorem useRecord_sound (sound : ∀ h, s.record n = some h → h.integrity = .damaged ∨ h.settings = h.code.covers) :
    (useRecord n s).1 = s := by
  cases stored : s.record n with
  | none =>
    unfold useRecord
    rw [stored]
    rfl
  | some h =>
    by_cases bad : h.integrity = .damaged
    · unfold useRecord
      rw [stored, useHeld_damaged h _ _ _ s bad]
    · have valid := (sound h stored).resolve_left bad
      rw [useRecord_valid stored ⟨bad, valid⟩]

/-- What a check that finds a record INVALID leaves before its owner's fallback. -/
theorem invalidated_form (s : Parts) (n : RecordName) (h : Held AnySettings) : ∃ st, s.invalidated n h = { s with
    store := st, attention.flags := { s.attention.flags with record := true }
    attention.changed := s.attention.changed.set n.position true } := by
  obtain ⟨st, form⟩ := putRecord_writes s n h.damage
  exact ⟨st, by unfold Parts.invalidated; rw [form]; rfl⟩

theorem record_invalidated_ne (ne : m ≠ n) : (s.invalidated n h).record m = s.record m := by
  have kept : (s.invalidated n h).record m = (s.putRecord n h.damage).record m := by cases m <;> rfl
  exact kept.trans (record_putRecord_ne s _ ne)

end

/-- Settles O12: the four outcomes of the check, and each owner's fallback. -/
theorem scrubStepChecksOneRecord : Obligations.ScrubStepChecksOneRecord := by
  intro t s live serving station running n kept
  have step : exec (.scrubStep []) s =
      .next (s.settled ((useRecord n s.parts).1.scrubbed (s.parts.store.scrubPosition + 1) t)) :=
    exec_scrubStep live serving station running
  refine ⟨fun sound => ?_, fun h stored intact differs => ?_⟩
  · rw [step, useRecord_sound sound]
    exact congrArg Host.Outcome.next (State.settled_calm _ _ (live.2.of_eq rfl rfl))
  cases restores : h.code.restores with
  | true =>
    obtain ⟨st, form⟩ := putRecord_writes s.parts n h.restore
    have fits : n.fits h.restore := ⟨(record_fits stored).2, (record_fits stored).2⟩
    have read := useRecord_nearValid stored intact differs restores
    have records (m : RecordName) : (((s.parts.putRecord n h.restore).raise .record).mark n.position).record m =
      (s.parts.putRecord n h.restore).record m := by cases m <;> rfl
    refine ⟨_, step, ?_, fun _ m ne => ?_, ?_, ?_, rfl, rfl, fun _ => ?_, nofun⟩
    all_goals rw [read]
    · rw [record_scrubbed, records]
      exact record_putRecord fits
    · rw [record_scrubbed, records]
      exact record_putRecord_ne _ _ ne
    · rfl
    · exact mark_marks n.position
    · simp only [kept]
      rw [form]
      exact ⟨rfl, rfl, rfl⟩
  | false =>
    have read := useRecord_invalid stored intact differs restores
    obtain ⟨stands, flag, marked⟩ := damageNotice_invalidated stored
    have stored' := record_invalidated stored
    have others {m : RecordName} := record_invalidated_ne (s := s.parts) (n := n) (m := m) (h := h)
    change useRecord n s.parts = (damageNotice n (s.parts.invalidated n h), none) at read
    obtain ⟨st, form⟩ := invalidated_form s.parts n h
    have step' : exec (.scrubStep []) s = .next (s.settled
        ((damageNotice n (s.parts.invalidated n h)).scrubbed (s.parts.store.scrubPosition + 1) t)) := by
      rw [step, read]
    refine ⟨_, step', ?_, fun other m ne => ?_, flag, marked, rfl, rfl, fun simple => ?_, fun _ => ⟨fun b e used => ?_,
      fun x e own => ?_, fun g e active => ?_, fun l e own => ?_, fun e on enabled => ?_, fun k y e held nodup => ?_,
      fun e own => ?_⟩⟩
    · rw [record_scrubbed]
      exact stands
    · rw [record_scrubbed, record_congr (damageNotice_store (other.resolve_left nofun)), others ne]
    · rw [damageNotice_plain (simple.resolve_left nofun)]
      rw [form]
      exact ⟨rfl, rfl, rfl⟩
    · have fallback : damageNotice n (s.parts.invalidated n h) = busDamaged b (s.parts.invalidated n h) := by
        rw [e]
        rfl
      change (damageNotice n _).service.hold.busDamaged = true ∧ (damageNotice n _).topology.damaged[b] = true ∧
        (damageNotice n _).topology.classes[b] = .none ∧ (damageNotice n _).attention.flags.hold = _
      rw [fallback, form]
      exact busDamaged_takes serving used
    · have fallback : damageNotice n (s.parts.invalidated n h) = utilityDamaged x (s.parts.invalidated n h) := by
        rw [e]
        rfl
      change (damageNotice n _).changeover.utilities[x] = _ ∧ (damageNotice n _).attention.flags.changeover = true
      rw [fallback, form]
      obtain ⟨adjusts, flag⟩ := utilityDamaged_takes (s := { s.parts with
        store := st, attention.flags := { s.parts.attention.flags with record := true }
        attention.changed := s.parts.attention.changed.set n.position true }) own
      rw [adjusts.utilities]
      exact ⟨getElem_set_fin_self _ _ _, flag⟩
    · have fallback : damageNotice n (s.parts.invalidated n h) = generatorDamaged g (s.parts.invalidated n h) := by
        rw [e]
        rfl
      have live' : isActive (s.parts.invalidated n h).store.generators[g] = true := by
        rw [e] at stored' ⊢
        obtain ⟨y, here, same⟩ := Option.map_eq_some_iff.mp stored'
        rw [here, isActive_some, show y.retired = h.retired from congrArg Held.retired same, active]
        rfl
      have takes := generatorDamaged_takes live'
      change (_ → GeneratorLive.state (damageNotice n _).paralleling.generators[g] = _ ∧ _) ∧ _
      rw [form] at takes
      rw [fallback, form]
      exact takes
    · have fallback : damageNotice n (s.parts.invalidated n h) = blockDamaged l (s.parts.invalidated n h) := by
        rw [e]
        rfl
      change (damageNotice n _).attention.flags.load = true ∧ (_ → (damageNotice n _).load.blocks[l].state = .held ∧
        l ∉ (damageNotice n _).load.queue) ∧ (_ → (damageNotice n _).load = _)
      rw [fallback, form]
      exact blockDamaged_takes serving own
    · have fallback : damageNotice n (s.parts.invalidated n h) = elementDamaged e (s.parts.invalidated n h) := by
        rw [on]
        rfl
      have acts : (s.parts.invalidated n h).damageActs e = true := by
        rw [form]
        unfold Parts.damageActs
        rw [show _ = true from serving, Bool.true_and]
        exact bne_iff_ne.mpr enabled
      obtain ⟨taken, -, -, unprotects⟩ := elementDamaged_takes acts
      change (damageNotice n _).protection.elements[e] = _ ∧ ∀ d, _ → (damageNotice n _).protection.unprotected[d] = true ∧
        (_ → (damageNotice n _).attention.flags.protection = true)
      rw [form] at taken unprotects
      rw [fallback, form]
      exact ⟨taken, unprotects⟩
    · have fallback : damageNotice n (s.parts.invalidated n h) = lockoutDamaged k (s.parts.invalidated n h) := by
        rw [e]
        rfl
      have entry : h = y.map .lockout := by
        have here : s.parts.record (.lockout k) = some (y.map .lockout) := by
          change s.parts.store.lockouts[k].map _ = _
          rw [held]
          rfl
        rw [e] at stored
        exact Option.some.inj (stored.symm.trans here)
      have damaged : (s.parts.invalidated n h).store.lockouts[k] = some y.damage := by
        rw [e, entry]
        exact getElem_set_fin_self _ _ _
      have takes := lockoutDamaged_takes (by rw [form]; exact serving) damaged nodup
      change (∀ d : DeviceId, (damageNotice n _).lockouts.cover[d] = _) ∧
        (damageNotice n _).service.hold.lockoutDamaged = true ∧ (damageNotice n _).attention.flags.lockout = true
      rw [form] at takes
      rw [fallback, form]
      exact takes
    · have fallback : damageNotice n (s.parts.invalidated n h) = schemeDamaged (s.parts.invalidated n h) := by
        rw [e]
        rfl
      change (damageNotice n _).changeover.mode = .manual ∧ (∀ i : SideId, (damageNotice n _).changeover.sides[i].state = .manual) ∧
        (damageNotice n _).changeover.scheme = _ ∧ (damageNotice n _).attention.flags.changeover = true
      rw [fallback, form]
      exact schemeDamaged_takes own

end Sys2Proof.Machine

/-!
PROOF. The island partition and the island records (R50 to R55).
-/

namespace Sys2Proof.Machine

/-! ## The labels (R50) -/

/-- A labelling gives each bus the lowest of those that a relation leads to. -/
structure Labelled (r : BusId → BusId → Prop) (ls : Labels) : Prop where
  same : ∀ x y : BusId, ls[x] = ls[y] ↔ Relation.EqvGen r x y
  root : ∀ x : BusId, ls[ls[x]] = ls[x]
  le : ∀ x : BusId, ls[x] ≤ x

section
variable {r : BusId → BusId → Prop} {ls : Labels} {s : Parts} {a b : BusId}

theorem labelled_start : Labelled (fun _ _ => False) (Vector.ofFn id) := by
  have at_ (x : BusId) : (Vector.ofFn id : Labels)[x] = x := Vector.getElem_ofFn x.isLt
  refine ⟨fun x y => ?_, fun x => at_ _, fun x => (at_ x).le⟩
  rw [at_ x, at_ y]
  refine ⟨fun e => e ▸ .refl x, fun k => ?_⟩
  induction k with
  | rel _ _ h => exact h.elim
  | refl => rfl
  | symm _ _ _ ih => exact ih.symm
  | trans _ _ _ _ _ ih ih' => exact ih.trans ih'

/-- The label that a label becomes where two are joined. -/
def joinedLabel (ls : Labels) (a b l : BusId) : BusId := if l = max ls[a] ls[b] then min ls[a] ls[b] else l

theorem getElem_joinLabels (ls : Labels) (a b x : BusId) : (joinLabels ls a b)[x] = joinedLabel ls a b ls[x] :=
  Vector.getElem_map ..

theorem joinedLabel_le (l : BusId) : joinedLabel ls a b l ≤ l := by
  unfold joinedLabel
  split
  next e => exact e ▸ min_le_max
  · exact le_rfl

theorem joinedLabel_label (x : BusId) : ∃ z : BusId, joinedLabel ls a b ls[x] = ls[z] := by
  unfold joinedLabel
  split
  · exact (min_choice ls[a] ls[b]).elim (⟨a, ·⟩) (⟨b, ·⟩)
  · exact ⟨x, rfl⟩

theorem joinedLabel_min : joinedLabel ls a b (min ls[a] ls[b]) = min ls[a] ls[b] := by
  unfold joinedLabel
  split <;> rfl

theorem joinedLabel_ends : joinedLabel ls a b ls[a] = min ls[a] ls[b] ∧ joinedLabel ls a b ls[b] = min ls[a] ls[b] := by
  unfold joinedLabel
  rcases le_total ls[a] ls[b] with le | le
  · rw [max_eq_right le, min_eq_left le]
    refine ⟨?_, if_pos rfl⟩
    split <;> rfl
  · rw [max_eq_left le, min_eq_right le]
    refine ⟨if_pos rfl, ?_⟩
    split <;> rfl

/-- Two labels become one where they are the same, or both among the two joined. -/
theorem joinedLabel_eq {l m : BusId} (e : joinedLabel ls a b l = joinedLabel ls a b m) :
    l = m ∨ (l = ls[a] ∨ l = ls[b]) ∧ (m = ls[a] ∨ m = ls[b]) := by
  have ends (l : BusId) : l = max ls[a] ls[b] ∨ l = min ls[a] ls[b] → l = ls[a] ∨ l = ls[b] := by
    rcases le_total ls[a] ls[b] with le | le
    · rw [max_eq_right le, min_eq_left le]
      exact Or.symm
    · rw [max_eq_left le, min_eq_right le]
      exact id
  unfold joinedLabel at e
  split at e
  next top =>
    split at e
    next top' => exact .inl (top.trans top'.symm)
    next => exact .inr ⟨ends l (.inl top), ends m (.inr e.symm)⟩
  next =>
    split at e
    next top' => exact .inr ⟨ends l (.inr e), ends m (.inl top')⟩
    next => exact .inl e

theorem joinLabels_labelled (k : Labelled r ls) (a b : BusId) :
    Labelled (fun x y => r x y ∨ x = a ∧ y = b) (joinLabels ls a b) := by
  have wider {x y : BusId} (h : Relation.EqvGen r x y) : Relation.EqvGen (fun x y => r x y ∨ x = a ∧ y = b) x y :=
    Relation.EqvGen.mono (fun _ _ => Or.inl) _ _ h
  have joined : Relation.EqvGen (fun x y => r x y ∨ x = a ∧ y = b) a b := .rel _ _ (.inr ⟨rfl, rfl⟩)
  refine ⟨fun x y => ?_, fun x => ?_, fun x => ?_⟩
  · rw [getElem_joinLabels, getElem_joinLabels]
    refine ⟨fun e => ?_, fun h => ?_⟩
    · have toA {z : BusId} (h : ls[z] = ls[a] ∨ ls[z] = ls[b]) :
          Relation.EqvGen (fun x y => r x y ∨ x = a ∧ y = b) z a := by
        rcases h with h | h
        · exact wider ((k.same z a).mp h)
        · exact (wider ((k.same z b).mp h)).trans _ _ _ (joined.symm _ _)
      rcases joinedLabel_eq e with same | ⟨hx, hy⟩
      · exact wider ((k.same x y).mp same)
      · exact (toA hx).trans _ _ _ ((toA hy).symm _ _)
    · induction h with
      | rel x y h =>
        rcases h with h | ⟨rfl, rfl⟩
        · rw [(k.same x y).mpr (.rel _ _ h)]
        · exact joinedLabel_ends.1.trans joinedLabel_ends.2.symm
      | refl => rfl
      | symm _ _ _ ih => exact ih.symm
      | trans _ _ _ _ _ ih ih' => exact ih.trans ih'
  · rw [getElem_joinLabels, getElem_joinLabels]
    have fixed : ls[joinedLabel ls a b ls[x]] = joinedLabel ls a b ls[x] := by
      obtain ⟨z, label⟩ := joinedLabel_label (ls := ls) (a := a) (b := b) x
      have roots (l : BusId) (e : l = ls[z]) : ls[l] = l := by
        subst e
        exact k.root z
      exact roots _ label
    rw [fixed]
    unfold joinedLabel
    split
    · split <;> rfl
    · rfl
  · rw [getElem_joinLabels]
    exact (joinedLabel_le _).trans (k.le x)

/-- Whether a device is a conducting TIE of the index from one bus in use to another. -/
def Parts.ties (s : Parts) (d : DeviceId) (a b : BusId) : Prop :=
  s.topology.index[d] = some ⟨a, .bus b⟩ ∧ s.topology.conducting[d] = true ∧ s.topology.inUse[a] = true ∧
    s.topology.inUse[b] = true

theorem joinDevice_labelled (k : Labelled r ls) (d : DeviceId) :
    Labelled (fun x y => r x y ∨ s.ties d x y) (joinDevice s ls d) := by
  have idle (h : ∀ x y, ¬ s.ties d x y) : Labelled (fun x y => r x y ∨ s.ties d x y) ls := by
    have same : (fun x y => r x y ∨ s.ties d x y) = r := by
      funext x y
      exact propext (or_iff_left (h x y))
    rw [same]
    exact k
  unfold joinDevice
  split
  next a b entry =>
    split
    next joins =>
      simp only [Bool.and_eq_true] at joins
      obtain ⟨⟨conducts, used⟩, used'⟩ := joins
      have same : (fun x y => r x y ∨ s.ties d x y) = fun x y => r x y ∨ x = a ∧ y = b := by
        funext x y
        refine propext (or_congr_right ⟨fun h => ?_, ?_⟩)
        · have e := entry.symm.trans h.1
          cases e
          exact ⟨rfl, rfl⟩
        · rintro ⟨rfl, rfl⟩
          exact ⟨entry, conducts, used, used'⟩
      rw [same]
      exact joinLabels_labelled k a b
    next apart =>
      refine idle fun x y ⟨entry', conducts, used, used'⟩ => apart ?_
      have e := entry.symm.trans entry'
      cases e
      simp only [conducts, used, used', Bool.and_self]
  next other => exact idle fun x y h => other x y h.1

theorem foldl_joinDevice_labelled (k : Labelled r ls) (ds : List DeviceId) :
    Labelled (fun x y => r x y ∨ ∃ d ∈ ds, s.ties d x y) (ds.foldl (joinDevice s) ls) := by
  induction ds generalizing r ls with
  | nil =>
    have same : (fun x y => r x y ∨ ∃ d ∈ ([] : List DeviceId), s.ties d x y) = r := by
      funext x y
      exact propext (or_iff_left fun ⟨_, mem, _⟩ => absurd mem List.not_mem_nil)
    rw [same]
    exact k
  | cons d ds ih =>
    have same : (fun x y => r x y ∨ ∃ e ∈ d :: ds, s.ties e x y) =
        fun x y => (r x y ∨ s.ties d x y) ∨ ∃ e ∈ ds, s.ties e x y := by
      funext x y
      simp only [List.mem_cons, exists_eq_or_imp, or_assoc]
    rw [same]
    exact ih (joinDevice_labelled k d)

theorem Parts.tied_symm (h : s.tied a b) : s.tied b a := by
  obtain ⟨used, used', d, conducts, entry⟩ := h
  exact ⟨used', used, d, conducts, entry.symm⟩

/-- The labels are those of the conducting TIEs. -/
theorem labelsOf_labelled (s : Parts) : Labelled s.tied (labelsOf s) := by
  have all := foldl_joinDevice_labelled (s := s) labelled_start allDevices
  have same : (fun x y => False ∨ ∃ d ∈ allDevices, s.ties d x y) = fun x y => ∃ d, s.ties d x y := by
    funext x y
    simp only [false_or, allDevices, List.mem_finRange, true_and]
  rw [same] at all
  refine ⟨fun x y => (all.same x y).trans ⟨fun h => ?_, fun h => ?_⟩, all.root, all.le⟩
  · exact Relation.EqvGen.mono (fun a b ⟨d, entry, conducts, used, used'⟩ => ⟨used, used', d, conducts, .inl entry⟩) _ _ h
  · induction h with
    | rel a b h =>
      obtain ⟨used, used', d, conducts, entry | entry⟩ := h
      · exact .rel _ _ ⟨d, entry, conducts, used, used'⟩
      · exact .symm _ _ (.rel _ _ ⟨d, entry, conducts, used', used⟩)
    | refl => exact .refl _
    | symm _ _ _ ih => exact ih.symm _ _
    | trans _ _ _ _ _ ih ih' => exact ih.trans _ _ _ ih'

theorem labelsOf_same (s : Parts) (x y : BusId) :
    (labelsOf s)[x] = (labelsOf s)[y] ↔ Relation.ReflTransGen s.tied x y := by
  have symmetric : Std.Symm s.tied := ⟨fun _ _ => Parts.tied_symm⟩
  rw [(labelsOf_labelled s).same, Relation.EqvGen.eqvGen_eq_reflTransGen]

end

/-! ## The records (R50 to R53) -/

section
variable {s : Parts} {i : Island}

theorem mem_computeIslands : i ∈ computeIslands s ↔ ∃ b : BusId, s.topology.inUse[b] = true ∧ (labelsOf s)[b] = b ∧
    i = islandRecord s b (membersOf s (labelsOf s) b) := by
  unfold computeIslands
  simp only [List.mem_map, List.mem_filter, allBuses, List.mem_finRange, true_and, Bool.and_eq_true, beq_iff_eq,
    and_assoc, eq_comm (a := i)]

theorem mem_membersOf {ls : Labels} {id c : BusId} : c ∈ membersOf s ls id ↔ s.topology.inUse[c] = true ∧ ls[c] = id := by
  unfold membersOf
  simp only [List.mem_filter, allBuses, List.mem_finRange, true_and, Bool.and_eq_true, beq_iff_eq]

theorem reaches_iff {members : List BusId} {t : TerminalB} : reaches s members t = true ↔ ∃ (d : DeviceId) (a : BusId),
    s.topology.conducting[d] = true ∧ s.topology.index[d] = some ⟨a, t⟩ ∧ a ∈ members := by
  unfold reaches
  rw [List.any_eq_true]
  refine exists_congr fun d => ?_
  simp only [allDevices, List.mem_finRange, true_and]
  cases entry : s.topology.index[d] with
  | none => simp
  | some e =>
    obtain ⟨a, b⟩ := e
    simp only [Bool.and_eq_true, List.contains_iff_mem, beq_iff_eq, Option.some.injEq, IndexEntry.mk.injEq]
    constructor
    · rintro ⟨⟨conducts, mem⟩, rfl⟩
      exact ⟨a, conducts, ⟨rfl, rfl⟩, mem⟩
    · rintro ⟨a', conducts, ⟨rfl, rfl⟩, mem⟩
      exact ⟨⟨conducts, mem⟩, rfl⟩

theorem filter_finRange_pairwise {n : Nat} (p : Fin n → Bool) : ((List.finRange n).filter p).Pairwise (· < ·) :=
  (List.sortedLT_finRange n).pairwise.filter p

/-- Whether a live source is listed (R51, R52). -/
def Parts.fed (s : Parts) (us : List UtilityId) (gs : List GeneratorId) : Prop :=
  (∃ u ∈ us, s.changeover.utilities[u].qualification = .qualified ∨ s.changeover.utilities[u].qualification = .failing) ∨
    ∃ g ∈ gs, s.generatorLive g = true

theorem fed_iff {us : List UtilityId} {gs : List GeneratorId} :
    (us.any s.utilityLive || gs.any s.generatorLive) = true ↔ s.fed us gs := by
  have live (q : Qualification) : q.isLive = true ↔ q = .qualified ∨ q = .failing := by cases q <;> simp [Qualification.isLive]
  unfold Parts.fed
  rw [Bool.or_eq_true, List.any_eq_true, List.any_eq_true]
  refine or_congr_left (exists_congr fun u => and_congr_right fun _ => live _)

theorem energisationOf_iff (s : Parts) (ms : List BusId) (us : List UtilityId) (gs : List GeneratorId) :
    (energisationOf s ms us gs = .live ↔ (∃ b ∈ ms, s.topology.classes[b] = .high) ∨ s.fed us gs) ∧
      (energisationOf s ms us gs = .dead ↔ ¬ s.fed us gs ∧ ∀ b ∈ ms, s.topology.classes[b] = .low) := by
  have high : (ms.any fun b => s.topology.classes[b] == .high) = true ↔ ∃ b ∈ ms, s.topology.classes[b] = .high := by
    simp only [List.any_eq_true, beq_iff_eq]
  have low : (ms.all fun b => s.topology.classes[b] == .low) = true ↔ ∀ b ∈ ms, s.topology.classes[b] = .low := by
    simp only [List.all_eq_true, beq_iff_eq]
  unfold energisationOf
  dsimp only
  rw [← fed_iff, ← high, ← low]
  split
  next up =>
    rw [Bool.or_eq_true] at up
    refine ⟨iff_of_true rfl up, iff_of_false nofun fun ⟨dark, all⟩ => ?_⟩
    obtain ⟨b, mem, class_⟩ := high.mp (up.resolve_right dark)
    rw [low.mp all b mem] at class_
    cases class_
  next down =>
    rw [Bool.or_eq_true] at down
    split
    next all => exact ⟨iff_of_false nofun down, iff_of_true rfl ⟨fun f => down (.inr f), all⟩⟩
    next other => exact ⟨iff_of_false nofun down, iff_of_false nofun fun h => other h.2⟩

/-- Whether an ONLINE generator is listed (R53). -/
def Parts.driven (s : Parts) (gs : List GeneratorId) : Prop := ∃ g ∈ gs, s.paralleling.generators[g].state = .online

theorem kindOfSources_iff (s : Parts) (us : List UtilityId) (gs : List GeneratorId) :
    (kindOfSources s us gs = .utility ↔ us ≠ [] ∧ ¬ s.driven gs) ∧
      (kindOfSources s us gs = .generator ↔ us = [] ∧ s.driven gs) ∧
      (kindOfSources s us gs = .parallel ↔ us ≠ [] ∧ s.driven gs) ∧
      (kindOfSources s us gs = .dead ↔ us = [] ∧ ¬ s.driven gs) := by
  have driven : s.driven gs ↔ gs.any s.isOnline = true := by
    unfold Parts.driven Parts.isOnline
    simp only [List.any_eq_true, beq_iff_eq]
  rw [driven]
  unfold kindOfSources
  cases us <;> cases gs.any s.isOnline <;> simp

/-- What an island record lists, and what follows from it. -/
theorem islandRecord_lists (s : Parts) (b : BusId) (ms : List BusId) :
    let i := islandRecord s b ms
    i.utilities.Pairwise (· < ·) ∧ (∀ u, u ∈ i.utilities ↔ reaches s ms (.utility u) = true) ∧
      i.generators.Pairwise (· < ·) ∧ (∀ g, g ∈ i.generators ↔ reaches s ms (.generator g) = true) ∧
      i.blocks.Pairwise (· < ·) ∧ ∀ l, l ∈ i.blocks ↔ reaches s ms (.block l) = true := by
  have listed {n : Nat} (p : Fin n → Bool) (x : Fin n) : x ∈ (List.finRange n).filter p ↔ p x = true := by
    simp only [List.mem_filter, List.mem_finRange, true_and]
  exact ⟨filter_finRange_pairwise fun u => reaches s ms (.utility u), listed fun u => reaches s ms (.utility u),
    filter_finRange_pairwise fun g => reaches s ms (.generator g), listed fun g => reaches s ms (.generator g),
    filter_finRange_pairwise fun l => reaches s ms (.block l), listed fun l => reaches s ms (.block l)⟩

/-- The island a bus in use lies in has the id that the labels give it. -/
theorem mem_members_iff (mem : i ∈ computeIslands s) {c : BusId} :
    c ∈ i.members ↔ s.topology.inUse[c] = true ∧ (labelsOf s)[c] = i.id := by
  obtain ⟨b, -, -, rfl⟩ := mem_computeIslands.mp mem
  exact mem_membersOf

theorem computeIslands_ids (s : Parts) : ((computeIslands s).map Island.id).Pairwise (· < ·) := by
  unfold computeIslands
  dsimp only
  rw [List.map_map]
  have ids : (Island.id ∘ fun b => islandRecord s b (membersOf s (labelsOf s) b)) = id := rfl
  rw [ids, List.map_id]
  exact filter_finRange_pairwise _

/-- Two islands of one id are one. -/
theorem computeIslands_inj {j : Island} (hi : i ∈ computeIslands s) (hj : j ∈ computeIslands s) (e : i.id = j.id) : i = j := by
  obtain ⟨b, -, -, rfl⟩ := mem_computeIslands.mp hi
  obtain ⟨c, -, -, rfl⟩ := mem_computeIslands.mp hj
  cases (e : b = c)
  rfl

/-- Each bus in use lies in one island. -/
theorem exists_island {b : BusId} (used : s.topology.inUse[b] = true) : ∃ i ∈ computeIslands s, b ∈ i.members := by
  have labelled := labelsOf_labelled s
  have root : s.topology.inUse[(labelsOf s)[b]] = true := by
    have linked := (labelsOf_same s b _).mp (labelled.root b).symm
    have ends {c : BusId} (path : Relation.ReflTransGen s.tied b c) : s.topology.inUse[c] = true := by
      induction path with
      | refl => exact used
      | tail _ step _ => exact step.2.1
    exact ends linked
  exact ⟨_, mem_computeIslands.mpr ⟨_, root, labelled.root b, rfl⟩, mem_membersOf.mpr ⟨used, rfl⟩⟩

end

/-! ## Recomputation (R54, R55) -/

section
variable {old new : List Island} {s : Parts}

theorem changedFields_any (i : Island) {o : Option Island} (former : ∀ j, o = some j → j.id = i.id) :
    (changedFields o i).any = true ↔ o ≠ some i := by
  cases o with
  | none => exact iff_of_true rfl nofun
  | some j =>
    have id := former j rfl
    obtain ⟨ji, jm, ju, jg, jb, je, jk⟩ := j
    obtain ⟨ii, im, iu, ig, ib, ie, ik⟩ := i
    cases (id : ji = ii)
    simp only [changedFields, ChangedFields.any, Bool.or_eq_true, bne_iff_ne, ne_eq, Option.some.injEq, Island.mk.injEq,
      true_and]
    tauto

theorem islandNotices_islands (old new : List Island) : (islandNotices old new).map IslandNotice.island =
    new.filter fun i => old.find? (·.id == i.id) != some i := by
  unfold islandNotices
  rw [List.filter_map, List.map_map]
  refine (List.map_id _).trans (List.filter_congr fun i _ => ?_)
  rw [Bool.eq_iff_iff, bne_iff_ne]
  refine changedFields_any i fun j found => ?_
  have := List.find?_some found
  exact beq_iff_eq.mp this

theorem islandNotices_old {n : IslandNotice} (mem : n ∈ islandNotices old new) (b : BusId) :
    b ∈ n.oldIds ↔ ∃ o ∈ old, o.id = b ∧ ∃ m ∈ o.members, m ∈ n.island.members := by
  obtain ⟨told, -⟩ := List.mem_filter.mp mem
  obtain ⟨i, -, rfl⟩ := List.mem_map.mp told
  simp only [List.mem_map, List.mem_filter, List.any_eq_true, List.contains_iff_mem]
  exact exists_congr fun o => by tauto

theorem recompute_eq (s : Parts) : recompute s = { s with
    topology.islands := computeIslands s
    notices := s.notices ++ if islandNotices s.topology.islands (computeIslands s) = [] then [] else
      [.islands .changeover (islandNotices s.topology.islands (computeIslands s)),
        .islands .paralleling (islandNotices s.topology.islands (computeIslands s)),
        .islands .load (islandNotices s.topology.islands (computeIslands s))] } := by
  unfold recompute
  dsimp only
  generalize islandNotices s.topology.islands (computeIslands s) = ns
  cases ns with
  | nil =>
    rw [if_pos rfl, List.append_nil]
    rfl
  | cons n ns => rfl

end

/-- Settles O28: the labels are those of the paths of conducting TIEs, and a record lists what its buses reach. -/
theorem islandsAreTheTiedBuses : Obligations.IslandsAreTheTiedBuses := by
  intro s is feeds high source online
  have labelled := labelsOf_labelled s
  refine ⟨fun b used => ?_, computeIslands_ids s, fun i mem => ?_, _, recompute_eq s, islandNotices_islands _ _,
    fun n mem b => islandNotices_old mem b⟩
  · obtain ⟨i, mem, lies⟩ := exists_island used
    exact ⟨i, mem, lies, fun j mem' lies' => computeIslands_inj mem' mem
      (((mem_members_iff mem').mp lies').2.symm.trans ((mem_members_iff mem).mp lies).2)⟩
  · have members {c : BusId} := mem_members_iff (c := c) mem
    obtain ⟨b, used, root, rfl⟩ := mem_computeIslands.mp mem
    obtain ⟨us, us_iff, gs, gs_iff, ls, ls_iff⟩ := islandRecord_lists s b (membersOf s (labelsOf s) b)
    refine ⟨members.mpr ⟨used, root⟩, filter_finRange_pairwise
        (fun c => s.topology.inUse[c] && (labelsOf s)[c] == b), fun c lies => ?_, fun c lies => (members.mp lies).1,
      fun c lies d => ?_, us, fun u => (us_iff u).trans reaches_iff, gs, fun g => (gs_iff g).trans reaches_iff, ls,
      fun l => (ls_iff l).trans reaches_iff, (energisationOf_iff s _ _ _).1, (energisationOf_iff s _ _ _).2,
      kindOfSources_iff s _ _⟩
    · exact (members.mp lies).2.symm.le.trans (labelled.le c)
    · obtain ⟨used', label⟩ := members.mp lies
      rw [members, ← labelsOf_same, label]
      refine ⟨fun h => h.2.symm, fun e => ⟨?_, e.symm⟩⟩
      have path := (labelsOf_same s c d).mp (label.trans e)
      induction path with
      | refl => exact used'
      | tail _ step _ => exact step.2.1

end Sys2Proof.Machine

/-!
PROOF. The frames of host requests (R178, R179).
-/

namespace Sys2Proof.Machine

/-! ## Numbers as bytes -/

section
variable {n : Nat} {v : Int}

theorem toNat_byte_mod (n : Nat) : (byte n).toNat = n % 256 := BitVec.toNat_ofNat ..

theorem toNat_byte (h : fitsByte n = true) : (byte n).toNat = n :=
  (toNat_byte_mod n).trans (Nat.mod_eq_of_lt (of_decide_eq_true h))

theorem read16_bytes (h : n < 65536) : read16 (byte (n / 256)) (byte n) = n := by
  unfold read16
  rw [toNat_byte_mod, toNat_byte_mod]
  omega

theorem read16_fits (h : fitsWord n = true) : read16 (byte (n / 256)) (byte n) = n := read16_bytes (of_decide_eq_true h)

theorem bytesSigned16_eq (v : Int) : bytesSigned16 v =
    [byte ((BitVec.ofInt 16 v).toNat / 256), byte (BitVec.ofInt 16 v).toNat] := rfl

theorem readSigned16_bytes (h : fitsSigned16 v = true) :
    readSigned16 (byte ((BitVec.ofInt 16 v).toNat / 256)) (byte (BitVec.ofInt 16 v).toNat) = v := by
  simp only [fitsSigned16, Bool.and_eq_true, decide_eq_true_eq] at h
  unfold readSigned16
  rw [read16_bytes (BitVec.isLt _), BitVec.ofNat_toNat, BitVec.setWidth_eq, BitVec.toInt_ofInt]
  exact Int.bmod_eq_of_le_mul_two (by omega) (by omega)

theorem readSigned32_bytes (h : fitsSigned32 v = true) :
    readSigned32 (byte ((BitVec.ofInt 32 v).toNat / 16777216)) (byte ((BitVec.ofInt 32 v).toNat / 65536))
      (byte ((BitVec.ofInt 32 v).toNat / 256)) (byte (BitVec.ofInt 32 v).toNat) = v := by
  simp only [fitsSigned32, Bool.and_eq_true, decide_eq_true_eq] at h
  have whole : read16 (byte ((BitVec.ofInt 32 v).toNat / 16777216)) (byte ((BitVec.ofInt 32 v).toNat / 65536)) * 65536 +
      read16 (byte ((BitVec.ofInt 32 v).toNat / 256)) (byte (BitVec.ofInt 32 v).toNat) = (BitVec.ofInt 32 v).toNat := by
    have bound : (BitVec.ofInt 32 v).toNat < 4294967296 := BitVec.isLt _
    generalize (BitVec.ofInt 32 v).toNat = n at bound ⊢
    unfold read16
    simp only [toNat_byte_mod]
    omega
  unfold readSigned32
  rw [whole, BitVec.ofNat_toNat, BitVec.setWidth_eq, BitVec.toInt_ofInt]
  exact Int.bmod_eq_of_le_mul_two (by omega) (by omega)

end

/-! ## Bodies (R179) -/

section
variable {p : FieldPair} {ps : List FieldPair} {ds : List Nat} {t : Byte} {i : Instr} {body : List Byte} {code : Nat}

theorem readPairs_cons (h : p.fits = true) (rest : List Byte) :
    readPairs (pairBytes p ++ rest) = (readPairs rest).map (p :: ·) := by
  obtain ⟨field, value⟩ := p
  obtain ⟨byte_, signed⟩ := (Bool.and_eq_true ..).mp h
  change (readPairs rest).map (FieldPair.mk (byte field).toNat (readSigned32 (byte ((BitVec.ofInt 32 value).toNat / 16777216))
    (byte ((BitVec.ofInt 32 value).toNat / 65536)) (byte ((BitVec.ofInt 32 value).toNat / 256))
    (byte (BitVec.ofInt 32 value).toNat)) :: ·) = _
  rw [toNat_byte byte_, readSigned32_bytes signed]

theorem readPairs_pairBytes (h : ∀ p ∈ ps, p.fits = true) : readPairs (ps.flatMap pairBytes) = some ps := by
  induction ps with
  | nil => rfl
  | cons p ps ih =>
    rw [List.flatMap_cons, readPairs_cons (h p List.mem_cons_self), ih fun q mem => h q (List.mem_cons_of_mem p mem)]
    rfl

theorem pairBytes_length (ps : List FieldPair) : (ps.flatMap pairBytes).length = 5 * ps.length := by
  induction ps with
  | nil => rfl
  | cons p ps ih =>
    rw [List.flatMap_cons, List.length_append, ih, List.length_cons]
    change 5 + _ = _
    omega

theorem map_toNat_byte (h : ∀ n ∈ ds, fitsByte n = true) : (ds.map byte).map BitVec.toNat = ds := by
  rw [List.map_map]
  exact (List.map_congr_left fun n mem => toNat_byte (h n mem)).trans (List.map_id _)

/-- A body that spells a request, by a code of one byte and within the greatest length. -/
def Spells (code : Nat) (t : Byte) (body : List Byte) (i : Instr) : Prop :=
  code < 256 ∧ body.length ≤ 1020 ∧ requestBody code t body = some i

theorem pairs_fit (h : pairsFit ps = true) : (∀ p ∈ ps, p.fits = true) ∧ 2 + 5 * ps.length ≤ 1020 := by
  obtain ⟨all, short⟩ := (Bool.and_eq_true ..).mp h
  exact ⟨List.all_eq_true.mp all, of_decide_eq_true short⟩

theorem devices_fit {n : Nat} (h : devicesFit n ds = true) : (∀ d ∈ ds, fitsByte d = true) ∧ n + ds.length ≤ 1020 := by
  obtain ⟨all, short⟩ := (Bool.and_eq_true ..).mp h
  exact ⟨List.all_eq_true.mp all, of_decide_eq_true short⟩

/-- The body of a well-formed request spells it. -/
theorem bodyOf_spells (wf : i.wellFormed = true) (spelt : bodyOf i = some (code, t, body)) : Spells code t body i := by
  cases i with
  | readIslands | readSummary | hold | resume | enterService | leaveService =>
    cases spelt
    exact ⟨by decide, Nat.zero_le _, rfl⟩
  | readChanged _ n | syncClose _ n | acknowledgeFailure _ n | releaseIntertrip _ n | releaseLockout _ n | resetElement _ n
  | endTest _ n | resetSide _ n | generatorStart _ n | generatorStop _ n | resetGenerator _ n | holdBlock _ n
  | releaseBlock _ n | shedBlock _ n | restoreBlock _ n =>
    cases spelt
    exact ⟨by decide, by simp, by simp only [requestBody, toNat_byte wf]⟩
  | acknowledge _ n =>
    cases spelt
    refine ⟨by decide, by simp [bytes16], ?_⟩
    change some (Instr.acknowledge t (read16 (byte (n / 256)) (byte n))) = _
    rw [read16_fits wf]
  | read _ k n | retire _ k n =>
    cases spelt
    obtain ⟨kind, index⟩ := (Bool.and_eq_true ..).mp wf
    exact ⟨by decide, by simp, by simp only [requestBody, toNat_byte kind, toNat_byte index]⟩
  | load _ k n ps | amend _ k n ps =>
    cases spelt
    obtain ⟨named, pairs⟩ := (Bool.and_eq_true ..).mp wf
    obtain ⟨kind, index⟩ := (Bool.and_eq_true ..).mp named
    obtain ⟨fits, short⟩ := pairs_fit pairs
    refine ⟨by decide, ?_, ?_⟩
    · rw [List.length_cons, List.length_cons, pairBytes_length]
      omega
    · simp only [requestBody, toNat_byte kind, toNat_byte index, readPairs_pairBytes fits, Option.map_some]
  | operate _ d a =>
    cases spelt
    refine ⟨by decide, by simp, ?_⟩
    cases a <;> simp only [requestBody, toNat_byte wf] <;> rfl
  | schemeMode _ m =>
    cases spelt
    cases m <;> exact ⟨by decide, by simp, rfl⟩
  | placeLockout _ r ds =>
    cases spelt
    obtain ⟨reason, devices⟩ := (Bool.and_eq_true ..).mp wf
    obtain ⟨fits, short⟩ := devices_fit devices
    refine ⟨by decide, ?_, ?_⟩
    · rw [List.length_append, List.length_map]
      exact short
    · change some (Instr.placeLockout t (read16 (byte (r / 256)) (byte r)) ((ds.map byte).map BitVec.toNat)) = _
      rw [read16_fits reason, map_toNat_byte fits]
  | addDevices _ k ds | dropDevices _ k ds =>
    cases spelt
    obtain ⟨slot, devices⟩ := (Bool.and_eq_true ..).mp wf
    obtain ⟨fits, short⟩ := devices_fit devices
    refine ⟨by decide, ?_, ?_⟩
    · rw [List.length_cons, List.length_map]
      omega
    · simp only [requestBody, toNat_byte slot, map_toNat_byte fits]
  | testInject _ p v m n =>
    cases spelt
    obtain ⟨named, duration⟩ := (Bool.and_eq_true ..).mp wf
    obtain ⟨point, values⟩ := (Bool.and_eq_true ..).mp named
    obtain ⟨ia, ib, ic, ir, vo, f, phi, p'⟩ := v
    simp only [testValuesFit, Bool.and_eq_true] at values
    obtain ⟨⟨⟨⟨⟨⟨⟨hia, hib⟩, hic⟩, hir⟩, hv⟩, hf⟩, hphi⟩, hp⟩ := values
    refine ⟨by decide, by simp [bytes16, bytesSigned16, bytesSigned32], ?_⟩
    cases m <;>
    simp only [requestBody, bytes16, bytesSigned16, bytesSigned32, List.cons_append, List.nil_append, toNat_byte point,
      read16_fits hia, read16_fits hib, read16_fits hic, read16_fits hir, read16_fits hv, read16_fits duration,
      readSigned32_bytes hf, readSigned32_bytes hp, readSigned16_bytes hphi] <;> rfl
  | _ => cases spelt

/-! ## Frames (R178) -/

theorem length_frameHead (code : Nat) (t : Byte) (body : List Byte) :
    (byte code :: t :: bytes16 body.length ++ body).length = 4 + body.length := by
  change (body.length + 1 + 1 + 1 + 1) = _
  omega

theorem declaredLength_head (short : body.length ≤ 1020) (rest : List Byte) :
    declaredLength ((byte code :: t :: bytes16 body.length ++ body) ++ rest) = some (6 + body.length) := by
  change some (if read16 (byte (body.length / 256)) (byte body.length) > 1020 then 4
    else 6 + read16 (byte (body.length / 256)) (byte body.length)) = _
  rw [read16_bytes (by omega), if_neg (by omega)]

/-- A frame with its CRC is of its declared length, and is the request its body spells. -/
theorem requestOf_frame (spells : Spells code t body i) :
    let head := byte code :: t :: bytes16 body.length ++ body
    requestOf (head ++ crcBytes head) = i ∧ declaredLength (head ++ crcBytes head) = some (head ++ crcBytes head).length := by
  intro head
  obtain ⟨small, short, spelt⟩ := spells
  have length : head.length = 4 + body.length := length_frameHead code t body
  have declared : declaredLength (head ++ crcBytes head) = some (6 + body.length) := declaredLength_head short _
  have whole : (head ++ crcBytes head).length = 6 + body.length := by
    rw [List.length_append, length]
    change _ + 2 = _
    omega
  have crc : crcHolds (head ++ crcBytes head) = true := by
    unfold crcHolds
    rw [declared]
    have cut : 6 + body.length - 2 = head.length := by omega
    dsimp only
    rw [cut, List.drop_left, List.take_left, beq_self_eq_true, Bool.or_true]
  have carried : frameBody (head ++ crcBytes head) = body := by
    unfold frameBody
    have cut : (head ++ crcBytes head).length - 6 = body.length := by omega
    rw [cut]
    change (body ++ crcBytes head).take _ = _
    exact List.take_left
  refine ⟨?_, by rw [declared, whole]⟩
  have reads : requestOf (head ++ crcBytes head) =
      if crcHolds (head ++ crcBytes head) && declaredLength (head ++ crcBytes head) ≠ some 4 then
        (requestBody (byte code).toNat t (frameBody (head ++ crcBytes head))).getD (.unknownRequest (head ++ crcBytes head))
      else .unknownRequest (head ++ crcBytes head) := by
    cases body <;> rfl
  have long : decide (some (6 + body.length) ≠ some 4) = true := decide_eq_true (by simp; omega)
  rw [reads, crc, declared, carried, (toNat_byte_mod code).trans (Nat.mod_eq_of_lt small), spelt, long]
  rfl

end

/-- Settles O8: a request's body spells it, and the frame around the body reads back. -/
theorem hostRequestFramesRoundTrip : Obligations.HostRequestFramesRoundTrip := by
  intro i frame wf framed
  obtain ⟨⟨code, t, body⟩, spelt, rfl⟩ := Option.map_eq_some_iff.mp framed
  exact requestOf_frame (bodyOf_spells wf spelt)

end Sys2Proof.Machine

/-!
PROOF. AMEND and RETIRE in service (R14, R15, R21, R121, R154, R166).
-/

namespace Sys2Proof.Machine

variable {r s t : Parts} {l : BlockId} {d : DeviceId}

/-! ## What shed steps leave of the blocks (R159) -/

/-- Each block stands with its place in the queue, or was SERVED and not critical and is SHED, with its settings and its demand,
and in the queue. -/
def Parts.Drops (s t : Parts) : Prop := ∀ l : BlockId,
  (t.load.blocks[l] = s.load.blocks[l] ∧ (l ∈ t.load.queue ↔ l ∈ s.load.queue)) ∨
    (s.load.blocks[l].state = .served ∧ s.isCritical l = false ∧ l ∈ t.load.queue ∧
      ∃ n, t.load.blocks[l] = { s.load.blocks[l] with state := .shed, shedSequence := n, restorer := none })

theorem Parts.Drops.same (blocks : t.load.blocks = s.load.blocks) (queue : t.load.queue = s.load.queue) : s.Drops t :=
  fun _ => .inl ⟨by rw [blocks], by rw [queue]⟩

theorem Parts.Drops.refl : s.Drops s := .same rfl rfl

theorem Parts.Drops.trans (h : r.Drops s) (k : s.Drops t) : r.Drops t := by
  intro l
  rcases h l with ⟨block, queue⟩ | ⟨served, plain, queued, n, block⟩
  · rcases k l with ⟨block', queue'⟩ | ⟨served, plain, queued, n, block'⟩
    · exact .inl ⟨block'.trans block, queue'.trans queue⟩
    · refine .inr ⟨by rw [← block]; exact served, ?_, queued, n, by rw [block', block]⟩
      unfold Parts.isCritical at plain ⊢
      rw [← block]
      exact plain
  · rcases k l with ⟨block', queue'⟩ | ⟨served', -, -, -, -⟩
    · exact .inr ⟨served, plain, queue'.mpr queued, n, block'.trans block⟩
    · rw [block] at served'
      cases served'

theorem shedOne_drops (may : mayShed s .served l = true) : s.Drops (shedOne l s) := by
  unfold mayShed at may
  unfold shedOne
  cases feeder : s.feederOf l with
  | none => exact .refl
  | some d =>
    simp only [feeder, Bool.and_eq_true, beq_iff_eq, Bool.not_eq_true'] at may
    obtain ⟨⟨⟨served, plain⟩, -⟩, -⟩ := may
    obtain ⟨vs, ds, a, ns, opened⟩ := sendOpen_operated d .loadUnit s
    obtain ⟨q, m, form, mem⟩ := becomeShed_form l (sendOpen d .loadUnit s)
    have load : (sendOpen d .loadUnit s).load = s.load := by rw [opened]; rfl
    intro j
    dsimp only
    rw [form, load]
    rw [load] at mem
    by_cases same : l = j
    · subst same
      exact .inr ⟨served, plain, (mem l).mpr (.inl rfl), _, getElem_set_fin_self _ _ _⟩
    · exact .inl ⟨getElem_set_fin_ne _ _ _ _ same, (mem j).trans (or_iff_right (Ne.symm same))⟩

theorem shedLoop_drops {i : Island} {capacity n : Nat} : s.Drops (shedLoop i capacity n s) := by
  induction n generalizing s with
  | zero => exact .refl
  | succ n ih =>
    unfold shedLoop
    split
    · exact .refl
    · split
      next l rest found =>
        have mem : l ∈ victims s i := by rw [found]; exact List.mem_cons_self
        have may := (List.mem_filter.mp (mem_sortBy.mp mem)).2
        exact (shedOne_drops may).trans (Parts.Drops.trans (s := (shedOne l s).raise .load) (.same rfl rfl) ih)
      · exact .same rfl rfl

theorem shedStep_drops {i : Island} : s.Drops (shedStep i s) := by
  unfold shedStep
  split
  · exact shedLoop_drops
  · exact .refl

theorem shedStepAt_drops : s.Drops (shedStepAt l s) := by
  unfold shedStepAt
  cases s.islandOfBlock l with
  | none => exact .refl
  | some i => exact shedStep_drops

theorem shedStepAt_adjusts (k : r.Adjusts s) (l : BlockId) : r.Adjusts (shedStepAt l s) := by
  unfold shedStepAt
  cases s.islandOfBlock l with
  | none => exact k
  | some i => exact shedStep_adjusts k i

theorem loadReview_drops : s.Drops (loadReview s) := by
  unfold loadReview
  dsimp only
  have steps : s.Drops ((s.topology.islands.filter (balanceMoved s)).foldl (fun s i => shedStep i s) s) := by
    generalize s.topology.islands.filter (balanceMoved s) = is
    induction is generalizing s with
    | nil => exact .refl
    | cons i is ih => exact shedStep_drops.trans ih
  refine steps.trans ?_
  generalize (s.topology.islands.filter (balanceMoved s)).foldl (fun s i => shedStep i s) s = t
  unfold keepBalances
  split
  · exact .same rfl rfl
  · exact .same rfl rfl

/-! ## A device put in or out of service (R21) -/

/-- The state a device is put in service in, by its record and its observation. -/
def Parts.placedState (s : Parts) (d : DeviceId) : DeviceState :=
  if isActive s.store.devices[d] then stateOfPosition (s.position d) else .retired

theorem placeDevice_form (d : DeviceId) (s : Parts) : ∃ a, placeDevice d s = { s with
    switching.devices := s.switching.devices.set d (s.switching.devices[d].placed (s.placedState d)), attention := a } := by
  unfold placeDevice Parts.placedState
  dsimp only
  split
  · rw [Parts.setDevice_eq]
    split
    · exact ⟨_, rfl⟩
    · exact ⟨_, rfl⟩
  · rw [Parts.setDevice_eq]
    exact ⟨_, rfl⟩

theorem replaceDevice_form (serving : s.service.inService = true) (d : DeviceId) : ∃ a, replaceDevice d s = { s with
    switching.devices := s.switching.devices.set d (s.switching.devices[d].placed (s.placedState d))
    attention := a, notices := s.notices ++ conducts s (placeDevice d s) d } := by
  obtain ⟨a, form⟩ := placeDevice_form d s
  have replaces : replaceDevice d s = (placeDevice d s).sendAll (conducts s (placeDevice d s) d) := by
    rw [← sendConducting_eq]
    exact if_pos serving
  refine ⟨a, ?_⟩
  rw [replaces]
  generalize conducts s (placeDevice d s) d = ns
  rw [form]
  rfl

/-- A device that is not conducting and is put in service where it is not observed OPEN is told of. -/
theorem replaceDevice_tells (serving : s.service.inService = true) (still : s.isConducting d = false)
    (moved : (s.switching.devices[d].placed (s.placedState d)).isConducting = true) :
    Notice.conducting d ∈ (replaceDevice d s).notices := by
  obtain ⟨a, form⟩ := replaceDevice_form serving d
  obtain ⟨_, placed⟩ := placeDevice_form d s
  have now : (placeDevice d s).isConducting d = true := by
    rw [placed]
    exact (congrArg DeviceLive.isConducting (getElem_set_fin_self _ _ _)).trans moved
  rw [form]
  unfold conducts
  rw [still, now]
  exact List.mem_append_right _ (List.mem_append_right _ List.mem_cons_self)

/-- A rebuild for a device's record, in service too. -/
theorem rebuildFor_device_form (d : DeviceId)
    (valid : ∀ (d : DeviceId) h, s.store.devices[d] = some h → h.retired = false → h.valid) : ∃ is ns,
    rebuildFor (.device d) s = { s with
      topology.index := Vector.ofFn s.entryBy, topology.conducting := Vector.ofFn s.isConducting
      topology.islands := is, notices := ns } := by
  unfold rebuildFor
  dsimp only
  rw [rebuildIndex_valid valid]
  generalize Vector.ofFn s.entryBy = v
  have takes : takeAllConducting { s with topology.index := v } = { s with
    topology.index := v, topology.conducting := Vector.ofFn s.isConducting } := rfl
  rw [takes]
  generalize Vector.ofFn s.isConducting = c
  obtain ⟨is, ns, form⟩ := recompute_form { s with topology.index := v, topology.conducting := c }
  exact ⟨is, ns, form⟩

/-- A device put in or out of service after the rebuild that its record brings. -/
theorem replaceDevice_rebuilt (serving : s.service.inService = true) (d : DeviceId)
    (valid : ∀ (d : DeviceId) h, s.store.devices[d] = some h → h.retired = false → h.valid) :
    let u := replaceDevice d (rebuildFor (.device d) s)
    let x := s.switching.devices[d].placed (s.placedState d)
    u.store = s.store ∧ (∀ e : DeviceId, u.topology.index[e] = s.entryBy e) ∧
      u.switching.devices = s.switching.devices.set d x ∧
      (s.isConducting d = false → x.isConducting = true → Notice.conducting d ∈ u.notices) := by
  intro u x
  obtain ⟨is, ns, rebuilt⟩ := rebuildFor_device_form d valid
  have index (e : DeviceId) : (rebuildFor (.device d) s).topology.index[e] = s.entryBy e := by
    rw [rebuilt]
    exact Vector.getElem_ofFn e.isLt
  have switching : (rebuildFor (.device d) s).switching = s.switching := by rw [rebuilt]
  have store : (rebuildFor (.device d) s).store = s.store := by rw [rebuilt]
  have service : (rebuildFor (.device d) s).service = s.service := by rw [rebuilt]
  have serving' : (rebuildFor (.device d) s).service.inService = true := by rw [service]; exact serving
  simp only [u]
  generalize rebuildFor (.device d) s = p at index switching store service serving' ⊢
  have placed : p.switching.devices[d].placed (p.placedState d) = x := by
    simp only [x, Parts.placedState, Parts.position, switching, store]
  obtain ⟨a, form⟩ := replaceDevice_form serving' d
  refine ⟨by rw [form]; exact store, fun e => by rw [form]; exact index e, ?_, fun still moved => ?_⟩
  · rw [form, ← placed, ← switching]
  · refine replaceDevice_tells serving' ?_ (by rw [placed]; exact moved)
    unfold Parts.isConducting
    rw [switching]
    exact still

end Sys2Proof.Machine

/-!
PROOF. AMEND and RETIRE in service, by the kind of the record (R14, R15).
-/

namespace Sys2Proof.Machine

section
variable {s : Parts} {n : RecordName} {k : RecordKind} {kind index : Nat} {ps : List FieldPair} {h : Held AnySettings}
  {x : AnySettings}

/-- An AMEND in service of the fields it may change is carried out. -/
theorem amendRequest_within (hk : RecordKind.all[kind]? = some k) (other : k ≠ .lockout) (named : recordNamed k index = some n)
    (within : ps ≠ [] ∧ fieldsFit k ps = true ∧ ∀ f ∈ ps.map FieldPair.field, f ∈ amendableFields k)
    (stored : s.record n = some h) (valid : h.valid)
    (isOpen : ∀ d, n = .device d → s.switching.devices[d].state = .open)
    (read : readSettings k (amendedPairs (settingsPairs h.settings) ps) = some x) (acyclic : closesCycle n x s = false) :
    amendRequest kind index ps s = (amendRecord n h x (ps.map FieldPair.field) s, .ok) := by
  have kinds := recordNamed_kind named
  subst kinds
  obtain ⟨some_, fit, fields⟩ := within
  have admitted : amendAdmitted n ps s = true := by
    refine Bool.not_eq_false _ ▸ mt amendAdmitted_iff.mp ?_
    rintro ⟨-, ⟨p, mem, bars⟩ | ⟨d, device, bars⟩⟩
    · exact bars (fields p.field (List.mem_map_of_mem mem))
    · exact bars (isOpen d device)
  exact (amendRequest_named hk other named).trans (amendNamed_admitted fit some_ stored admitted valid read acyclic)

/-! ## The amend notices -/

theorem utilityAmended_valid {u : UtilityId} {h : Held UtilitySettings} (stored : s.store.utilities[u] = some h)
    (valid : h.valid) (own : s.changeover.utilities[u].settings.isSome = true) : utilityAmended u s = { s with
      changeover.utilities := s.changeover.utilities.set u { s.changeover.utilities[u] with settings := some h.settings } } := by
  have present : ¬ s.changeover.utilities[u].settings.isNone = true := by
    rw [Option.isNone_iff_eq_none]
    exact Option.isSome_iff_ne_none.mp own
  unfold utilityAmended
  dsimp only
  rw [if_neg present, stored, useHeld_valid h _ _ _ s valid]

theorem generatorAmended_valid {g : GeneratorId} {h : Held GeneratorSettings} (serving : s.service.inService = true)
    (stored : s.store.generators[g] = some h) (valid : h.valid)
    (own : s.paralleling.generators[g].settings.isSome = true) : generatorAmended g s = takeCopy g h.settings s := by
  unfold generatorAmended
  rw [if_pos ⟨serving, own⟩]
  unfold useGenerator
  rw [stored, useHeld_valid h _ _ _ s valid]

/-- The demand of a block whose record is amended. -/
def Parts.amendedDemand (s : Parts) (l : BlockId) (y : BlockSettings) (fields : List Nat) : Option Nat :=
  if 5 ∉ fields then s.load.blocks[l].demand
  else if s.load.blocks[l].state = .served ∧ s.lanes.points[y.point].status = .fresh then
    some (max s.lanes.points[y.point].values.p.toNat y.demandFloor)
  else s.load.blocks[l].demand.map fun n => max n y.demandFloor

/-- A block that takes new settings and a demand, in its place in the queue where it is SHED. -/
def Parts.blockTakes (s : Parts) (l : BlockId) (y : BlockSettings) (demand : Option Nat) : Parts :=
  let t := s.setBlock l { s.load.blocks[l] with settings := some y, demand := demand }
  if s.load.blocks[l].state = .shed then placeInQueue l t else t

theorem blockAmended_eq {l : BlockId} {fields : List Nat} {h : Held BlockSettings} (serving : s.service.inService = true)
    (stored : s.store.blocks[l] = some h) (own : s.load.blocks[l].settings.isSome = true) :
    blockAmended l fields s =
      if s.amendedDemand l h.settings fields = s.load.blocks[l].demand then
        loadReview (s.blockTakes l h.settings (s.amendedDemand l h.settings fields))
      else (loadReview (shedStepAt l (s.blockTakes l h.settings (s.amendedDemand l h.settings fields)))).send
        .restoreTrigger := by
  have present : ¬((!s.service.inService) = true ∨ s.load.blocks[l].settings.isNone = true) := by
    rw [serving, Option.isNone_iff_eq_none]
    exact not_or.mpr ⟨by decide, Option.isSome_iff_ne_none.mp own⟩
  have demand : (if (!fields.contains 5) = true then s.load.blocks[l].demand
      else if s.load.blocks[l].state = .served ∧ s.lanes.points[h.settings.point].status = .fresh then
        some (max s.lanes.points[h.settings.point].values.p.toNat h.settings.demandFloor)
      else s.load.blocks[l].demand.map (max · h.settings.demandFloor)) = s.amendedDemand l h.settings fields := by
    unfold Parts.amendedDemand
    by_cases named : 5 ∈ fields
    · rw [if_neg (by rw [List.contains_iff_mem.mpr named]; decide), if_neg (not_not.mpr named)]
    · rw [if_pos (by rw [Bool.eq_false_iff.mpr (mt List.contains_iff_mem.mp named)]; rfl), if_pos named]
  unfold blockAmended
  rw [if_neg present, stored]
  have settings : settingsOf (some h) = some h.settings := rfl
  rw [settings]
  dsimp only
  rw [demand]
  rfl

theorem placeInQueue_form (l : BlockId) (s : Parts) : ∃ q, placeInQueue l s = { s with load.queue := q } ∧
    ∀ j, j ∈ q ↔ j = l ∨ j ∈ s.load.queue := ⟨_, rfl, fun _ => mem_placed⟩

theorem blockTakes_form (l : BlockId) (y : BlockSettings) (demand : Option Nat) (s : Parts) : ∃ q m,
    s.blockTakes l y demand = { s with
      load.blocks := s.load.blocks.set l { s.load.blocks[l] with settings := some y, demand := demand }
      load.queue := q, attention.changed := m } ∧ (s.load.blocks[l].state = .shed → l ∈ q) := by
  obtain ⟨m, form⟩ := setBlock_form s l { s.load.blocks[l] with settings := some y, demand := demand }
  obtain ⟨q, placed, mem⟩ := placeInQueue_form l (s.setBlock l { s.load.blocks[l] with settings := some y, demand := demand })
  unfold Parts.blockTakes
  dsimp only
  split
  next shed =>
    refine ⟨q, m, ?_, fun _ => (mem l).mpr (.inl rfl)⟩
    rw [placed, form]
  next other => exact ⟨_, m, form, fun shed => absurd shed other⟩

theorem send_drops {r : Parts} (k : r.Drops s) (n : Notice) : r.Drops (s.send n) := k.trans (.same rfl rfl)

/-- The reviews that follow an AMEND of a block. -/
theorem blockAmended_reviewed {l : BlockId} {fields : List Nat} {h : Held BlockSettings} (serving : s.service.inService = true)
    (stored : s.store.blocks[l] = some h) (own : s.load.blocks[l].settings.isSome = true) :
    ∃ u, blockAmended l fields s = u ∧
      (s.blockTakes l h.settings (s.amendedDemand l h.settings fields)).Drops u ∧ u.store.blocks = s.store.blocks ∧
      (s.amendedDemand l h.settings fields ≠ s.load.blocks[l].demand → Notice.restoreTrigger ∈ u.notices) := by
  rw [blockAmended_eq serving stored own]
  obtain ⟨_, _, form, -⟩ := blockTakes_form l h.settings (s.amendedDemand l h.settings fields) s
  have store : (s.blockTakes l h.settings (s.amendedDemand l h.settings fields)).store = s.store := by rw [form]
  generalize s.blockTakes l h.settings (s.amendedDemand l h.settings fields) = p at store ⊢
  have blocks {u : Parts} (k : p.Adjusts u) : u.store.blocks = s.store.blocks := by
    obtain ⟨ds, kept⟩ := k.devices
    rw [kept, store]
  split
  next stays => exact ⟨_, rfl, loadReview_drops, blocks (loadReview_adjusts .refl), absurd stays⟩
  next =>
    have stepped := loadReview_adjusts (shedStepAt_adjusts (Parts.Adjusts.refl (s := p)) l)
    have dropped := shedStepAt_drops.trans (loadReview_drops (s := shedStepAt l p))
    generalize loadReview (shedStepAt l p) = w at stepped dropped
    exact ⟨_, rfl, send_drops dropped _, blocks (send_adjusts stepped _), fun _ => List.mem_append_right _ List.mem_cons_self⟩

/-- What a block that takes new settings and a demand is after the reviews that may follow. -/
theorem blockAmended_takes (y : BlockSettings) (demand : Option Nat) {u : Parts}
    (drops : (s.blockTakes l y demand).Drops u) :
    u.load.blocks[l].settings = some y ∧ u.load.blocks[l].demand = demand ∧
      (s.load.blocks[l].state ≠ .served →
        u.load.blocks[l] = { s.load.blocks[l] with settings := some y, demand := demand }) ∧
      (s.load.blocks[l].state = .served → u.load.blocks[l].state = .served ∨
        (y.critical = false ∧ u.load.blocks[l].state = .shed)) ∧
      (s.load.blocks[l].state = .shed → l ∈ u.load.queue) := by
  obtain ⟨q, m, form, queued⟩ := blockTakes_form l y demand s
  have block : (s.blockTakes l y demand).load.blocks[l] = { s.load.blocks[l] with settings := some y, demand := demand } := by
    rw [form]
    exact getElem_set_fin_self _ _ _
  rcases drops l with ⟨same, queue⟩ | ⟨served, plain, -, n, shed⟩
  · rw [block] at same
    rw [same]
    refine ⟨rfl, rfl, fun _ => rfl, .inl, fun shed => queue.mpr ?_⟩
    rw [form]
    exact queued shed
  · unfold Parts.isCritical at plain
    rw [block] at served plain shed
    rw [shed]
    exact ⟨rfl, rfl, absurd served, fun _ => .inr ⟨plain, rfl⟩, fun other => nomatch other.symm.trans served⟩

end

/-- Settles O16: the owner takes the record that it reads. -/
theorem amendAndRetireInServiceAreTakenByTheOwner : Obligations.AmendAndRetireInServiceAreTakenByTheOwner := by
  unfold Obligations.AmendAndRetireInServiceAreTakenByTheOwner
  intro t ps s live serving fields within answers
  refine ⟨fun u h x fits stored valid read own => ?_, fun g h x fits stored valid read own => ?_,
    fun d h x fits isOpen stored valid read => ?_, fun e h x fits stored valid read acyclic => ?_,
    fun l h x fits stored valid read own => ?_, fun d h stored active valid opened closing opening => ?_⟩
  · have request := amendRequest_within (s := s.parts) (kind := 2) (n := .utility u) (h := h.map .utility) (x := .utility x) rfl
      nofun (congrArg (Option.map RecordName.utility) (index?_val u)) fits
      (congrArg (Option.map (Held.map AnySettings.utility)) stored) ⟨valid.1, congrArg AnySettings.utility valid.2⟩ nofun
      (congrArg (Option.map AnySettings.utility) read) (closesCycle_other nofun)
    have amends := utilityAmended_valid (s := s.parts.putUtility u (some (h.rewrite x))) (u := u) (h := h.rewrite x)
      (getElem_set_fin_self _ _ _) ⟨valid.1, rfl⟩ own
    exact taking_judged 0x11 t live.1 (request.trans (congrArg (·, Status.ok) amends)) ⟨live.2.1, live.2.2⟩
  · have request := amendRequest_within (s := s.parts) (kind := 3) (n := .generator g) (h := h.map .generator)
      (x := .generator x) rfl nofun (congrArg (Option.map RecordName.generator) (index?_val g)) fits
      (congrArg (Option.map (Held.map AnySettings.generator)) stored) ⟨valid.1, congrArg AnySettings.generator valid.2⟩ nofun
      (congrArg (Option.map AnySettings.generator) read) (closesCycle_other nofun)
    have amends := generatorAmended_valid (s := s.parts.putGenerator g (some (h.rewrite x))) (g := g) (h := h.rewrite x)
      serving (getElem_set_fin_self _ _ _) ⟨valid.1, rfl⟩ own
    exact taking_judged 0x11 t live.1 (request.trans (congrArg (·, Status.ok) amends)) ⟨live.2.1, live.2.2⟩
  · have request := amendRequest_within (s := s.parts) (kind := 4) (n := .device d) (h := h.map .device) (x := .device x) rfl
      nofun (congrArg (Option.map RecordName.device) (index?_val d)) fits
      (congrArg (Option.map (Held.map AnySettings.device)) stored) ⟨valid.1, congrArg AnySettings.device valid.2⟩
      (fun e same => by cases same; exact isOpen) (congrArg (Option.map AnySettings.device) read) (closesCycle_other nofun)
    exact taking_judged 0x11 t live.1 request ⟨live.2.1, live.2.2⟩
  · have request := amendRequest_within (s := s.parts) (kind := 6) (n := .element e) (h := h.map .element) (x := .element x) rfl
      nofun (congrArg (Option.map RecordName.element) (index?_val e)) fits
      (congrArg (Option.map (Held.map AnySettings.element)) stored) ⟨valid.1, congrArg AnySettings.element valid.2⟩ nofun
      (congrArg (Option.map AnySettings.element) read) acyclic
    let p := s.parts.putElement e (some (h.rewrite x))
    have reads : (if p.damageActs e then (useElement e p).1 else p) = p := by
      split
      · exact congrArg Prod.fst (useElement_valid e (h.rewrite x) p (getElem_set_fin_self _ _ _) ⟨valid.1, rfl⟩)
      · rfl
    exact taking_judged 0x11 t live.1 (request.trans (congrArg (·, Status.ok) reads)) ⟨live.2.1, live.2.2⟩
  · intro v q demand
    have request := amendRequest_within (s := s.parts) (kind := 5) (n := .block l) (h := h.map .block) (x := .block x) rfl
      nofun (congrArg (Option.map RecordName.block) (index?_val l)) fits
      (congrArg (Option.map (Held.map AnySettings.block)) stored) ⟨valid.1, congrArg AnySettings.block valid.2⟩ nofun
      (congrArg (Option.map AnySettings.block) read) (closesCycle_other nofun)
    let p := s.parts.putBlock l (some (h.rewrite x))
    obtain ⟨u, takes, drops, blocks, tells⟩ := blockAmended_reviewed (s := p) (l := l) (fields := fields) (h := h.rewrite x)
      serving (getElem_set_fin_self _ _ _) own
    obtain ⟨settings, demands, stands, falls, queued⟩ := blockAmended_takes (s := p) x (p.amendedDemand l x fields) drops
    exact ⟨u, taking_judges 0x11 t live (request.trans (congrArg (·, Status.ok) takes)), blocks, settings, demands, stands,
      falls, queued, tells⟩
  · let p := s.parts.putDevice d (some { h with retired := true })
    have named : recordNamed .device d.val = some (.device d) := congrArg (Option.map RecordName.device) (index?_val d)
    have present : s.parts.record (.device d) = some (h.map .device) :=
      congrArg (Option.map (Held.map AnySettings.device)) stored
    have admitted : retireAdmitted (.device d) s.parts = true := by
      refine Bool.not_eq_false _ ▸ mt retireAdmitted_iff.mp ?_
      rintro ⟨-, bars⟩
      exact (bars d rfl).elim (absurd opened) (·.elim closing opening)
    have retires := (retireRequest_named (kind := 4) (k := .device) (s := s.parts) rfl nofun named).trans
      (retireNamed_admitted present admitted active)
    have put : s.parts.putRecord (.device d) { h.map AnySettings.device with retired := true } = p := rfl
    have gone : p.store.devices[d] = some { h with retired := true } := getElem_set_fin_self _ _ _
    have others (e : DeviceId) (x : Held DeviceSettings) (at_e : p.store.devices[e] = some x) (live : x.retired = false) :
        x.valid := by
      by_cases same : d = e
      · subst same
        cases gone.symm.trans at_e
        cases live
      · exact valid e x (Ne.symm same) ((getElem_set_fin_ne _ _ _ _ same).symm.trans at_e)
    obtain ⟨store, index, devices, -⟩ := replaceDevice_rebuilt (s := p) serving d others
    have entry : p.entryBy d = none := by
      unfold Parts.entryBy
      rw [gone, activeSettings_retired rfl]
      rfl
    have placed : p.placedState d = .retired := by
      unfold Parts.placedState
      rw [gone]
      rfl
    rw [put] at retires
    change _ = (replaceDevice d (rebuildFor (.device d) p), Status.ok) at retires
    generalize replaceDevice d (rebuildFor (.device d) p) = u at retires store index devices
    refine ⟨u, taking_judges 0x12 t live retires, store, (index d).trans entry, ?_, fun e ne => ?_⟩
    · rw [devices, placed]
      exact getElem_set_fin_self _ _ _
    · rw [devices]
      exact getElem_set_fin_ne _ _ _ _ (Ne.symm ne)

end Sys2Proof.Machine

/-!
PROOF. LOAD in service: devices, generators, blocks and the scheme (R13, R21, R123, R154, R166).
-/

namespace Sys2Proof.Machine

section
variable {s : Parts} {n : RecordName} {k : RecordKind} {kind index : Nat} {ps : List FieldPair} {x : AnySettings}

theorem loadRequest_admitted (hk : RecordKind.all[kind]? = some k) (named : recordNamed k index = some n)
    (complete : fieldsFit k ps = true ∧ fieldsComplete k ps = true) (read : readSettings k ps = some x)
    (acyclic : closesCycle n x s = false) (admitted : loadAdmitted n s = true) :
    loadRequest kind index ps s = (loadRecord n x s, .ok) := by
  have kinds := recordNamed_kind named
  subst kinds
  exact (loadRequest_named hk named).trans (loadNamed_admitted complete.1 complete.2 read acyclic admitted)

/-! ## Devices (R21) -/

theorem placedState_conducting {d : DeviceId} (active : isActive s.store.devices[d] = true) (seen : s.position d ≠ .open) :
    (s.switching.devices[d].placed (s.placedState d)).isConducting = true := by
  have away : (s.position d != .open) = true := bne_iff_ne.mpr seen
  have position : positionOf (s.switching.devices[d].placed (s.placedState d)).pattern = s.position d := rfl
  unfold DeviceLive.isConducting Parts.placedState
  rw [active]
  cases at_ : s.position d with
  | closed | travel | disagree => exact (congrArg (· != Position.open) at_)
  | _ => exact absurd at_ seen

/-! ## Generators (R139, R154) -/

section
variable {g j : GeneratorId} {h : Held GeneratorSettings}

theorem Parts.Adjusts.stores {t : Parts} (k : s.Adjusts t) (stored : s.store.generators[g] = some h) :
    t.store.generators[g] = some h := by
  obtain ⟨ds, kept⟩ := k.devices
  rw [kept]
  exact stored

theorem foldl_stores {f : Parts → GeneratorId → Parts}
    (step : ∀ {u : Parts} (j : GeneratorId), u.store.generators[g] = some h → (f u j).store.generators[g] = some h)
    (l : List GeneratorId) (stored : s.store.generators[g] = some h) : (l.foldl f s).store.generators[g] = some h := by
  induction l generalizing s with
  | nil => exact stored
  | cons j l ih => exact ih (step j stored)

/-- A read of one generator's record leaves another that is VALID. -/
theorem useGenerator_stores (stored : s.store.generators[g] = some h) (valid : h.valid) (j : GeneratorId) :
    (useGenerator j s).1.store.generators[g] = some h := by
  have read : (useHeld s.store.generators[j] (fun h s => s.putGenerator j (some h)) (generatorIndex j)
      (generatorDamaged j) s).1.store.generators[g] = some h := by
    by_cases same : j = g
    · subst same
      rw [stored, useHeld_valid h _ _ _ s valid]
      exact stored
    · exact useHeld_preserves (P := fun u => u.store.generators[g] = some h)
        (fun _ k => (getElem_set_fin_ne _ _ _ _ same).trans k) id
        (fun k => (generatorDamaged_adjusts .refl j).stores k) stored
  unfold useGenerator
  split
  next e => exact (congrArg (fun q : Parts × Option GeneratorSettings => q.1.store.generators[g]) e).symm.trans read
  next e => exact (congrArg (fun q : Parts × Option GeneratorSettings => q.1.store.generators[g]) e).symm.trans read

theorem startGenerator_stores (stored : s.store.generators[g] = some h) (valid : h.valid) (j : GeneratorId) :
    (startGenerator j s).store.generators[g] = some h := by
  have read := useGenerator_stores stored valid j
  unfold startGenerator
  split
  next u y e =>
    rw [e] at read
    exact (leaveQueues_adjusts (writeGenerator_adjusts .refl false j _) j).stores read
  next u e =>
    rw [e] at read
    exact read

theorem startWanted_stores (stored : s.store.generators[g] = some h) (valid : h.valid) :
    (startWanted s).store.generators[g] = some h := by
  unfold startWanted
  split
  · refine foldl_stores (fun j k => ?_) allGenerators stored
    split
    · exact startGenerator_stores k valid j
    · exact k
  · exact stored

theorem afterDisconnect_stores (stored : s.store.generators[g] = some h) (valid : h.valid) (j : GeneratorId) :
    (afterDisconnect j s).store.generators[g] = some h := by
  have written (x : GeneratorLive) {u : Parts} (k : u.store.generators[g] = some h) :
      (setGenerator j x u).store.generators[g] = some h := (writeGenerator_adjusts .refl false j x).stores k
  have rests {u : Parts} (k : u.store.generators[g] = some h) : (restGenerator j u).store.generators[g] = some h := by
    unfold restGenerator restFrom stopFrom
    split
    · exact startWanted_stores (written _ k) valid
    · exact written _ k
  unfold afterDisconnect coolGenerator
  dsimp only
  split
  · exact (failGenerator_adjusts .refl j .damaged .stop).stores stored
  · split
    · exact rests ((leaveQueues_adjusts .refl j).stores (written _ stored))
    · exact (leaveQueues_adjusts .refl j).stores (written _ stored)

theorem disconnectGenerator_stores (stored : s.store.generators[g] = some h) (valid : h.valid) (j : GeneratorId) :
    (disconnectGenerator j s).store.generators[g] = some h := by
  obtain ⟨-, -, store⟩ := releaseGrants_left (s := s) (g := j) { (s.gen j).still.level with state := .disconnecting }
  unfold disconnectGenerator disconnectWith
  dsimp only
  generalize releaseGrants j (leaveQueues j (setGenerator j { (s.gen j).still.level with state := .disconnecting } s)) = u
    at store ⊢
  have left : u.store.generators[g] = some h := by
    rw [store]
    exact stored
  split
  · exact afterDisconnect_stores left valid j
  next d _ =>
    have asked := (openRequest_adjusts (Parts.Adjusts.refl (s := u)) d .paralleling).stores left
    split
    next e =>
      rw [e] at asked
      exact asked
    next e =>
      rw [e] at asked
      split
      · exact afterDisconnect_stores asked valid j
      · exact asked
    next e =>
      rw [e] at asked
      exact afterDisconnect_stores asked valid j

theorem judgeShutdown_stores (stored : s.store.generators[g] = some h) (valid : h.valid) :
    (judgeShutdown s).store.generators[g] = some h := by
  unfold judgeShutdown
  extract_lets tied
  split
  · exact stored
  · refine foldl_stores (fun j k => ?_) allGenerators stored
    split
    · exact disconnectGenerator_stores k valid j
    · exact k

theorem generatorFromDevice_stores (stored : s.store.generators[g] = some h) (valid : h.valid) (y : GeneratorSettings) :
    (generatorFromDevice g y s).store.generators[g] = some h := by
  have copied : (takeCopy g y s).store.generators[g] = some h := stored
  have written (x : GeneratorLive) {u : Parts} (k : u.store.generators[g] = some h) :
      (setGenerator g x u).store.generators[g] = some h := (writeGenerator_adjusts .refl false g x).stores k
  unfold generatorFromDevice restFrom stopFrom onlineFrom
  dsimp only
  generalize takeCopy g y s = p at copied ⊢
  repeat' split
  · exact startWanted_stores (written _ copied) valid
  · exact written _ copied
  · refine judgeShutdown_stores ?_ valid
    exact (releaseGrants_adjusts (leaveQueues_adjusts .refl g) g).stores (written _ (u := { p with
      paralleling.onlineCounter := p.paralleling.onlineCounter + 1 }) copied)
  · exact written _ copied

/-! The generator as it is placed. -/

/-- A generator put afresh. -/
def generatorAfresh (y : GeneratorSettings) : GeneratorLive := { GeneratorLive.initial with settings := some y }

theorem laneUp_takeCopy (g : GeneratorId) (y : GeneratorSettings) (s : Parts) :
    (takeCopy g y s).laneUp g = (s.lanes.lanes[y.lane].state == .up) := by
  have copied : (takeCopy g y s).gen g = { s.gen g with settings := some y } := getElem_set_fin_self _ _ _
  unfold Parts.laneUp
  rw [copied]
  rfl

theorem judgeShutdown_wanted (wanted : s.supplyWanted = true) : judgeShutdown s = s := by
  unfold judgeShutdown
  dsimp only
  rw [wanted]
  rfl

theorem onlineFrom_live (x : GeneratorLive) (wanted : s.supplyWanted = true) :
    (onlineFrom x g s).gen g = { x.still.level with
      state := .online, run := .run, sequence := some (s.paralleling.onlineCounter + 1), reference := none } := by
  let p : Parts := { s with paralleling.onlineCounter := s.paralleling.onlineCounter + 1 }
  let y : GeneratorLive := { x.still.level with
    state := .online, run := .run, sequence := some (s.paralleling.onlineCounter + 1), reference := none }
  obtain ⟨live, -, -⟩ := releaseGrants_left (s := p) (g := g) y
  have enters : onlineFrom x g s = judgeShutdown (releaseGrants g (leaveQueues g (setGenerator g y p))) := rfl
  have same : (releaseGrants g (leaveQueues g (setGenerator g y p))).supplyWanted = s.supplyWanted := by
    obtain ⟨ls, is, m, ns, touched⟩ := (setGenerator_touches g y p).form
    obtain ⟨as, ns', released⟩ := releaseGrants_form g (leaveQueues g (setGenerator g y p))
    rw [released]
    exact (congrArg (fun u : Parts => allSides.any fun i => u.changeover.sides[i].supply) touched :)
  rw [enters, judgeShutdown_wanted (same.trans wanted), live]
  exact GeneratorLive.kept_shares rfl

theorem generatorFromDevice_takes (y : GeneratorSettings) :
    let up : Prop := s.lanes.lanes[y.lane].state = .up
    let v := (generatorFromDevice g y s).gen g
    (s.isConducting y.device = false → ¬up → v = { generatorAfresh y with state := .unavailable }) ∧
      (s.isConducting y.device = false → up → s.supplyWanted = false → v = { generatorAfresh y with state := .stopped }) ∧
      (s.isConducting y.device = true → ¬up → v = { generatorAfresh y with state := .unavailable, run := .run }) ∧
      (s.isConducting y.device = true → up → s.supplyWanted = true →
        v = { generatorAfresh y with state := .online, run := .run, sequence := some (s.paralleling.onlineCounter + 1) }) := by
  intro up v
  have lane := laneUp_takeCopy g y s
  have conducting : (takeCopy g y s).isConducting y.device = s.isConducting y.device := rfl
  have wants : (takeCopy g y s).supplyWanted = s.supplyWanted := rfl
  have counter : (takeCopy g y s).paralleling.onlineCounter = s.paralleling.onlineCounter := rfl
  have form : generatorFromDevice g y s = if (!(takeCopy g y s).isConducting y.device) = true then
      restFrom (generatorAfresh y) g (takeCopy g y s)
    else if (takeCopy g y s).laneUp g = true then onlineFrom (generatorAfresh y) g (takeCopy g y s)
    else setGenerator g { generatorAfresh y with state := .unavailable, run := .run } (takeCopy g y s) := rfl
  have live (up_ : up) : (takeCopy g y s).laneUp g = true := lane.trans (beq_iff_eq.mpr up_)
  have dead (down : ¬up) : (takeCopy g y s).laneUp g = false := lane.trans (beq_eq_false_iff_ne.mpr down)
  simp only [v]
  rw [form, conducting]
  generalize takeCopy g y s = p at live dead wants counter ⊢
  refine ⟨fun off down => ?_, fun off up_ unwanted => ?_, fun on down => ?_, fun on up_ wanted => ?_⟩
  · rw [off, Bool.not_false, if_pos rfl, restFrom_down (dead down), gen_setGenerator]
    exact GeneratorLive.kept_plain rfl
  · rw [off, Bool.not_false, if_pos rfl, restFrom_up (live up_) (wants.trans unwanted), gen_setGenerator]
    exact GeneratorLive.kept_plain rfl
  · rw [on, Bool.not_true, if_neg Bool.false_ne_true, if_neg (by rw [dead down]; decide), gen_setGenerator]
    exact GeneratorLive.kept_plain rfl
  · rw [on, Bool.not_true, if_neg Bool.false_ne_true, if_pos (live up_), onlineFrom_live _ (wants.trans wanted), counter]
    rfl

end

/-! ## Blocks (R155, R166) -/

section
variable {l : BlockId}

/-- A block put afresh at its demand floor, in the island of its feeder. -/
def Parts.blockAfresh (s : Parts) (y : BlockSettings) : BlockLive := { BlockLive.initial with
  demand := some y.demandFloor, island := (s.islandOfDevice y.feeder).map Island.id, settings := some y }

/-- Where a block is placed by its feeder. -/
theorem blockFromFeeder_form (l : BlockId) (y : BlockSettings) (s : Parts) : ∃ v n m,
    blockFromFeeder l y s = { s with
      load.blocks := s.load.blocks.set l v, load.servedCounter := n, attention.changed := m } ∧
    (s.isConducting y.feeder = false → v = { s.blockAfresh y with state := .held }) ∧
    (∀ i, s.isConducting y.feeder = true → s.islandOfDevice y.feeder = some i → i.energisation ≠ .live →
      v = { s.blockAfresh y with state := .dark }) ∧
    (∀ i, s.isConducting y.feeder = true → s.islandOfDevice y.feeder = some i → i.energisation = .live →
      v = { s.blockAfresh y with state := .served, servedSequence := some (s.load.servedCounter + 1) }) := by
  have form : blockFromFeeder l y s = if (!s.isConducting y.feeder) = true then
      s.setBlock l { s.blockAfresh y with state := .held }
    else if ((s.islandOfDevice y.feeder).any fun i => i.energisation == .live) = true then
      { s with load.servedCounter := s.load.servedCounter + 1 }.setBlock l
        { s.blockAfresh y with state := .served, servedSequence := some (s.load.servedCounter + 1) }
    else s.setBlock l { s.blockAfresh y with state := .dark } := rfl
  rw [form]
  generalize s.blockAfresh y = x
  cases conducts : s.isConducting y.feeder with
  | false =>
    obtain ⟨m, put⟩ := setBlock_form s l { x with state := .held }
    exact ⟨_, _, m, put, fun _ => rfl, nofun, nofun⟩
  | true =>
    rw [Bool.not_true, if_neg Bool.false_ne_true]
    split
    next live =>
      obtain ⟨m, put⟩ := setBlock_form { s with load.servedCounter := s.load.servedCounter + 1 } l
        { x with state := .served, servedSequence := some (s.load.servedCounter + 1) }
      refine ⟨_, _, m, put, nofun, fun i _ island dead => ?_, fun i _ _ _ => rfl⟩
      rw [island] at live
      exact absurd (beq_iff_eq.mp live) dead
    next dead =>
      obtain ⟨m, put⟩ := setBlock_form s l { x with state := .dark }
      refine ⟨_, _, m, put, nofun, fun i _ _ _ => rfl, fun i _ island live => ?_⟩
      rw [island] at dead
      exact absurd (beq_iff_eq.mpr live) dead

/-- The reviews that follow the LOAD of a block. -/
theorem blockLoaded_reviewed {h : Held BlockSettings} (serving : s.service.inService = true)
    (stored : s.store.blocks[l] = some h) : ∃ u, blockLoaded l s = u ∧
      (blockFromFeeder l h.settings (leaveQueue l s)).Drops u ∧ u.store.blocks = s.store.blocks ∧
      Notice.restoreTrigger ∈ u.notices := by
  have loads : blockLoaded l s =
      (loadReview (shedStepAt l (blockFromFeeder l h.settings (leaveQueue l s)))).send .restoreTrigger := by
    unfold blockLoaded
    rw [serving, stored]
    rfl
  obtain ⟨_, _, _, form, -⟩ := blockFromFeeder_form l h.settings (leaveQueue l s)
  have store : (blockFromFeeder l h.settings (leaveQueue l s)).store = s.store := by rw [form]; rfl
  rw [loads]
  generalize blockFromFeeder l h.settings (leaveQueue l s) = p at store ⊢
  have stepped := loadReview_adjusts (shedStepAt_adjusts (Parts.Adjusts.refl (s := p)) l)
  have dropped := shedStepAt_drops.trans (loadReview_drops (s := shedStepAt l p))
  generalize loadReview (shedStepAt l p) = w at stepped dropped
  refine ⟨_, rfl, send_drops dropped _, ?_, List.mem_append_right _ List.mem_cons_self⟩
  obtain ⟨ds, kept⟩ := (send_adjusts stepped .restoreTrigger).devices
  rw [kept, store]

/-- A block that is loaded, after the shed step that may follow. -/
theorem blockLoaded_takes {h : Held BlockSettings} (serving : s.service.inService = true)
    (stored : s.store.blocks[l] = some h) :
    let y := h.settings
    let u := blockLoaded l s
    (s.isConducting y.feeder = false → u.load.blocks[l] = { s.blockAfresh y with state := .held } ∧ l ∉ u.load.queue) ∧
      (∀ i, s.isConducting y.feeder = true → s.islandOfDevice y.feeder = some i → i.energisation ≠ .live →
        u.load.blocks[l] = { s.blockAfresh y with state := .dark } ∧ l ∉ u.load.queue) ∧
      (∀ i, s.isConducting y.feeder = true → s.islandOfDevice y.feeder = some i → i.energisation = .live →
        u.load.blocks[l].servedSequence = some (s.load.servedCounter + 1) ∧
        u.load.blocks[l].demand = some y.demandFloor ∧ u.load.blocks[l].settings = some y ∧
        ((u.load.blocks[l].state = .served ∧ l ∉ u.load.queue) ∨
          (y.critical = false ∧ u.load.blocks[l].state = .shed ∧ l ∈ u.load.queue))) := by
  intro y u
  obtain ⟨w, loads, drops, -⟩ := blockLoaded_reviewed serving stored
  obtain ⟨v, n, m, form, held, dark, served⟩ := blockFromFeeder_form l y (leaveQueue l s)
  have block : (blockFromFeeder l y (leaveQueue l s)).load.blocks[l] = v := by
    rw [form]
    exact getElem_set_fin_self _ _ _
  have left : l ∉ (blockFromFeeder l y (leaveQueue l s)).load.queue := by
    rw [form]
    exact not_mem_left l s.load.queue
  have here := drops l
  change blockLoaded l s = w at loads
  simp only [u]
  rw [loads]
  generalize blockFromFeeder l y (leaveQueue l s) = p at block left here
  have stands (other : v.state ≠ .served) : w.load.blocks[l] = v ∧ l ∉ w.load.queue := by
    rcases here with ⟨same, queue⟩ | ⟨up, -⟩
    · exact ⟨same.trans block, mt queue.mp left⟩
    · exact absurd (by rw [← block]; exact up) other
  refine ⟨fun off => ?_, fun i on island dead => ?_, fun i on island live => ?_⟩
  · have value := held off
    rw [value] at stands
    exact stands nofun
  · have value := dark i on island dead
    rw [value] at stands
    exact stands nofun
  · have value := served i on island live
    rw [value] at block
    rcases here with ⟨same, queue⟩ | ⟨-, plain, queued, _, shed⟩
    · rw [same, block]
      exact ⟨rfl, rfl, rfl, .inl ⟨rfl, mt queue.mp left⟩⟩
    · unfold Parts.isCritical at plain
      rw [block] at plain shed
      rw [shed]
      exact ⟨rfl, rfl, rfl, .inr ⟨plain, rfl, queued⟩⟩

end

/-! ## The scheme (R123) -/

theorem levelIsland_store (b : BusId) (s : Parts) : (levelIsland b s).store = s.store := by
  unfold levelIsland
  split
  next i _ =>
    generalize onlineOf s i = gs
    clear * -
    induction gs generalizing s with
    | nil => rfl
    | cons j gs ih => exact (ih (setGenerator j (s.gen j).level s)).trans (setGenerator_store ..)
  · rfl

/-- No island sync runs, or none waits to follow it. -/
def Parts.soleSync (s : Parts) : Prop := s.paralleling.islandSync = none ∨ s.paralleling.waitingSync = none

/-- A withdrawal that starts no sync reads no record. -/
theorem withdrawIslandSync_sole (i : SideId) (sole : s.soleSync) :
    (withdrawIslandSync i s).store = s.store ∧ (withdrawIslandSync i s).soleSync := by
  obtain ⟨waits, running⟩ := dropWaiting_waits i s
  have store : (dropWaiting i s).store = s.store := by
    unfold dropWaiting
    repeat' split
    all_goals rfl
  have sole' : (dropWaiting i s).soleSync := by
    rcases sole with none_ | none_
    · exact .inl (running.trans none_)
    · refine .inr (Option.eq_none_iff_forall_ne_some.mpr fun w h => ?_)
      have was := (waits w.1 w.2 h).2
      rw [none_] at was
      cases was
  rw [withdrawIslandSync_eq]
  generalize dropWaiting i s = p at store sole' ⊢
  split
  next y runs =>
    split
    · obtain ⟨-, -, ended, waiting⟩ := islandSync_ended y p
      have level : (y.incoming.elim { p with paralleling.islandSync := none } fun b =>
          levelIsland b { p with paralleling.islandSync := none }).store = p.store := by
        cases y.incoming with
        | none => rfl
        | some b => exact levelIsland_store b _
      have waitless : p.paralleling.waitingSync = none := sole'.resolve_left (by rw [runs]; nofun)
      unfold endIslandSync
      rw [runs]
      dsimp only at ended waiting level ⊢
      generalize y.incoming.elim _ _ = u at ended waiting level ⊢
      rw [waitless] at waiting
      rw [waiting]
      exact ⟨level.trans store, .inl ended⟩
    · exact ⟨store, sole'⟩
  · exact ⟨store, sole'⟩

theorem onSide_sideManual_sole (i : SideId) (sole : s.soleSync) :
    (onSide i (sideManual i) s).store = s.store ∧ (onSide i (sideManual i) s).soleSync := by
  obtain ⟨ns, told⟩ := onSide_form i (sideManual i) s
  obtain ⟨store, sole'⟩ := withdrawIslandSync_sole (s := withdrawPreShed i s) i sole
  have enters : sideManual i s = enterSide i .manual (withdrawIslandSync i (withdrawPreShed i s)) := rfl
  rw [told, enters]
  generalize withdrawIslandSync i (withdrawPreShed i s) = q at store sole' ⊢
  have withdraws : (withdrawOf i (q.side i).state q).store = q.store ∧ (withdrawOf i (q.side i).state q).soleSync := by
    unfold withdrawOf
    split
    · exact ⟨rfl, sole'⟩
    · exact ⟨rfl, sole'⟩
    · exact withdrawIslandSync_sole i sole'
    · exact ⟨rfl, sole'⟩
  obtain ⟨ms, m, entered⟩ := enterSide_form i .manual q
  rw [entered]
  exact ⟨withdraws.1.trans store, withdraws.2⟩

theorem onSides_sideManual_sole (sole : s.soleSync) : (onSides sideManual s).store = s.store := by
  obtain ⟨first, sole'⟩ := onSide_sideManual_sole 0 sole
  rw [onSides_eq]
  exact (onSide_sideManual_sole 1 sole').1.trans first

theorem schemeLoaded_valid {h : Held SchemeSettings} (serving : s.service.inService = true)
    (stored : s.store.scheme = some h) (valid : h.valid) : schemeLoaded s =
      if s.changeover.scheme.isNone then onSides sideManual { s with changeover.scheme := some h.settings }
      else { s with changeover.scheme := some h.settings } := by
  unfold schemeLoaded
  rw [serving, useScheme_valid stored valid]
  rfl

theorem onSides_sideManual_withdrawn (manual : s.changeover.mode = .manual) : SchemeWithdrawn s (onSides sideManual s) := by
  have same : { s with changeover.mode := .manual } = s := by rw [← manual]
  have withdrawn := schemeManual_withdrawn s
  unfold schemeManual at withdrawn
  rw [same] at withdrawn
  exact withdrawn

end

end Sys2Proof.Machine

/-!
PROOF. LOAD in service: elements (R98, R100, R102, R114, R115), and the LOAD at each owner (R13).
-/

namespace Sys2Proof.Machine

section
variable {r s t : Parts} {e f : ElementId} {d : DeviceId}

/-! ## Reviews where every record is VALID -/

/-- At most zone timers are written, and of no element that is not PICKED_UP and whose timer does not run. -/
structure Parts.Rezones (s t : Parts) : Prop where
  store : t.store = s.store
  lanes : t.lanes = s.lanes
  service : t.service = s.service
  protection : ∃ es, t.protection = { s.protection with elements := es }
  element : ∀ f : ElementId, ∃ z, t.protection.elements[f] = { s.protection.elements[f] with zone := z } ∧
    (s.protection.elements[f].state ≠ .pickedUp → s.protection.elements[f].zone.isRunning = false →
      z = s.protection.elements[f].zone)

theorem Parts.Rezones.refl : s.Rezones s := ⟨rfl, rfl, rfl, ⟨_, rfl⟩, fun _ => ⟨_, rfl, fun _ _ => rfl⟩⟩

theorem Parts.Rezones.trans (k : r.Rezones s) (l : s.Rezones t) : r.Rezones t := by
  obtain ⟨_, protection⟩ := k.protection
  obtain ⟨es, protection'⟩ := l.protection
  refine ⟨l.store.trans k.store, l.lanes.trans k.lanes, l.service.trans k.service, ⟨es, by rw [protection', protection]⟩,
    fun f => ?_⟩
  obtain ⟨z, here, stays⟩ := k.element f
  obtain ⟨z', here', stays'⟩ := l.element f
  rw [here] at here' stays'
  refine ⟨z', here', fun down still => ?_⟩
  have same := stays down still
  subst same
  exact stays' down still

/-- An element that is neither PICKED_UP nor timed stands. -/
theorem Parts.Rezones.still (k : s.Rezones t) (down : s.protection.elements[f].state ≠ .pickedUp)
    (still : s.protection.elements[f].zone.isRunning = false) : t.protection.elements[f] = s.protection.elements[f] := by
  obtain ⟨z, here, stays⟩ := k.element f
  rw [here, stays down still]

theorem setZone_rezones (x : ElementId) (z : Timer)
    (may : s.protection.elements[x].state = .pickedUp ∨ s.protection.elements[x].zone.isRunning = true) :
    s.Rezones (s.setElement x { s.protection.elements[x] with zone := z }) := by
  obtain ⟨m, form⟩ := markIf_marks (s := { s with
    protection.elements := s.protection.elements.set x { s.protection.elements[x] with zone := z } })
    (s.protection.elements[x].moved { s.protection.elements[x] with zone := z }) (elementIndex x)
  have written : s.setElement x { s.protection.elements[x] with zone := z } = { s with
      protection.elements := s.protection.elements.set x { s.protection.elements[x] with zone := z }
      attention.changed := m } := form
  rw [written]
  refine ⟨rfl, rfl, rfl, ⟨_, rfl⟩, fun f => ?_⟩
  by_cases same : x = f
  · subst same
    refine ⟨z, getElem_set_fin_self _ _ _, fun down still => ?_⟩
    rcases may with up | runs
    · exact absurd up down
    · rw [runs] at still
      cases still
  · exact ⟨_, getElem_set_fin_ne _ _ _ _ same, fun _ _ => rfl⟩

theorem reviewZone_rezones {n : Nat} {x : ElementId}
    (valid : ∀ (f : ElementId) h, s.store.elements[f] = some h → h.valid) : s.Rezones (reviewZone n x s) := by
  cases n with
  | zero => exact .refl
  | succ n =>
    unfold reviewZone
    dsimp only
    split
    · split
      next runs => exact setZone_rezones x .stopped (.inr runs)
      · exact .refl
    split
    · exact .refl
    split
    · exact .refl
    next wants _ _ =>
      have up : s.protection.elements[x].state = .pickedUp := by
        simp only [Bool.not_eq_true', Bool.not_eq_false, Bool.and_eq_true, beq_iff_eq] at wants
        exact wants.1
      cases stored : s.store.elements[x] with
      | none => exact .refl
      | some h =>
        simp only [useHeld_valid h _ _ _ s (valid x h stored)]
        split
        · exact setZone_rezones x _ (.inl up)
        · exact .refl

theorem reviewUpstream_rezones (valid : ∀ (f : ElementId) h, s.store.elements[f] = some h → h.valid) :
    s.Rezones (reviewUpstream e s) := by
  unfold reviewUpstream
  split
  · exact reviewZone_rezones valid
  · exact .refl

theorem changeElement_rezones (valid : ∀ (f : ElementId) h, s.store.elements[f] = some h → h.valid) (x : ElementLive) :
    (s.setElement e x).Rezones (changeElement e x s) := by
  have store : (s.setElement e x).store = s.store := Parts.setElement_store ..
  unfold changeElement
  dsimp only
  generalize s.setElement e x = p at store ⊢
  have valid' (f : ElementId) (h) (at_f : p.store.elements[f] = some h) : h.valid := valid f h (by rw [← store]; exact at_f)
  split
  · have first := reviewZone_rezones (n := chainLimit) (x := e) valid'
    exact first.trans (reviewUpstream_rezones fun f h at_f => valid' f h (by rw [← first.store]; exact at_f))
  · exact .refl

/-! ## The UNPROTECTED set (R100) -/

theorem isUnguarded_congr (guards : t.protection.guards = s.protection.guards)
    (fails : ∀ f : ElementId, t.protection.elements[f].fails = s.protection.elements[f].fails) (d : DeviceId) :
    t.isUnguarded d = s.isUnguarded d := by
  unfold Parts.isUnguarded
  simp only [guards, fails]

theorem Parts.Rezones.unguarded (k : s.Rezones t) (d : DeviceId) : t.isUnguarded d = s.isUnguarded d := by
  obtain ⟨es, protection⟩ := k.protection
  refine isUnguarded_congr (by rw [protection]) (fun f => ?_) d
  obtain ⟨z, here, -⟩ := k.element f
  rw [here]
  rfl

/-- A device whose membership is that of its last review. -/
def Parts.guardStands (s : Parts) (d : DeviceId) : Prop := s.protection.unprotected[d] = s.isUnguarded d

theorem Parts.Rezones.stands (k : s.Rezones t) (stands : s.guardStands d) : t.guardStands d := by
  obtain ⟨es, protection⟩ := k.protection
  unfold Parts.guardStands at stands ⊢
  rw [k.unguarded, ← stands, protection]

theorem reviewGuard_stands (d : DeviceId) (s : Parts) : (reviewGuard d s).guardStands d ∧
    ∀ c, s.guardStands c → (reviewGuard d s).guardStands c := by
  obtain ⟨a, form, -⟩ := reviewGuard_form d s
  have same (c : DeviceId) : (reviewGuard d s).isUnguarded c = s.isUnguarded c := by
    rw [form]
    rfl
  have own : (reviewGuard d s).guardStands d := by
    unfold Parts.guardStands
    rw [same, form]
    exact getElem_set_fin_self _ _ _
  refine ⟨own, fun c stands => ?_⟩
  by_cases e : d = c
  · subst e
    exact own
  · unfold Parts.guardStands at stands ⊢
    rw [same, form, ← stands]
    exact getElem_set_fin_ne _ _ _ _ e

/-! ## The LOAD notice (R102, R114) -/

/-- What the lists of an element's settings leave. -/
theorem enlistElement_form (e : ElementId) (x : ElementSettings) (s : Parts) : ∃ ts, enlistElement e x s = { s with
    protection.watch := s.protection.watch.set e (some x.point)
    protection.upstream := s.protection.upstream.set e x.upstream
    protection.testStanding := ts } := by
  unfold enlistElement reviewStanding
  dsimp only
  split
  · split
    · exact ⟨_, rfl⟩
    · exact ⟨_, rfl⟩
  · exact ⟨_, rfl⟩

/-- What the entry of an element leaves of the rest of the unit. -/
structure Parts.Enters (s t : Parts) : Prop where
  store : t.store = s.store
  lanes : t.lanes = s.lanes
  service : t.service = s.service
  guards : t.protection.guards = s.protection.guards
  watch : t.protection.watch = s.protection.watch
  upstream : t.protection.upstream = s.protection.upstream

theorem Parts.Enters.trans (k : r.Enters s) (l : s.Enters t) : r.Enters t :=
  ⟨l.store.trans k.store, l.lanes.trans k.lanes, l.service.trans k.service, l.guards.trans k.guards,
    l.watch.trans k.watch, l.upstream.trans k.upstream⟩

theorem Parts.Enters.refl : s.Enters s := ⟨rfl, rfl, rfl, rfl, rfl, rfl⟩

theorem Parts.Rezones.enters (k : s.Rezones t) : s.Enters t := by
  obtain ⟨es, protection⟩ := k.protection
  exact ⟨k.store, k.lanes, k.service, by rw [protection], by rw [protection], by rw [protection]⟩

theorem setElement_enters (e : ElementId) (x : ElementLive) (s : Parts) : s.Enters (s.setElement e x) := by
  obtain ⟨m, form⟩ := markIf_marks (s := { s with protection.elements := s.protection.elements.set e x })
    (s.protection.elements[e].moved x) (elementIndex e)
  have written : s.setElement e x = { s with protection.elements := s.protection.elements.set e x, attention.changed := m } :=
    form
  rw [written]
  exact ⟨rfl, rfl, rfl, rfl, rfl, rfl⟩

theorem reviewGuard_enters (d : DeviceId) (s : Parts) : s.Enters (reviewGuard d s) ∧
    (reviewGuard d s).protection.elements = s.protection.elements := by
  obtain ⟨a, form, -⟩ := reviewGuard_form d s
  rw [form]
  exact ⟨⟨rfl, rfl, rfl, rfl, rfl, rfl⟩, rfl⟩

/-- The element as it starts under its new settings. -/
def Parts.elementAfresh (s : Parts) (x : ElementSettings) : ElementLive :=
  if s.lanes.points[x.point].status.blinds then
    { ElementLive.initial with state := .blind, blind := .running (x.blindLimit * s.interval) }
  else ElementLive.initial

/-- The stages of a LOAD of an element, from the one in which its lists are new. -/
theorem startBlind_loaded {h : Held ElementSettings} (valid : ∀ (f : ElementId) h, s.store.elements[f] = some h → h.valid)
    (stored : s.store.elements[e] = some h) (idle : s.protection.elements[e] = ElementLive.initial) :
    let u := startBlind e (changeElement e { s.protection.elements[e] with state := .blind } s)
    s.Enters u ∧ u.protection.elements[e] =
      { ElementLive.initial with state := .blind, blind := .running (h.settings.blindLimit * s.interval) } := by
  intro u
  have put := setElement_enters e { s.protection.elements[e] with state := .blind } s
  have change := changeElement_rezones (e := e) valid { s.protection.elements[e] with state := .blind }
  have blind : (s.setElement e { s.protection.elements[e] with state := .blind }).protection.elements[e] =
      { ElementLive.initial with state := .blind } := by
    rw [Parts.setElement_self, idle]
  have entered := put.trans change.enters
  have live := change.still (f := e) (by rw [blind]; nofun) (by rw [blind]; rfl)
  rw [blind] at live
  have changed : u = startBlind e (changeElement e { s.protection.elements[e] with state := .blind } s) := rfl
  generalize changeElement e { s.protection.elements[e] with state := .blind } s = p at entered live changed
  have read : useElement e p = (p, some h.settings) :=
    useElement_valid e h p (by rw [entered.store]; exact stored) (valid e h stored)
  have starts : u = p.setElement e
      { p.protection.elements[e] with blind := .running (h.settings.blindLimit * p.interval) } := by
    rw [changed]
    unfold startBlind
    rw [read, if_pos (by rw [live]; rfl)]
  have interval : p.interval = s.interval := by
    unfold Parts.interval
    rw [entered.service]
  rw [starts]
  exact ⟨entered.trans (setElement_enters ..), by rw [Parts.setElement_self, live, interval]⟩

/-- An element that is loaded with every record VALID. -/
theorem elementLoaded_takes {h : Held ElementSettings} (serving : s.service.inService = true)
    (valid : ∀ (f : ElementId) h, s.store.elements[f] = some h → h.valid) (stored : s.store.elements[e] = some h)
    (oldGuard : Option DeviceId) :
    let x := h.settings
    let u := elementLoaded e oldGuard s
    u.store = s.store ∧ u.protection.guards = s.protection.guards ∧ u.protection.watch[e] = some x.point ∧
      u.protection.upstream[e] = x.upstream ∧ u.protection.elements[e] = s.elementAfresh x ∧
      ∀ d, s.protection.guards[e] = some d ∨ oldGuard = some d → u.guardStands d := by
  intro x u
  obtain ⟨ts, lists⟩ := enlistElement_form e x s
  let p := enlistElement e x s
  have p_form : p = _ := lists
  have p_store : p.store = s.store := by rw [p_form]
  have p_lanes : p.lanes = s.lanes := by rw [p_form]
  have p_service : p.service = s.service := by rw [p_form]
  have p_guards : p.protection.guards = s.protection.guards := by rw [p_form]
  have p_watch : p.protection.watch[e] = some x.point := by rw [p_form]; exact getElem_set_fin_self _ _ _
  have p_upstream : p.protection.upstream[e] = x.upstream := by rw [p_form]; exact getElem_set_fin_self _ _ _
  have all {v : Parts} (k : p.Enters v) (f : ElementId) (h) (at_f : v.store.elements[f] = some h) : h.valid :=
    valid f h (by rw [← p_store, ← k.store]; exact at_f)
  -- the element starts at IDLE, with the upstreams reviewed
  have put := setElement_enters e ElementLive.initial p
  have change := changeElement_rezones (e := e) (all .refl) ElementLive.initial
  have own : (p.setElement e ElementLive.initial).protection.elements[e] = ElementLive.initial := Parts.setElement_self ..
  let q := match s.protection.upstream[e] with
    | some y => reviewZone chainLimit y (changeElement e ElementLive.initial p)
    | none => changeElement e ElementLive.initial p
  have reviewed : (p.setElement e ElementLive.initial).Rezones q := by
    simp only [q]
    split
    · exact change.trans (reviewZone_rezones (all (put.trans change.enters)))
    · exact change
  have q_enters := put.trans reviewed.enters
  have q_live := reviewed.still (f := e) (by rw [own]; nofun) (by rw [own]; rfl)
  rw [own] at q_live
  -- its point may leave it BLIND
  let w := if q.lanes.points[x.point].status.blinds then
    startBlind e (changeElement e { q.protection.elements[e] with state := .blind } q) else q
  have blinds : p.Enters w ∧ w.protection.elements[e] = s.elementAfresh x := by
    have interval : q.interval = s.interval := by
      unfold Parts.interval
      rw [q_enters.service, p_service]
    have status : q.lanes.points[x.point].status = s.lanes.points[x.point].status := by rw [q_enters.lanes, p_lanes]
    by_cases dim : s.lanes.points[x.point].status.blinds = true
    · have starts : w = startBlind e (changeElement e { q.protection.elements[e] with state := .blind } q) :=
        if_pos (by rw [status]; exact dim)
      have afresh : s.elementAfresh x = _ := if_pos dim
      obtain ⟨entered, live⟩ := startBlind_loaded (all q_enters) (by rw [q_enters.store, p_store]; exact stored) q_live
      rw [starts, afresh]
      exact ⟨q_enters.trans entered, live.trans (by rw [interval])⟩
    · have stands : w = q := if_neg (by rw [status]; exact dim)
      have afresh : s.elementAfresh x = _ := if_neg dim
      rw [stands, afresh]
      exact ⟨q_enters, q_live⟩
  obtain ⟨w_enters, w_live⟩ := blinds
  -- both its devices are reviewed, then its new upstream
  let a := match oldGuard with
    | some d => reviewGuard d w
    | none => w
  have old : w.Enters a ∧ a.protection.elements = w.protection.elements ∧ ∀ d, oldGuard = some d → a.guardStands d := by
    simp only [a]
    cases oldGuard with
    | none => exact ⟨.refl, rfl, nofun⟩
    | some d =>
      obtain ⟨entered, same⟩ := reviewGuard_enters d w
      exact ⟨entered, same, fun c e => by cases e; exact (reviewGuard_stands d w).1⟩
  obtain ⟨a_enters, a_same, a_stands⟩ := old
  have new : a.Enters (reviewGuardOf e a) ∧ (reviewGuardOf e a).protection.elements = a.protection.elements ∧
      (∀ d, s.protection.guards[e] = some d → (reviewGuardOf e a).guardStands d) ∧
      ∀ d, a.guardStands d → (reviewGuardOf e a).guardStands d := by
    have guards : a.protection.guards = s.protection.guards := (w_enters.trans a_enters).guards.trans p_guards
    unfold reviewGuardOf
    rw [guards]
    cases s.protection.guards[e] with
    | none => exact ⟨.refl, rfl, nofun, fun _ => id⟩
    | some d =>
      obtain ⟨entered, same⟩ := reviewGuard_enters d a
      exact ⟨entered, same, fun c e => by cases e; exact (reviewGuard_stands d a).1, (reviewGuard_stands d a).2⟩
  obtain ⟨b_enters, b_same, b_new, b_keeps⟩ := new
  have entered := (w_enters.trans a_enters).trans b_enters
  have last := reviewUpstream_rezones (e := e) (all entered)
  have final := entered.trans last.enters
  have loads : u = reviewUpstream e (reviewGuardOf e a) := by
    simp only [u]
    unfold elementLoaded
    rw [serving, stored]
    rfl
  rw [loads]
  have b_live : (reviewGuardOf e a).protection.elements[e] = s.elementAfresh x := by rw [b_same, a_same, w_live]
  have calm : (s.elementAfresh x).state ≠ .pickedUp ∧ (s.elementAfresh x).zone.isRunning = false := by
    unfold Parts.elementAfresh
    split <;> exact ⟨nofun, rfl⟩
  refine ⟨final.store.trans p_store, final.guards.trans p_guards, by rw [final.watch, p_watch],
    by rw [final.upstream, p_upstream], ?_, fun d guard => last.stands ?_⟩
  · rw [last.still (by rw [b_live]; exact calm.1) (by rw [b_live]; exact calm.2), b_live]
  · exact guard.elim (b_new d) fun e => b_keeps d (a_stands d e)

theorem isUnguarded_iff : s.isUnguarded d = true ↔ ∃ f : ElementId, s.protection.guards[f] = some d ∧
    (s.protection.elements[f].state = .damaged ∨ s.protection.elements[f].blind = .ended) := by
  unfold Parts.isUnguarded ElementLive.fails
  simp only [List.any_eq_true, allElements, List.mem_finRange, true_and, Bool.and_eq_true, beq_iff_eq, Bool.or_eq_true]

end

end Sys2Proof.Machine

/-!
PROOF. LOAD in service at each owner (R13).
-/

namespace Sys2Proof.Machine

/-- Settles O15: the owner takes the record that it reads afresh. -/
theorem loadInServiceIsTakenByItsOwner : Obligations.LoadInServiceIsTakenByItsOwner := by
  unfold Obligations.LoadInServiceIsTakenByItsOwner
  intro t ps s live serving loads complete
  refine ⟨fun d x whole read inactive retired others => ?_, fun e x whole read acyclic up resets trips others => ?_,
    fun g x whole read rests => ?_, fun l x whole read restores => ?_, fun x whole read manual => ?_⟩
  · let p := s.parts.putDevice d (some (Held.fresh x))
    have admitted : loadAdmitted (.device d) s.parts = true := by
      change (!s.parts.service.inService || !isActive s.parts.store.devices[d]) = true
      rw [inactive]
      exact Bool.or_true _
    have request := loadRequest_admitted (kind := 4) rfl (congrArg (Option.map RecordName.device) (index?_val d)) whole
      (congrArg (Option.map AnySettings.device) read) (closesCycle_other nofun) admitted
    have own : p.store.devices[d] = some (Held.fresh x) := getElem_set_fin_self _ _ _
    have valid (e : DeviceId) (h : Held DeviceSettings) (at_e : p.store.devices[e] = some h) (_ : h.retired = false) :
        h.valid := by
      by_cases same : d = e
      · subst same
        cases own.symm.trans at_e
        exact ⟨nofun, rfl⟩
      · exact others e h (Ne.symm same) ((getElem_set_fin_ne _ _ _ _ same).symm.trans at_e)
    obtain ⟨store, index, devices, tells⟩ := replaceDevice_rebuilt (s := p) serving d valid
    have active : isActive p.store.devices[d] = true := by
      rw [own]
      rfl
    have placed : p.placedState d = stateOfPosition (s.parts.position d) := if_pos active
    have still : p.isConducting d = false := by
      change s.parts.switching.devices[d].isConducting = false
      unfold DeviceLive.isConducting
      rw [retired]
    change _ = (replaceDevice d (rebuildFor (.device d) p), Status.ok) at request
    generalize replaceDevice d (rebuildFor (.device d) p) = u at request store index devices tells
    refine ⟨u, taking_judges 0x10 t live request, store, fun e => ?_, ?_, fun e ne => ?_, fun seen => tells still ?_⟩
    · rw [index, store]
      rfl
    · rw [devices, placed]
      refine (getElem_set_fin_self _ _ _).trans ?_
      cases s.parts.position d <;> rfl
    · rw [devices]
      exact getElem_set_fin_ne _ _ _ _ (Ne.symm ne)
    · exact placedState_conducting active seen
  · intro status
    let before := s.parts.putElement e (some (Held.fresh x))
    let p : Parts := { before with protection.guards := Vector.ofFn before.guardBy }
    have admitted : loadAdmitted (.element e) s.parts = true := by
      change (!s.parts.service.inService || match s.parts.protection.elements[e].state with
        | .pickedUp | .resetting | .tripped => false
        | _ => true) = true
      rw [serving]
      split
      next h => exact absurd h up
      next h => exact absurd h resets
      next h => exact absurd h trips
      · rfl
    have request := loadRequest_admitted (kind := 6) rfl (congrArg (Option.map RecordName.element) (index?_val e)) whole
      (congrArg (Option.map AnySettings.element) read) acyclic admitted
    have own : before.store.elements[e] = some (Held.fresh x) := getElem_set_fin_self _ _ _
    have valid (f : ElementId) (h : Held ElementSettings) (at_f : before.store.elements[f] = some h) : h.valid := by
      by_cases same : e = f
      · subst same
        cases own.symm.trans at_f
        exact ⟨nofun, rfl⟩
      · exact others f h (Ne.symm same) ((getElem_set_fin_ne _ _ _ _ same).symm.trans at_f)
    have rebuilt : rebuildFor (.element e) before = p := rebuildGuards_valid fun f h at_f _ => valid f h at_f
    have guard : p.protection.guards[e] = some x.guarded := by
      refine (Vector.getElem_ofFn e.isLt).trans ?_
      change (activeSettings before.store.elements[e]).map _ = _
      rw [own]
      rfl
    obtain ⟨store, guards, watch, upstream, element, stands⟩ :=
      elementLoaded_takes (s := p) serving valid own s.parts.protection.guards[e]
    have takes : loadRecord (.element e) (.element x) s.parts = elementLoaded e s.parts.protection.guards[e] p := by
      have put : s.parts.putRecord (.element e) (Held.fresh (.element x)) = before := rfl
      unfold loadRecord
      rw [put, rebuilt]
      rfl
    rw [takes] at request
    generalize elementLoaded e s.parts.protection.guards[e] p = u at request store guards watch upstream element stands
    refine ⟨u, taking_judges 0x10 t live request, store, by rw [guards]; exact guard, watch, upstream, ?_, fun d either => ?_⟩
    · rw [element]
      unfold Parts.elementAfresh
      have dims : p.lanes.points[(Held.fresh x).settings.point].status.blinds = true ↔ status = .none ∨ status = .stale := by
        change status.blinds = true ↔ _
        cases status <;> simp [PointStatus.blinds]
      by_cases dim : status = .none ∨ status = .stale
      · rw [if_pos dim, if_pos (dims.mpr dim)]
        rfl
      · rw [if_neg dim, if_neg (mt dims.mp dim)]
    · have standing := stands d (either.imp (fun e' => by rw [e']; exact guard) id)
      unfold Parts.guardStands at standing
      rw [standing]
      exact isUnguarded_iff
  · intro up fresh
    let p := s.parts.putGenerator g (some (Held.fresh x))
    have admitted : loadAdmitted (.generator g) s.parts = true := by
      change (!s.parts.service.inService || match s.parts.paralleling.generators[g].state with
        | .stopped | .unavailable | .failed => true
        | _ => false) = true
      rw [serving]
      rcases rests with h | h | h <;> rw [h] <;> rfl
    have request := loadRequest_admitted (kind := 3) rfl (congrArg (Option.map RecordName.generator) (index?_val g)) whole
      (congrArg (Option.map AnySettings.generator) read) (closesCycle_other nofun) admitted
    have own : p.store.generators[g] = some (Held.fresh x) := getElem_set_fin_self _ _ _
    have takes : generatorLoaded g p = reviewArbiters (generatorFromDevice g x p) := by
      unfold generatorLoaded
      rw [own]
      exact if_neg (by rw [show p.service.inService = true from serving]; decide)
    change _ = (generatorLoaded g p, Status.ok) at request
    rw [takes] at request
    have store := generatorFromDevice_stores own ⟨nofun, rfl⟩ x
    obtain ⟨down, stopped, runs, online⟩ := generatorFromDevice_takes (s := p) (g := g) x
    generalize generatorFromDevice g x p = u at request store down stopped runs online
    refine ⟨reviewArbiters u, taking_judges 0x10 t live request, store, fun b => ?_, down, stopped, runs, online⟩
    have arbiter : (reviewArbiters u).paralleling.arbiters[b] =
        if isGeneratorBus u b then some ((u.paralleling.arbiters[b]).getD { queue := [], grant := none }) else none :=
      Vector.getElem_ofFn b.isLt
    have judged : isGeneratorBus u b = ((reviewArbiters u).topology.inUse[b] &&
        allGenerators.any fun j => (reviewArbiters u).generatorBus j == some b) := rfl
    rw [arbiter, ← judged]
    cases isGeneratorBus u b <;> rfl
  · intro isl fresh
    let p := s.parts.putBlock l (some (Held.fresh x))
    have admitted : loadAdmitted (.block l) s.parts = true := by
      change (!s.parts.service.inService || s.parts.load.blocks[l].state != .restoring) = true
      rw [bne_iff_ne.mpr restores]
      exact Bool.or_true _
    have request := loadRequest_admitted (kind := 5) rfl (congrArg (Option.map RecordName.block) (index?_val l)) whole
      (congrArg (Option.map AnySettings.block) read) (closesCycle_other nofun) admitted
    have own : p.store.blocks[l] = some (Held.fresh x) := getElem_set_fin_self _ _ _
    obtain ⟨u, takes, -, store, tells⟩ := blockLoaded_reviewed (s := p) serving own
    obtain ⟨held, dark, served⟩ := blockLoaded_takes (s := p) serving own
    change _ = (blockLoaded l p, Status.ok) at request
    rw [takes] at request held dark served
    exact ⟨u, taking_judges 0x10 t live request, store, tells, held, dark, served⟩
  · intro stored
    let p := s.parts.putScheme (some (Held.fresh x))
    have admitted : loadAdmitted .scheme s.parts = true := by
      change (!s.parts.service.inService || s.parts.changeover.mode == .manual) = true
      rw [manual]
      exact Bool.or_true _
    have request := loadRequest_admitted (kind := 8) (index := 0) rfl rfl whole
      (congrArg (Option.map AnySettings.scheme) read) (closesCycle_other nofun) admitted
    have takes := schemeLoaded_valid (s := p) (h := Held.fresh x) serving rfl ⟨nofun, rfl⟩
    change _ = (schemeLoaded p, Status.ok) at request
    rw [takes] at request
    cases first : s.parts.changeover.scheme with
    | some y =>
      have present : p.changeover.scheme.isNone = false := by
        change s.parts.changeover.scheme.isNone = false
        rw [first]
        rfl
      rw [if_neg (by rw [present]; decide)] at request
      exact ⟨_, taking_judges 0x10 t live request, rfl, manual, fun _ => rfl, nofun⟩
    | none =>
      have absent : p.changeover.scheme.isNone = true := by
        change s.parts.changeover.scheme.isNone = true
        rw [first]
        rfl
      rw [if_pos absent] at request
      let q : Parts := { p with changeover.scheme := some x }
      have withdrawn := onSides_sideManual_withdrawn (s := q) manual
      have adjusts := onSides_sideManual_adjusts (Parts.Adjusts.refl (s := q))
      have sole := onSides_sideManual_sole (s := q)
      obtain ⟨-, kept, -, -⟩ := onSides_sideManual_keeps q
      change _ = (onSides sideManual q, Status.ok) at request
      generalize onSides sideManual q = u at request withdrawn adjusts sole kept
      obtain ⟨ds, store⟩ := adjusts.devices
      refine ⟨u, taking_judges 0x10 t live request, kept, withdrawn.mode, nofun, fun _ => ⟨fun i => ?_, ?_, fun h => sole h⟩⟩
      · obtain ⟨y, f, side⟩ := withdrawn.sides i
        rw [side]
        rfl
      · rw [store]
        rfl

end Sys2Proof.Machine

/-!
PROOF. The checks of ENTER SERVICE (R168).
-/

namespace Sys2Proof.Machine

section
variable {s p : Parts} {n : RecordName} {x : Held AnySettings}

/-! ## The records in their order (R1) -/

theorem position_recordAt (i : StoreIndex) : (recordAt i).position = i := by
  obtain ⟨k, bound⟩ := i
  unfold recordAt
  dsimp only
  repeat' split
  all_goals
    refine Fin.ext ?_
    simp only [RecordName.position, stationIndex, busIndex, utilityIndex, generatorIndex, deviceIndex, blockIndex, elementIndex,
      lockoutIndex, schemeIndex, pointIndex]
    omega

theorem allRecords_ascending : allRecords.Pairwise fun m n => m.position < n.position := by
  unfold allRecords
  rw [List.pairwise_map]
  simp only [position_recordAt]
  exact (List.sortedLT_finRange 256).pairwise

/-- The records before one in the order, and those after it. -/
theorem allRecords_split (n : RecordName) : ∃ before after, allRecords = before ++ n :: after ∧
    ∀ m ∈ before, m.position < n.position := by
  obtain ⟨before, after, split⟩ := List.append_of_mem (mem_allRecords n)
  have ascending := allRecords_ascending
  rw [split, List.pairwise_append] at ascending
  exact ⟨before, after, split, fun m here => ascending.2.2 m here n List.mem_cons_self⟩

theorem find?_allRecords {bad : RecordName → Bool} (here : bad n = true)
    (first : ∀ m : RecordName, m.position < n.position → bad m = false) :
    allRecords.find? bad = some n := by
  obtain ⟨before, after, split, lower⟩ := allRecords_split n
  refine List.find?_eq_some_iff_append.mpr ⟨here, before, after, split, fun m mem => ?_⟩
  rw [first m (lower m mem)]
  rfl

/-! ## Check 3 -/

theorem readActive_passes (m : RecordName) (rest : List RecordName)
    (sound : ∀ y, s.record m = some y → y.retired = true ∨ y.valid) : readActive (m :: rest) s = readActive rest s := by
  cases stored : s.record m with
  | none => simp only [readActive, stored]
  | some y =>
    rcases sound y stored with retired | valid
    · simp only [readActive, stored, retired, if_true]
    · cases retired : y.retired with
      | true => simp only [readActive, stored, retired, if_true]
      | false => simp only [readActive, stored, retired, Bool.false_eq_true, if_false, useRecord_valid stored valid]

theorem readActive_append {before : List RecordName} (rest : List RecordName)
    (sound : ∀ m ∈ before, ∀ y, s.record m = some y → y.retired = true ∨ y.valid) :
    readActive (before ++ rest) s = readActive rest s := by
  induction before with
  | nil => rfl
  | cons m before ih =>
    rw [List.cons_append, readActive_passes m _ (sound m List.mem_cons_self)]
    exact ih fun k mem => sound k (List.mem_cons_of_mem m mem)

theorem readActive_fails (stored : s.record n = some x) (active : x.retired = false) (read : useRecord n s = (p, none))
    (sound : ∀ (m : RecordName) y, m.position < n.position → s.record m = some y → y.retired = true ∨ y.valid) :
    readActive allRecords s = (p, some n) := by
  obtain ⟨before, after, split, lower⟩ := allRecords_split n
  rw [split, readActive_append _ fun m mem y => sound m y (lower m mem)]
  simp only [readActive, stored, active, Bool.false_eq_true, if_false, read]

theorem readActive_sound (sound : ∀ n x, s.record n = some x → x.retired = false → x.valid) :
    readActive allRecords s = (s, none) := by
  have all := readActive_append (s := s) (before := allRecords) [] fun m _ y stored => by
    cases retired : y.retired with
    | true => exact .inl rfl
    | false => exact .inr (sound m y stored retired)
  rw [List.append_nil] at all
  exact all

theorem useRecord_damaged (stored : s.record n = some x) (damaged : x.integrity = .damaged) : useRecord n s = (s, none) := by
  unfold useRecord
  rw [stored, useHeld_damaged x _ _ _ s damaged]

/-- No fallback puts the part in or out of service. -/
theorem damageNotice_serving (configuring : s.service.inService = false) (n : RecordName) :
    (damageNotice n s).service.inService = false := by
  cases n with
  | utility u =>
    change (utilityDamaged u s).service.inService = false
    cases own : s.changeover.utilities[u].settings with
    | none =>
      rw [utilityDamaged_idle own]
      exact configuring
    | some y =>
      obtain ⟨k, -⟩ := utilityDamaged_takes (s := s) (u := u) (by rw [own]; rfl)
      exact k.serving.trans configuring
  | element e =>
    have idle : s.damageActs e = false := by
      unfold Parts.damageActs
      rw [configuring, Bool.false_and]
    change (elementDamaged e s).service.inService = false
    rw [elementDamaged_idle idle]
    exact configuring
  | station => exact (damageNotice_adjusts (n := .station) nofun nofun).serving.trans configuring
  | bus b => exact (damageNotice_adjusts (n := .bus b) nofun nofun).serving.trans configuring
  | generator g => exact (damageNotice_adjusts (n := .generator g) nofun nofun).serving.trans configuring
  | device d => exact (damageNotice_adjusts (n := .device d) nofun nofun).serving.trans configuring
  | block l => exact (damageNotice_adjusts (n := .block l) nofun nofun).serving.trans configuring
  | lockout l => exact (damageNotice_adjusts (n := .lockout l) nofun nofun).serving.trans configuring
  | scheme => exact (damageNotice_adjusts (n := .scheme) nofun nofun).serving.trans configuring
  | point q => exact (damageNotice_adjusts (n := .point q) nofun nofun).serving.trans configuring

/-! ## The six checks -/

theorem judgeEntry_serving (serving : s.service.inService = true) : judgeEntry s = (s, some ⟨.state, 1, 0⟩) :=
  if_pos serving

section
variable (configuring : s.service.inService = false)
include configuring

theorem judgeEntry_stationless (none_ : isActive s.store.station = false) : judgeEntry s = (s, some ⟨.state, 2, 0⟩) := by
  unfold judgeEntry
  rw [if_neg (by rw [configuring]; decide), if_pos (by rw [none_]; rfl)]

theorem judgeEntry_damaged (active : isActive s.store.station = true) (damaged : isDamaged s.store.station = true) :
    judgeEntry s = (s, some ⟨.damaged, 2, 0⟩) := by
  unfold judgeEntry
  rw [if_neg (by rw [configuring]; decide), if_neg (by rw [active]; decide), if_pos damaged]

section
variable (active : isActive s.store.station = true) (intact : isDamaged s.store.station = false)
include active intact

theorem judgeEntry_unsound (read : readActive allRecords s = (p, some n)) :
    judgeEntry s = (p, some ⟨.damaged, 3, n.position⟩) := by
  unfold judgeEntry
  rw [if_neg (by rw [configuring]; decide), if_neg (by rw [active]; decide), if_neg (by rw [intact]; decide), read]

theorem judgeEntry_sound (read : readActive allRecords s = (s, none)) : judgeEntry s = (s, judgeReferences s) := by
  unfold judgeEntry
  rw [if_neg (by rw [configuring]; decide), if_neg (by rw [active]; decide), if_neg (by rw [intact]; decide), read]

end

end

theorem enterRequest_fails {f : FailedCheck} (judged : judgeEntry s = (p, some f)) :
    enterRequest s = (p, f.status, [byte f.number, byte f.concerned.val]) := by
  unfold enterRequest
  rw [judged]

theorem enterRequest_passes {t : StationSettings} (judged : judgeEntry s = (s, none)) (station : settingsOf s.store.station = some t) :
    enterRequest s = (enterParts t s, .ok, []) := by
  unfold enterRequest
  rw [judged]
  dsimp only
  rw [station]

end

end Sys2Proof.Machine

/-!
PROOF. The parts taken into service one position after another (R169): the points, the devices and the Map.
-/

namespace Sys2Proof.Machine

/-- A fold over the positions of a vector writes each of them once, beside a rest `b` that it may move. -/
theorem foldl_puts {α β : Type} {n : Nat} (put : Vector α n → β → Parts) {f : Parts → Fin n → Parts}
    (writes : Fin n → α → Prop) (rests : β → Prop) (v₀ : Vector α n)
    (step : ∀ v b i, rests b → (∀ j : Fin n, v[j] = v₀[j] ∨ writes j v[j]) →
      ∃ x b', f (put v b) i = put (v.set i x) b' ∧ rests b' ∧ writes i x) {b : β} (rest : rests b) :
    ∃ v b', (List.finRange n).foldl f (put v₀ b) = put v b' ∧ rests b' ∧ ∀ i : Fin n, writes i v[i] := by
  have fold (l : List (Fin n)) (v : Vector α n) (b : β) (rest : rests b) (so : ∀ j : Fin n, v[j] = v₀[j] ∨ writes j v[j]) :
      ∃ v' b', l.foldl f (put v b) = put v' b' ∧ rests b' ∧ (∀ j : Fin n, v'[j] = v₀[j] ∨ writes j v'[j]) ∧
        ∀ i : Fin n, i ∈ l ∨ writes i v[i] → writes i v'[i] := by
    induction l generalizing v b with
    | nil => exact ⟨v, b, rfl, rest, so, fun i h => h.resolve_left List.not_mem_nil⟩
    | cons i l ih =>
      obtain ⟨x, b', one, rest', written⟩ := step v b i rest so
      have stands (j : Fin n) (h : j = i ∨ writes j v[j]) : writes j (v.set i x)[j] := by
        by_cases same : j = i
        · subst same
          rw [getElem_set_fin_self]
          exact written
        · rw [getElem_set_fin_ne _ _ _ _ fun e => same e.symm]
          exact h.resolve_left same
      obtain ⟨v', b'', all, rest'', so', done⟩ := ih (v.set i x) b' rest' fun j => by
        by_cases same : j = i
        · exact .inr (stands j (.inl same))
        · rw [getElem_set_fin_ne _ _ _ _ fun e => same e.symm]
          exact so j
      refine ⟨v', b'', by rw [List.foldl_cons, one, all], rest'', so', fun j h => done j ?_⟩
      rcases h with mem | was
      · rcases List.mem_cons.mp mem with here | later
        · exact .inr (stands j (.inl here))
        · exact .inl later
      · exact .inr (stands j (.inr was))
  obtain ⟨v, b', all, rest', -, done⟩ := fold (List.finRange n) v₀ b rest fun j => .inl rfl
  exact ⟨v, b', all, rest', fun i => done i (.inl (List.mem_finRange i))⟩

section
variable {s : Parts}

/-! ## The lanes and points (R71, R78) -/

theorem kindAtEntry_eq (s : Parts) (q : PointId) :
    s.kindAtEntry q = (activeSettings s.store.points[q]).map PointSettings.kind := by
  unfold Parts.kindAtEntry activeSettings
  split
  · rfl
  · rfl

theorem setPoint_form (q : PointId) (x : PointLive) (s : Parts) : ∃ m, s.setPoint q x = { s with
    lanes.points := s.lanes.points.set q x, attention.changed := m } := markIf_marks _ _ _

theorem enterLanes_form (t : StationSettings) (s : Parts) : ∃ points m, enterLanes t s = { s with
      lanes.lanes := t.lanes.map laneAtEntry, lanes.testCount := 0, lanes.points := points, attention.changed := m } ∧
    ∀ q : PointId, points[q] = { PointLive.initial (entryFrequency (some t)) with
      kind := (activeSettings s.store.points[q]).map PointSettings.kind } := by
  obtain ⟨points, m, fold, -, all⟩ := foldl_puts
    (fun points m => { s with
      lanes.lanes := t.lanes.map laneAtEntry, lanes.testCount := 0, lanes.points := points, attention.changed := m })
    (f := enterPoint (entryFrequency (some t)))
    (fun q x => x = { PointLive.initial (entryFrequency (some t)) with
      kind := (activeSettings s.store.points[q]).map PointSettings.kind })
    (fun _ => True) s.lanes.points
    (fun points m q _ _ => by
      obtain ⟨m', form⟩ := setPoint_form q { PointLive.initial (entryFrequency (some t)) with kind := s.kindAtEntry q } { s with
        lanes.lanes := t.lanes.map laneAtEntry, lanes.testCount := 0, lanes.points := points, attention.changed := m }
      exact ⟨_, m', form, trivial, by rw [kindAtEntry_eq]⟩)
    (b := s.attention.changed) trivial
  exact ⟨points, m, fold, all⟩

/-! ## The devices (R18) -/

theorem enterDevices_form (s : Parts) : ∃ devices a, enterDevices s = { s with
      switching.devices := devices, attention := a } ∧
    ∀ d : DeviceId, devices[d] = s.switching.devices[d].placed (s.placedState d) := by
  obtain ⟨devices, a, fold, -, all⟩ := foldl_puts
    (fun devices a => { s with switching.devices := devices, attention := a }) (f := fun s d => placeDevice d s)
    (fun d x => x = s.switching.devices[d].placed (s.placedState d)) (fun _ => True) s.switching.devices
    (fun devices a d _ so => by
      have pattern : devices[d].pattern = s.switching.devices[d].pattern := by
        rcases so d with same | placed
        · rw [same]
        · rw [placed]; rfl
      obtain ⟨a', form⟩ := placeDevice_form d { s with switching.devices := devices, attention := a }
      refine ⟨_, a', form, trivial, ?_⟩
      unfold DeviceLive.placed Parts.placedState Parts.position
      dsimp only
      rw [pattern])
    (b := s.attention) trivial
  exact ⟨devices, a, fold, all⟩

end

end Sys2Proof.Machine

/-!
PROOF. The Map at ENTER SERVICE (R46, R48 to R50, R169): no bus has a class and no source is live, so every island is RESIDUAL.
-/

namespace Sys2Proof.Machine

section
variable {s t : Parts}

/-- What the islands are computed from. -/
structure Parts.SameIslands (s t : Parts) : Prop where
  inUse : t.topology.inUse = s.topology.inUse
  index : t.topology.index = s.topology.index
  conducting : t.topology.conducting = s.topology.conducting
  classes : t.topology.classes = s.topology.classes
  utilities : ∀ u, t.utilityLive u = s.utilityLive u
  generators : ∀ g, t.generatorLive g = s.generatorLive g
  online : ∀ g, t.isOnline g = s.isOnline g

theorem Parts.SameIslands.islands (k : s.SameIslands t) : computeIslands t = computeIslands s := by
  obtain ⟨inUse, index, conducting, classes, utilities, generators, online⟩ := k
  have labels : labelsOf t = labelsOf s := by
    unfold labelsOf
    refine congrArg (fun f => allDevices.foldl f (Vector.ofFn id)) (funext fun ls => funext fun d => ?_)
    unfold joinDevice
    rw [inUse, index, conducting]
  have reach (ms : List BusId) (b : TerminalB) : reaches t ms b = reaches s ms b := by
    unfold reaches
    rw [index, conducting]
  have members (b : BusId) : membersOf t (labelsOf s) b = membersOf s (labelsOf s) b := by
    unfold membersOf
    rw [inUse]
  have record (b : BusId) (ms : List BusId) : islandRecord t b ms = islandRecord s b ms := by
    unfold islandRecord energisationOf kindOfSources
    simp only [reach, classes, funext utilities, funext generators, funext online]
  unfold computeIslands
  simp only [labels, members, record, inUse]

/-- Where no bus has a class and nothing is live, an island is RESIDUAL. -/
theorem computeIslands_residual (classes : ∀ b : BusId, s.topology.classes[b] = .none) (utilities : ∀ u, s.utilityLive u = false)
    (generators : ∀ g, s.generatorLive g = false) {i : Island} (mem : i ∈ computeIslands s) : i.energisation = .residual := by
  obtain ⟨b, used, label, rfl⟩ := mem_computeIslands.mp mem
  have here : b ∈ membersOf s (labelsOf s) b := mem_membersOf.mpr ⟨used, label⟩
  change energisationOf s _ _ _ = .residual
  unfold energisationOf
  have high (ms : List BusId) : (ms.any fun b => s.topology.classes[b] == .high) = false :=
    List.any_eq_false.mpr fun c _ => by rw [classes c]; decide
  have low : ((membersOf s (labelsOf s) b).all fun c => s.topology.classes[c] == .low) = false :=
    List.all_eq_false.mpr ⟨b, here, by rw [classes b]; decide⟩
  have noUtility (us : List UtilityId) : us.any s.utilityLive = false :=
    List.any_eq_false.mpr fun u _ => by rw [utilities u]; decide
  have noGenerator (gs : List GeneratorId) : gs.any s.generatorLive = false :=
    List.any_eq_false.mpr fun g _ => by rw [generators g]; decide
  rw [high, low, noUtility, noGenerator]
  rfl

theorem classOf_none (silent : ∀ q : PointId, s.lanes.points[q].status ≠ .fresh) (b : BusId) : s.classOf b = .none := by
  unfold Parts.classOf
  repeat' split
  next => rfl
  next fresh => exact absurd fresh (silent _)
  next => rfl
  next => rfl

/-- The Map at entry, from points that have reported nothing. -/
theorem enterTopology_form (silent : ∀ q : PointId, s.lanes.points[q].status ≠ .fresh) :
    ∃ map, enterTopology s = { s with topology := map } ∧ map.inUse = s.store.buses.map isActive ∧
      map.index = s.topology.index ∧ (∀ d : DeviceId, map.conducting[d] = s.isConducting d) ∧
      (∀ b : BusId, map.classes[b] = .none) ∧ map.islands = computeIslands { s with topology := map } := by
  let before : Parts := takeAllConducting { s with
    topology.inUse := s.store.buses.map isActive
    topology.points := s.store.buses.map fun r => (activeSettings r).bind BusSettings.point
    topology.damaged := Vector.replicate 8 false }
  let classed : Parts := { before with topology.classes := Vector.ofFn before.classOf }
  refine ⟨{ classed.topology with islands := computeIslands classed }, rfl, rfl, rfl, fun d => Vector.getElem_ofFn _,
    fun b => (Vector.getElem_ofFn _).trans (classOf_none (s := before) silent b), ?_⟩
  have same : classed.SameIslands { s with topology := { classed.topology with islands := computeIslands classed } } :=
    ⟨rfl, rfl, rfl, rfl, fun _ => rfl, fun _ => rfl, fun _ => rfl⟩
  exact same.islands.symm

/-! ## The lockouts and the scrub (R62, R169) -/

theorem enterLockouts_form (serving : s.service.inService = true) (free : s.service.hold = HoldSet.empty) :
    ∃ flags, enterLockouts s = { s with
      service.hold := { HoldSet.empty with lockoutPending := !s.lockouts.pending.isEmpty }, attention.flags := flags } := by
  unfold enterLockouts
  cases s.lockouts.pending.isEmpty with
  | true =>
    refine ⟨s.attention.flags, ?_⟩
    rw [if_pos rfl, Bool.not_true, show ({ HoldSet.empty with lockoutPending := false } : HoldSet) = HoldSet.empty from rfl, ← free]
  | false =>
    refine ⟨s.attention.flags.raise .hold, ?_⟩
    rw [if_neg Bool.false_ne_true]
    unfold Parts.addHold
    rw [serving, free]
    rfl

end

end Sys2Proof.Machine

/-!
PROOF. The scheme taken into service (R123, R126, R169): each side takes the state derived from its devices as they are seen.
-/

namespace Sys2Proof.Machine

/-- The state of a side at ENTER SERVICE by the positions of its incomer, the tie and its generator tie, and of the other
side's incomer. -/
def sideAtEntry (incomer tie generatorTie other : Position) : SideState :=
  match incomer, tie, generatorTie with
  | .open, .open, .closed => .onGen
  | .open, .open, .open => .awaitSource
  | .open, .closed, .open => if other = .closed then .onTie else .manual
  | _, _, _ => .manual

section
variable {s : Parts} {i : SideId} {y : SchemeSettings} {st : SideState}

theorem withdrawOf_unset (i : SideId) (s : Parts) : withdrawOf i .unset s = s := rfl

theorem retransfer_unqualified (h : s.ownUtility i ≠ .qualified) : retransfer i s = s := if_neg fun c => h c.1

/-- A side entered from UNSET. -/
theorem enterSide_unset (unset : (s.side i).state = .unset) (st : SideState) : ∃ x ns a, enterSide i st s = { s with
      changeover.sides := s.changeover.sides.set i x, changeover.claim := claimed i st s.changeover.claim
      notices := ns, attention := a } ∧ x.state = st := by
  obtain ⟨ns, m, form⟩ := enterSide_form i st s
  rw [unset, withdrawOf_unset] at form
  exact ⟨_, ns, _, form, rfl⟩

/-- A side takes a derived state where its own utility is not QUALIFIED, and goes no further. -/
theorem takeDerivedState_unset (unset : (s.side i).state = .unset) (unqualified : s.ownUtility i ≠ .qualified)
    (st : SideState) : ∃ x ns a, takeDerivedState i st s = { s with
      changeover.sides := s.changeover.sides.set i x, changeover.claim := claimed i st s.changeover.claim
      notices := ns, attention := a } ∧ x.state = st := by
  obtain ⟨x, ns, a, form, state⟩ := enterSide_unset unset st
  have entered : takeDerivedState i st s = enterSide i st s ∨ takeDerivedState i st s = retransfer i (enterSide i st s) ∨
      takeDerivedState i st s = retransfer i (putSupply i true (enterSide i st s)) := by
    unfold takeDerivedState enterAlternate
    split
    · exact .inr (.inr rfl)
    · exact .inr (.inl rfl)
    · exact .inl rfl
  rw [form] at entered
  generalize takeDerivedState i st s = t at entered ⊢
  obtain ⟨ns', supply⟩ := putSupply_form i true { s with
    changeover.sides := s.changeover.sides.set i x, changeover.claim := claimed i st s.changeover.claim
    notices := ns, attention := a }
  rw [supply] at entered
  have side : Parts.side { s with
      changeover.sides := s.changeover.sides.set i x, changeover.claim := claimed i st s.changeover.claim
      notices := ns, attention := a } i = x := getElem_set_fin_self _ _ _
  rcases entered with e | e | e
  · exact ⟨x, ns, a, e, state⟩
  · exact ⟨x, ns, a, e.trans (retransfer_unqualified unqualified), state⟩
  · have written : (s.changeover.sides.set i x).set i { x with supply := true } =
        s.changeover.sides.set i { x with supply := true } := Vector.set_set ..
    rw [side] at e
    refine ⟨{ x with supply := true }, ns', a, ?_, state⟩
    rw [e, ← written]
    exact retransfer_unqualified unqualified

theorem deriveSide_entry {incomer tie generatorTie other : Position}
    (own : derivedState s (s.sideIncomer i) = stateOfPosition incomer) (joint : derivedState s s.sideTie = stateOfPosition tie)
    (generator : derivedState s (s.sideGeneratorTie i) = stateOfPosition generatorTie)
    (far : derivedState s (s.sideIncomer (otherSide i)) = stateOfPosition other) (dead : (s.ownUtility i).isLive = false)
    (free : incomer = .open → other = .closed → s.changeover.claim = none) :
    deriveSide s i = sideAtEntry incomer tie generatorTie other := by
  have closed : stateOfPosition other = .closed ↔ other = .closed := by cases other <;> decide
  unfold deriveSide
  rw [own, joint, generator, far, dead]
  simp only [closed]
  cases incomer with
  | closed => cases tie <;> cases generatorTie <;> rfl
  | travel => rfl
  | disagree => rfl
  | _ =>
    have claim : (other = .closed ∧ (s.changeover.claim = none ∨ s.changeover.claim = some i)) ↔ other = .closed :=
      ⟨And.left, fun h => ⟨h, .inl (free rfl h)⟩⟩
    simp only [claim]
    cases tie <;> cases generatorTie <;> rfl

theorem sideAtEntry_claims {incomer tie generatorTie other : Position}
    (claims : (sideAtEntry incomer tie generatorTie other).claims = true) : other = .closed := by
  unfold sideAtEntry at claims
  split at claims
  · cases claims
  · cases claims
  · split at claims
    next closed => exact closed
    next => cases claims
  · cases claims

/-! ## The two sides -/

/-- What the derivation sees as a scheme enters service. -/
structure Parts.SeesScheme (s : Parts) (y : SchemeSettings) (seen : DeviceId → Position) : Prop where
  scheme : s.changeover.scheme = some y
  unknown : ∀ u : UtilityId, s.changeover.utilities[u].qualification = .unknown
  incomer : ∀ i : SideId, derivedState s (some y.sides[i].incomer) = stateOfPosition (seen y.sides[i].incomer)
  generatorTie : ∀ (i : SideId) d, y.sides[i].generatorTie = some d → derivedState s (some d) = stateOfPosition (seen d)
  tie : ∀ d, y.tie = some d → derivedState s (some d) = stateOfPosition (seen d)

/-- The state a side of the scheme enters in. -/
def schemeSideAtEntry (y : SchemeSettings) (seen : DeviceId → Position) (i : SideId) : SideState :=
  sideAtEntry (seen y.sides[i].incomer) (y.tie.elim .open seen) (y.sides[i].generatorTie.elim .open seen)
    (seen y.sides[otherSide i].incomer)

section
variable {seen : DeviceId → Position}

theorem Parts.SeesScheme.own (k : s.SeesScheme y seen) (i : SideId) : s.ownUtility i = .unknown := by
  unfold Parts.ownUtility Parts.sideSettings
  rw [k.scheme]
  exact k.unknown _

theorem derivedState_shown {d : Option DeviceId} (h : ∀ e, d = some e → derivedState s (some e) = stateOfPosition (seen e)) :
    derivedState s d = stateOfPosition (d.elim .open seen) := by
  cases d with
  | none => rfl
  | some e => exact h e rfl

theorem Parts.SeesScheme.derives (k : s.SeesScheme y seen)
    (free : seen y.sides[i].incomer = .open → seen y.sides[otherSide i].incomer = .closed → s.changeover.claim = none) :
    deriveSide s i = schemeSideAtEntry y seen i := by
  have settings (j : SideId) : s.sideSettings j = some y.sides[j] := by rw [Parts.sideSettings, k.scheme]; rfl
  have incomer (j : SideId) : s.sideIncomer j = some y.sides[j].incomer := by rw [Parts.sideIncomer, settings]; rfl
  have generatorTie : s.sideGeneratorTie i = y.sides[i].generatorTie := by rw [Parts.sideGeneratorTie, settings]; rfl
  have tie : s.sideTie = y.tie := by rw [Parts.sideTie, k.scheme]; rfl
  refine deriveSide_entry ?_ ?_ ?_ ?_ (by rw [k.own]; rfl) free
  · rw [incomer]
    exact k.incomer i
  · rw [tie]
    exact derivedState_shown k.tie
  · rw [generatorTie]
    exact derivedState_shown (k.generatorTie i)
  · rw [incomer]
    exact k.incomer _

/-- One side takes its state, and tells the other. -/
theorem onSide_takeDerived_unset (k : s.SeesScheme y seen) (unset : (s.side i).state = .unset)
    (free : seen y.sides[i].incomer = .open → seen y.sides[otherSide i].incomer = .closed → s.changeover.claim = none) :
    ∃ x ns a, onSide i (takeDerived i) s = { s with
        changeover.sides := s.changeover.sides.set i x
        changeover.claim := claimed i (schemeSideAtEntry y seen i) s.changeover.claim
        notices := ns, attention := a } ∧ x.state = schemeSideAtEntry y seen i := by
  obtain ⟨x, ns, a, form, state⟩ := takeDerivedState_unset unset (by rw [k.own]; decide) (deriveSide s i)
  rw [k.derives free] at form state
  obtain ⟨ns', told⟩ := onSide_form i (takeDerived i) s
  have taken : takeDerived i s = takeDerivedState i (schemeSideAtEntry y seen i) s := by
    unfold takeDerived
    rw [k.derives free]
  exact ⟨x, ns', a, by rw [told, taken, form], state⟩

/-- Both sides take their states: the first takes the claim only where its neighbour is fed by its own incomer. -/
theorem onSides_takeDerived_unset (k : s.SeesScheme y seen) (unset : ∀ i, (s.side i).state = .unset)
    (claim : s.changeover.claim = none) : ∃ sides c ns a, onSides takeDerived s = { s with
        changeover.sides := sides, changeover.claim := c, notices := ns, attention := a } ∧
      ∀ i : SideId, sides[i].state = schemeSideAtEntry y seen i := by
  obtain ⟨x, ns, a, first, state⟩ := onSide_takeDerived_unset (i := 0) k (unset 0) fun _ _ => claim
  have kept : ({ s with
      changeover.sides := s.changeover.sides.set (0 : SideId) x
      changeover.claim := claimed 0 (schemeSideAtEntry y seen 0) s.changeover.claim
      notices := ns, attention := a } : Parts).SeesScheme y seen := ⟨k.scheme, k.unknown, k.incomer, k.generatorTie, k.tie⟩
  have free : seen y.sides[(1 : SideId)].incomer = .open →
      claimed 0 (schemeSideAtEntry y seen 0) s.changeover.claim = none := fun opened => by
    have plain : (schemeSideAtEntry y seen 0).claims = false := by
      refine Bool.eq_false_iff.mpr fun claims => ?_
      have closed : seen y.sides[(1 : SideId)].incomer = .closed := sideAtEntry_claims claims
      rw [opened] at closed
      cases closed
    unfold claimed
    rw [plain, claim]
    rfl
  obtain ⟨z, ns', a', second, state'⟩ := onSide_takeDerived_unset (i := 1) kept
    ((congrArg SideLive.state (getElem_set_fin_ne _ _ _ _ (by decide))).trans (unset 1)) fun opened _ => free opened
  refine ⟨(s.changeover.sides.set (0 : SideId) x).set (1 : SideId) z,
    claimed 1 (schemeSideAtEntry y seen 1) (claimed 0 (schemeSideAtEntry y seen 0) s.changeover.claim), ns', a', ?_,
    fun i => ?_⟩
  · rw [onSides_eq, first]
    exact second
  · rcases side_cases i with rfl | rfl
    · rw [getElem_set_fin_ne _ _ _ _ (by decide), getElem_set_fin_self]
      exact state
    · rw [getElem_set_fin_self]
      exact state'

end

/-! ## The scheme's devices (R168) -/

theorem joinsBuses_active {d : DeviceId} {a b : BusId} (h : joinsBuses s d a b = true) : isActive s.store.devices[d] = true := by
  unfold joinsBuses at h
  cases active : isActive s.store.devices[d] with
  | true => rfl
  | false =>
    rw [show activeSettings s.store.devices[d] = none from if_neg (by rw [active]; decide)] at h
    cases h

theorem sideConsistent_active {x : SideSettings} (h : sideConsistent s y x = true) :
    isActive s.store.devices[x.incomer] = true ∧ ∀ d, x.generatorTie = some d → isActive s.store.devices[d] = true := by
  unfold sideConsistent at h
  rw [Bool.and_eq_true, Bool.and_eq_true] at h
  obtain ⟨⟨-, incomer⟩, tie⟩ := h
  refine ⟨?_, fun d named => ?_⟩
  · cases active : isActive s.store.devices[x.incomer] with
    | true => rfl
    | false =>
      rw [show activeSettings s.store.devices[x.incomer] = none from if_neg (by rw [active]; decide)] at incomer
      cases incomer
  · rw [named] at tie
    cases bus : y.generatorBus with
    | none =>
      rw [bus] at tie
      cases tie
    | some b =>
      rw [bus] at tie
      exact joinsBuses_active tie

theorem schemeConsistent_active (h : schemeConsistent s y = true) :
    (∀ i : SideId, isActive s.store.devices[y.sides[i].incomer] = true ∧
      ∀ d, y.sides[i].generatorTie = some d → isActive s.store.devices[d] = true) ∧
    ∀ d, y.tie = some d → isActive s.store.devices[d] = true := by
  unfold schemeConsistent at h
  rw [Bool.and_eq_true, Bool.and_eq_true, Bool.and_eq_true] at h
  obtain ⟨⟨⟨first, second⟩, -⟩, tie⟩ := h
  refine ⟨fun i => ?_, fun d named => ?_⟩
  · rcases side_cases i with rfl | rfl
    · exact sideConsistent_active first
    · exact sideConsistent_active second
  · rw [named] at tie
    exact joinsBuses_active tie

theorem derivedState_placed {d : DeviceId} {q : Position} (placed : s.switching.devices[d].state = stateOfPosition q) :
    derivedState s (some d) = stateOfPosition q := by
  unfold derivedState
  dsimp only
  rw [placed, if_neg (by cases q <;> decide)]

/-- The scheme taken into service, with its devices where they are seen. -/
theorem enterScheme_form {seen : DeviceId → Position} (active : activeSettings s.store.scheme = some y)
    (sound : schemeConsistent s y = true)
    (placed : ∀ d : DeviceId, isActive s.store.devices[d] = true → s.switching.devices[d].state = stateOfPosition (seen d))
    (unknown : ∀ u : UtilityId, s.changeover.utilities[u].qualification = .unknown) (unset : ∀ i, (s.side i).state = .unset)
    (claim : s.changeover.claim = none) : ∃ sides c ns a, enterScheme s = { s with
        changeover.scheme := some y, changeover.mode := .auto, changeover.sides := sides, changeover.claim := c
        notices := ns, attention := a } ∧ ∀ i : SideId, sides[i].state = schemeSideAtEntry y seen i := by
  obtain ⟨sides, tie⟩ := schemeConsistent_active sound
  have stands : isActive s.store.scheme = true ∧ settingsOf s.store.scheme = some y := by
    unfold activeSettings at active
    split at active
    next h => exact ⟨h, active⟩
    next => cases active
  have form : enterScheme s =
      onSides takeDerived { s with changeover.scheme := settingsOf s.store.scheme, changeover.mode := .auto } := if_pos stands.1
  rw [stands.2] at form
  rw [form]
  exact onSides_takeDerived_unset ⟨rfl, unknown, fun i => derivedState_placed (placed _ (sides i).1),
    fun i d named => derivedState_placed (placed d ((sides i).2 d named)), fun d named => derivedState_placed (placed d (tie d named))⟩
    unset claim

theorem enterScheme_none (none_ : activeSettings s.store.scheme = none) : enterScheme s = s := by
  refine if_neg fun active => ?_
  unfold activeSettings at none_
  rw [if_pos active] at none_
  cases stored : s.store.scheme with
  | none => rw [stored] at active; cases active
  | some h => rw [stored] at none_; cases none_

end

end Sys2Proof.Machine

/-!
PROOF. The generators taken into service (R139, R143, R169): every lane is still down, so every generator is UNAVAILABLE and
none is started.
-/

namespace Sys2Proof.Machine

section
variable {s t : Parts} {g : GeneratorId}

/-! ## What a command leaves of the lanes (R82) -/

/-- The lanes in their states and with their counts. -/
def LanesStand (ls ms : Vector LaneLive 16) : Prop := ∀ l : LaneId, ms[l].counts = ls[l].counts ∧ ms[l].state = ls[l].state

theorem LanesStand.refl (ls : Vector LaneLive 16) : LanesStand ls ls := fun _ => ⟨rfl, rfl⟩

theorem LanesStand.trans {a b c : Vector LaneLive 16} (h : LanesStand a b) (k : LanesStand b c) : LanesStand a c :=
  fun l => ⟨(k l).1.trans (h l).1, (k l).2.trans (h l).2⟩

theorem lanesStand_set {ls : Vector LaneLive 16} {f : LaneId} {x : LaneLive} (counts : x.counts = ls[f].counts)
    (state : x.state = ls[f].state) : LanesStand ls (ls.set f x) := fun l => by
  by_cases same : f = l
  · subst same
    rw [getElem_set_fin_self]
    exact ⟨counts, state⟩
  · rw [getElem_set_fin_ne _ _ _ _ same]
    exact ⟨rfl, rfl⟩

theorem offerContent_form (f : LaneId) (y : Content) (s : Parts) :
    ∃ ls, offerContent f y s = { s with lanes.lanes := ls } ∧ LanesStand s.lanes.lanes ls := by
  unfold offerContent
  dsimp only
  split
  · exact ⟨_, rfl, .refl _⟩
  · split
    · exact ⟨_, rfl, lanesStand_set rfl rfl⟩
    · exact ⟨_, rfl, lanesStand_set rfl rfl⟩

theorem sendCommand_form (g : GeneratorId) (s : Parts) :
    ∃ ls, sendCommand g s = { s with lanes.lanes := ls } ∧ LanesStand s.lanes.lanes ls := by
  unfold sendCommand
  split
  · exact offerContent_form _ _ s
  · exact ⟨_, rfl, .refl _⟩

theorem setGenerator_lanes (g : GeneratorId) (x : GeneratorLive) (s : Parts) :
    LanesStand s.lanes.lanes (setGenerator g x s).lanes.lanes := by
  have recomputed (c : Prop) [Decidable c] (u : Parts) : (if c then recompute u else u).lanes = u.lanes := by
    split
    · obtain ⟨is, ns, form⟩ := recompute_form u
      rw [form]
    · rfl
  have sent (c : Prop) [Decidable c] (n : Notice) (u : Parts) : (if c then u.send n else u).lanes = u.lanes := by
    split <;> rfl
  have commanded (c : Prop) [Decidable c] (u : Parts) :
      LanesStand u.lanes.lanes (if c then sendCommand g u else u).lanes.lanes := by
    split
    · obtain ⟨ls, form, stands⟩ := sendCommand_form g u
      rw [form]
      exact stands
    · exact .refl _
  unfold setGenerator writeGenerator
  dsimp only
  generalize (if x.state.shares then x else { x with target := 0, sequence := none }) = z
  obtain ⟨m, marked⟩ := markIf_marks ((s.gen g).shown != z.shown) (generatorIndex g)
    { s with paralleling.generators := s.paralleling.generators.set g z }
  rw [marked, sent]
  refine LanesStand.trans ?_ (commanded _ _)
  rw [sent, recomputed]
  exact .refl _

/-! ## One generator (R139) -/

/-- A generator as it enters service with its lane down. -/
def Parts.generatorAtEntry (s : Parts) (g : GeneratorId) : GeneratorLive := { GeneratorLive.initial with
  state := .unavailable, settings := activeSettings s.store.generators[g]
  run := match activeSettings s.store.generators[g] with
    | some y => if s.isConducting y.device then .run else .stop
    | none => .stop }

/-- A generator that stands at rest is written UNAVAILABLE with no notice. -/
theorem setGenerator_unavailable {x : GeneratorLive} (state : x.state = .unavailable) (kept : x.kept = x)
    (still : (s.gen g).state.isRunning = false) (alone : (s.gen g).state.shares = false) : ∃ ls m, setGenerator g x s = { s with
      paralleling.generators := s.paralleling.generators.set g x, lanes.lanes := ls, attention.changed := m } ∧
    LanesStand s.lanes.lanes ls := by
  obtain ⟨ls, m, form⟩ := setGenerator_quiet (s := s) (g := g) (x := x)
    (generatorLive_put (.inr ⟨still, by rw [kept, state]; rfl⟩)) (.inr ⟨alone, by rw [state]; rfl⟩)
  rw [kept] at form
  have stands := setGenerator_lanes g x s
  rw [form] at stands ⊢
  exact ⟨ls, m, rfl, stands⟩

theorem enterGenerator_down (down : ∀ l : LaneId, s.lanes.lanes[l].state ≠ .up) (still : (s.gen g).state.isRunning = false)
    (alone : (s.gen g).state.shares = false) : ∃ ls m, enterGenerator s g = { s with
      paralleling.generators := s.paralleling.generators.set g (s.generatorAtEntry g)
      lanes.lanes := ls, attention.changed := m } ∧ LanesStand s.lanes.lanes ls := by
  unfold enterGenerator Parts.generatorAtEntry
  cases active : activeSettings s.store.generators[g] with
  | none =>
    dsimp only
    exact setGenerator_unavailable rfl rfl still alone
  | some y =>
    dsimp only
    have copied : (takeCopy g y s).gen g = { s.gen g with settings := some y } := getElem_set_fin_self _ _ _
    have lane : (takeCopy g y s).laneUp g = false := (laneUp_takeCopy g y s).trans (beq_eq_false_iff_ne.mpr (down _))
    have placed (r : RunCommand) : ∃ ls m, setGenerator g { generatorAfresh y with state := .unavailable, run := r }
        (takeCopy g y s) = { s with
          paralleling.generators := s.paralleling.generators.set g { generatorAfresh y with state := .unavailable, run := r }
          lanes.lanes := ls, attention.changed := m } ∧ LanesStand s.lanes.lanes ls := by
      obtain ⟨ls, m, form, stands⟩ := setGenerator_unavailable (s := takeCopy g y s) (g := g)
        (x := { generatorAfresh y with state := .unavailable, run := r }) rfl rfl (by rw [copied]; exact still)
        (by rw [copied]; exact alone)
      refine ⟨ls, m, ?_, stands⟩
      have written (x : GeneratorLive) : (takeCopy g y s).paralleling.generators.set g x = s.paralleling.generators.set g x :=
        Vector.set_set ..
      rw [form, written]
      rfl
    unfold generatorFromDevice
    dsimp only
    change ∃ ls m, (if (!s.isConducting y.device) = true then
        restFrom (generatorAfresh y) g (takeCopy g y s)
      else if (takeCopy g y s).laneUp g = true then onlineFrom (generatorAfresh y) g (takeCopy g y s)
      else setGenerator g { generatorAfresh y with state := .unavailable, run := .run } (takeCopy g y s)) = _ ∧ _
    cases conducting : s.isConducting y.device with
    | false =>
      rw [Bool.not_false, if_pos rfl, restFrom_down lane, if_neg Bool.false_ne_true]
      exact placed .stop
    | true =>
      rw [Bool.not_true, if_neg Bool.false_ne_true, if_neg (by rw [lane]; decide), if_pos rfl]
      exact placed .run

/-! ## All of them -/

theorem startWanted_idle (none_ : ∀ g, (s.gen g).state ≠ .stopped) : startWanted s = s := by
  have fold (l : List GeneratorId) : l.foldl (fun s g =>
      if (s.gen g).state = .stopped ∧ (s.gen g).mark ≠ .held then startGenerator g s else s) s = s := by
    induction l with
    | nil => rfl
    | cons g l ih =>
      rw [List.foldl_cons, if_neg fun c => none_ g c.1]
      exact ih
  unfold startWanted
  rw [fold, ite_self]

theorem foldl_sendCommand_form (l : List GeneratorId) (s : Parts) :
    ∃ ls, l.foldl (fun s g => if (s.gen g).run = .stop then sendCommand g s else s) s = { s with lanes.lanes := ls } ∧
      LanesStand s.lanes.lanes ls := by
  induction l generalizing s with
  | nil => exact ⟨_, rfl, .refl _⟩
  | cons g l ih =>
    rw [List.foldl_cons]
    obtain ⟨ls, one, stands⟩ : ∃ ls, (if (s.gen g).run = .stop then sendCommand g s else s) = { s with lanes.lanes := ls } ∧
        LanesStand s.lanes.lanes ls := by
      split
      · exact sendCommand_form g s
      · exact ⟨_, rfl, .refl _⟩
    rw [one]
    obtain ⟨ms, rest, stands'⟩ := ih { s with lanes.lanes := ls }
    exact ⟨ms, rest, stands.trans stands'⟩

theorem enterParalleling_form (down : ∀ l : LaneId, s.lanes.lanes[l].state ≠ .up) :
    ∃ unit ls m, enterParalleling s = { s with paralleling := unit, lanes.lanes := ls, attention.changed := m } ∧
      LanesStand s.lanes.lanes ls ∧ ∀ g : GeneratorId, unit.generators[g] = s.generatorAtEntry g := by
  obtain ⟨gs, ⟨ls, m⟩, fold, stands, all⟩ := foldl_puts
    (fun gs (b : Vector LaneLive 16 × Vector Bool 256) => { s with
      paralleling := { ParallelingUnit.initial with generators := gs }, lanes.lanes := b.1, attention.changed := b.2 })
    (f := enterGenerator) (fun g x => x = s.generatorAtEntry g) (fun b => LanesStand s.lanes.lanes b.1)
    ParallelingUnit.initial.generators
    (fun gs b g stands so => by
      have was : gs[g].state = .unset ∨ gs[g].state = .unavailable := by
        rcases so g with same | written
        · exact .inl (by rw [same]; exact congrArg GeneratorLive.state (Vector.getElem_replicate _))
        · exact .inr (by rw [written]; rfl)
      obtain ⟨ls, m, form, stands'⟩ := enterGenerator_down (g := g) (s := { s with
          paralleling := { ParallelingUnit.initial with generators := gs }, lanes.lanes := b.1, attention.changed := b.2 })
        (fun l => by rw [(stands l).2]; exact down l)
        (by rcases was with e | e <;> exact (congrArg GeneratorState.isRunning e).trans rfl)
        (by rcases was with e | e <;> exact (congrArg GeneratorState.shares e).trans rfl)
      exact ⟨_, (ls, m), form, stands.trans stands', rfl⟩)
    (b := (s.lanes.lanes, s.attention.changed)) (.refl _)
  let entered : Parts := { s with
    paralleling := { ParallelingUnit.initial with generators := gs }, lanes.lanes := ls, attention.changed := m }
  let arbitrated : Parts := reviewArbiters { entered with paralleling.supplySeen := entered.supplyWanted }
  obtain ⟨ms, sent, stands'⟩ := foldl_sendCommand_form allGenerators arbitrated
  have form : enterParalleling s = startWanted
      (allGenerators.foldl (fun s g => if (s.gen g).run = .stop then sendCommand g s else s) arbitrated) := by
    unfold enterParalleling
    dsimp only
    rw [show allGenerators.foldl enterGenerator { s with paralleling := ParallelingUnit.initial } = entered from fold]
  refine ⟨arbitrated.paralleling, ms, m, ?_, stands.trans stands', all⟩
  rw [form, sent]
  exact startWanted_idle fun g stopped => by
    rw [show Parts.gen { arbitrated with lanes.lanes := ms } g = s.generatorAtEntry g from all g] at stopped
    cases stopped

end

end Sys2Proof.Machine

/-!
PROOF. The blocks and the elements taken into service (R86, R155, R169).
-/

namespace Sys2Proof.Machine

section
variable {s : Parts}

theorem activeSettings_inactive {α : Type} {r : Option (Held α)} (h : isActive r = false) : activeSettings r = none :=
  if_neg (by rw [h]; decide)

theorem isActive_of_none {α : Type} {r : Option (Held α)} (h : activeSettings r = none) : isActive r = false := by
  cases r with
  | none => rfl
  | some x =>
    cases retired : x.retired with
    | true => rw [isActive_some, retired]; rfl
    | false => rw [activeSettings_active retired] at h; cases h

theorem isActive_of_settings {α : Type} {r : Option (Held α)} {y : α} (h : activeSettings r = some y) :
    ∃ x, r = some x ∧ x.retired = false ∧ x.settings = y := by
  cases r with
  | none => cases h
  | some x =>
    cases retired : x.retired with
    | true => rw [activeSettings_retired retired] at h; cases h
    | false =>
      rw [activeSettings_active retired] at h
      exact ⟨x, rfl, retired, Option.some.inj h⟩

/-! ## The blocks (R155) -/

/-- What a block with an ACTIVE record is by its feeder. -/
def Parts.BlockAtFeeder (s : Parts) (y : BlockSettings) (x : BlockLive) : Prop :=
  x.settings = some y ∧ x.demand = some y.demandFloor ∧ (s.isConducting y.feeder = false → x.state = .held) ∧
    (s.isConducting y.feeder = true → (∀ i ∈ s.topology.islands, i.energisation ≠ .live) → x.state = .dark)

theorem islandOfDevice_mem {d : DeviceId} {i : Island} (h : s.islandOfDevice d = some i) : i ∈ s.topology.islands := by
  obtain ⟨b, -, found⟩ := Option.bind_eq_some_iff.mp h
  exact List.mem_of_find?_eq_some found

theorem blockFromFeeder_entry (l : BlockId) (y : BlockSettings) (s : Parts) : ∃ v n m, blockFromFeeder l y s = { s with
    load.blocks := s.load.blocks.set l v, load.servedCounter := n, attention.changed := m } ∧ s.BlockAtFeeder y v := by
  have form : blockFromFeeder l y s = if (!s.isConducting y.feeder) = true then
      s.setBlock l { s.blockAfresh y with state := .held }
    else if ((s.islandOfDevice y.feeder).any fun i => i.energisation == .live) = true then
      Parts.setBlock { s with load.servedCounter := s.load.servedCounter + 1 } l
        { s.blockAfresh y with state := .served, servedSequence := some (s.load.servedCounter + 1) }
    else s.setBlock l { s.blockAfresh y with state := .dark } := rfl
  rw [form]
  cases conducting : s.isConducting y.feeder with
  | false =>
    rw [Bool.not_false, if_pos rfl]
    obtain ⟨m, put⟩ := setBlock_form s l { s.blockAfresh y with state := .held }
    exact ⟨_, _, m, put, rfl, rfl, fun _ => rfl, fun on => by rw [conducting] at on; cases on⟩
  | true =>
    rw [Bool.not_true, if_neg Bool.false_ne_true]
    have off {st : BlockState} (h : s.isConducting y.feeder = false) : st = .held := by rw [conducting] at h; cases h
    split
    next lit =>
      obtain ⟨m, put⟩ := setBlock_form { s with load.servedCounter := s.load.servedCounter + 1 } l
        { s.blockAfresh y with state := .served, servedSequence := some (s.load.servedCounter + 1) }
      obtain ⟨i, found, live⟩ := Option.any_eq_true .. |>.mp lit
      exact ⟨_, _, m, put, rfl, rfl, off, fun _ unlit => absurd (beq_iff_eq.mp live) (unlit i (islandOfDevice_mem found))⟩
    next =>
      obtain ⟨m, put⟩ := setBlock_form s l { s.blockAfresh y with state := .dark }
      exact ⟨_, _, m, put, rfl, rfl, off, fun _ _ => rfl⟩

/-- What a block position is at entry. -/
def Parts.BlockAtEntry (s : Parts) (l : BlockId) (x : BlockLive) : Prop :=
  (activeSettings s.store.blocks[l] = none → x.settings = none ∧ x.state = .retired) ∧
    ∀ y, activeSettings s.store.blocks[l] = some y → s.BlockAtFeeder y x

theorem enterBlock_form (l : BlockId) (s : Parts) : ∃ v n m, enterBlock s l = { s with
    load.blocks := s.load.blocks.set l v, load.servedCounter := n, attention.changed := m } ∧ s.BlockAtEntry l v := by
  have retires : ∃ n m, s.setBlock l { BlockLive.initial with state := .retired } = { s with
      load.blocks := s.load.blocks.set l { BlockLive.initial with state := .retired }
      load.servedCounter := n, attention.changed := m } := by
    obtain ⟨m, put⟩ := setBlock_form s l { BlockLive.initial with state := .retired }
    exact ⟨_, m, put⟩
  obtain ⟨n, m, retired_⟩ := retires
  unfold enterBlock Parts.BlockAtEntry
  cases stored : s.store.blocks[l] with
  | none => exact ⟨_, n, m, retired_, fun _ => ⟨rfl, rfl⟩, nofun⟩
  | some h =>
    dsimp only
    cases retired : h.retired with
    | true =>
      rw [if_pos rfl, activeSettings_retired retired]
      exact ⟨_, n, m, retired_, fun _ => ⟨rfl, rfl⟩, nofun⟩
    | false =>
      rw [if_neg Bool.false_ne_true, activeSettings_active retired]
      obtain ⟨v, n, m, form, facts⟩ := blockFromFeeder_entry l h.settings s
      exact ⟨v, n, m, form, nofun, fun y same => Option.some.inj same ▸ facts⟩

theorem enterLoads_form (s : Parts) : ∃ unit m, enterLoads s = { s with load := unit, attention.changed := m } ∧
    ∀ l : BlockId, s.BlockAtEntry l unit.blocks[l] := by
  obtain ⟨blocks, ⟨n, m⟩, fold, -, all⟩ := foldl_puts
    (fun blocks (b : Nat × Vector Bool 256) => { s with
      load := { LoadUnit.initial with blocks := blocks, servedCounter := b.1 }, attention.changed := b.2 })
    (f := enterBlock) s.BlockAtEntry (fun _ => True) LoadUnit.initial.blocks
    (fun blocks b l _ _ => by
      obtain ⟨v, n, m, form, facts⟩ := enterBlock_form l { s with
        load := { LoadUnit.initial with blocks := blocks, servedCounter := b.1 }, attention.changed := b.2 }
      exact ⟨v, (n, m), form, trivial, facts⟩)
    (b := (LoadUnit.initial.servedCounter, s.attention.changed)) trivial
  refine ⟨_, m, congrArg keepBalances fold, all⟩

/-! ## The elements (R86, R99) -/

theorem setElement_form (e : ElementId) (x : ElementLive) (s : Parts) : ∃ m, s.setElement e x = { s with
    protection.elements := s.protection.elements.set e x, attention.changed := m } := markIf_marks _ _ _

/-- An element as it enters service, BLIND under its blind timer or DISABLED. -/
def Parts.elementAtEntry (s : Parts) (e : ElementId) : ElementLive :=
  match activeSettings s.store.elements[e] with
  | some y => { ElementLive.initial with state := .blind, blind := .running (y.blindLimit * s.interval) }
  | none => { ElementLive.initial with state := .disabled }

theorem startBlind_runs {e : ElementId} {h : Held ElementSettings} (stopped : s.protection.elements[e].blind = .stopped)
    (stored : s.store.elements[e] = some h) (valid : h.valid) : startBlind e s =
      s.setElement e { s.protection.elements[e] with blind := .running (h.settings.blindLimit * s.interval) } := by
  unfold startBlind
  rw [if_pos stopped, useElement_valid e h s stored valid]

theorem enterElement_form (valid : ∀ (e : ElementId) h, s.store.elements[e] = some h → h.retired = false → h.valid)
    (e : ElementId) : ∃ w m, enterElement s e = { s with
      protection.elements := s.protection.elements.set e (s.elementAtEntry e), protection.watch := w
      attention.changed := m } := by
  unfold enterElement Parts.elementAtEntry
  cases active : activeSettings s.store.elements[e] with
  | none =>
    rw [if_neg fun on => by rw [isActive_of_none active] at on; cases on]
    obtain ⟨m, put⟩ := setElement_form e { ElementLive.initial with state := .disabled } s
    exact ⟨s.protection.watch, m, put⟩
  | some y =>
    obtain ⟨h, stored, live, rfl⟩ := isActive_of_settings active
    rw [if_pos (by rw [stored, isActive_some, live]; rfl)]
    dsimp only
    generalize s.protection.watch.set e _ = w
    obtain ⟨m, put⟩ := setElement_form e { ElementLive.initial with state := .blind } { s with protection.watch := w }
    rw [put]
    have here : (s.protection.elements.set e { ElementLive.initial with state := .blind })[e] =
      { ElementLive.initial with state := .blind } := getElem_set_fin_self _ _ _
    have runs := startBlind_runs (e := e) (h := h) (s := { s with
        protection.elements := s.protection.elements.set e { ElementLive.initial with state := .blind }
        protection.watch := w, attention.changed := m })
      (congrArg ElementLive.blind here) stored (valid e h stored live)
    rw [runs]
    dsimp only
    rw [here]
    obtain ⟨m', put'⟩ := setElement_form e
      { ElementLive.initial with state := .blind, blind := .running (h.settings.blindLimit * s.interval) } { s with
        protection.elements := s.protection.elements.set e { ElementLive.initial with state := .blind }
        protection.watch := w, attention.changed := m }
    refine ⟨w, m', put'.trans ?_⟩
    dsimp only
    rw [Vector.set_set]

theorem enterProtection_form (valid : ∀ (e : ElementId) h, s.store.elements[e] = some h → h.retired = false → h.valid) :
    ∃ unit m, enterProtection s = { s with protection := unit, attention.changed := m } ∧
      ∀ e : ElementId, unit.elements[e] = s.elementAtEntry e := by
  let unit : ProtectionUnit := { ProtectionUnit.initial s.protection.guards with lastFailure := none }
  obtain ⟨elements, ⟨w, m⟩, fold, -, all⟩ := foldl_puts
    (fun elements (b : Vector (Option PointId) 64 × Vector Bool 256) => { s with
      protection := { unit with elements := elements, watch := b.1 }, attention.changed := b.2 })
    (f := enterElement) (fun e x => x = s.elementAtEntry e) (fun _ => True) unit.elements
    (fun elements b e _ _ => by
      obtain ⟨w, m, form⟩ := enterElement_form (s := { s with
        protection := { unit with elements := elements, watch := b.1 }, attention.changed := b.2 }) valid e
      exact ⟨_, (w, m), form, trivial, rfl⟩)
    (b := (unit.watch, s.attention.changed)) trivial
  let entered : Parts := { s with
    protection := { unit with elements := elements, watch := w }, attention.changed := m }
  refine ⟨{ entered.protection with upstream := Vector.ofFn entered.upstreamOf }, m, ?_, all⟩
  unfold enterProtection
  dsimp only
  generalize folded : allElements.foldl enterElement _ = u
  have same : u = entered := folded.symm.trans fold
  rw [same]

end

end Sys2Proof.Machine

/-!
PROOF. The steps of ENTER SERVICE put together (R169): the state of the part after the Map, and after its units.
-/

namespace Sys2Proof.Machine

section
variable {s : Parts} {t : StationSettings}

/-! ## Up to the Map -/

/-- The part in service with its utilities, and with devices, a Map, lanes, guards and attention as given. -/
def Parts.mapped (s : Parts) (t : StationSettings) (devices : Vector DeviceLive 48) (map : TopologyMap) (lanes : LaneInterface)
    (guards : Vector (Option DeviceId) 64) (a : Attention) : Parts :=
  { s with
    service := { inService := true, hold := HoldSet.empty, station := some t }
    switching.devices := devices, topology := map, lanes := lanes, protection.guards := guards
    changeover := { ChangeoverUnit.initial with utilities := s.store.utilities.map utilityAtEntry }
    attention := a }

theorem placed_isConducting (d : DeviceId) (s : Parts) :
    (s.switching.devices[d].placed (s.placedState d)).isConducting =
      (isActive s.store.devices[d] && s.position d != .open) := by
  cases active : isActive s.store.devices[d] with
  | false =>
    have retired : s.placedState d = .retired := if_neg (by rw [active]; decide)
    rw [retired]
    rfl
  | true =>
    by_cases seen : s.position d = .open
    · have state : s.placedState d = .open := (if_pos active).trans (by rw [seen]; rfl)
      rw [state, seen]
      exact bne_eq_false_iff_eq.mpr seen
    · rw [placedState_conducting active seen, bne_iff_ne.mpr seen]
      rfl

/-- What holds of the devices and the lanes once they are taken into service. -/
structure Parts.Placed (s : Parts) (t : StationSettings) (ds : Vector DeviceLive 48) (li : LaneInterface) : Prop where
  devices : ∀ d : DeviceId, ds[d] = s.switching.devices[d].placed (s.placedState d)
  lanes : li.lanes = t.lanes.map laneAtEntry
  testCount : li.testCount = 0
  points : ∀ q : PointId, li.points[q] = { PointLive.initial (entryFrequency (some t)) with
    kind := (activeSettings s.store.points[q]).map PointSettings.kind }

/-- The Map with the index, and the guards, by the records alone. -/
def Parts.indexed (s : Parts) : TopologyMap := { s.topology with index := Vector.ofFn s.entryBy }
def Parts.guarded (s : Parts) : Vector (Option DeviceId) 64 := Vector.ofFn s.guardBy

theorem rebuildIndices_form (devicesValid : ∀ (d : DeviceId) h, s.store.devices[d] = some h → h.retired = false → h.valid)
    (elementsValid : ∀ (e : ElementId) h, s.store.elements[e] = some h → h.retired = false → h.valid) :
    rebuildGuards (rebuildIndex s) = { s with topology := s.indexed, protection.guards := s.guarded } := by
  have index : rebuildIndex s = { s with topology := s.indexed } := rebuildIndex_valid devicesValid
  rw [index]
  generalize s.indexed = map
  have guards : rebuildGuards { s with topology := map } = { s with
      topology := map, protection.guards := Parts.guarded { s with topology := map } } :=
    rebuildGuards_valid (s := { s with topology := map }) elementsValid
  exact guards

theorem enterPlaces_form (u : Parts) : ∃ ds li a, enterDevices (enterUtilities (enterLanes t u)) = { u with
      switching.devices := ds, lanes := li, attention := a
      changeover := { ChangeoverUnit.initial with utilities := u.store.utilities.map utilityAtEntry } } ∧
    u.Placed t ds li := by
  obtain ⟨points, m, lanes, pointsAt⟩ := enterLanes_form t u
  rw [lanes]
  obtain ⟨ds, a, placed, devicesAt⟩ := enterDevices_form (enterUtilities { u with
    lanes.lanes := t.lanes.map laneAtEntry, lanes.testCount := 0, lanes.points := points, attention.changed := m })
  rw [placed]
  exact ⟨ds, ⟨t.lanes.map laneAtEntry, points, 0⟩, a, rfl, devicesAt, rfl, rfl, pointsAt⟩

/-- What holds of the Map once it is taken into service. -/
structure Parts.Mapped (s : Parts) (t : StationSettings) (ds : Vector DeviceLive 48) (map : TopologyMap)
    (li : LaneInterface) (gs : Vector (Option DeviceId) 64) (a : Attention) : Prop where
  inUse : map.inUse = s.store.buses.map isActive
  index : ∀ d : DeviceId, map.index[d] = s.entryBy d
  conducting : ∀ d : DeviceId, map.conducting[d] = (isActive s.store.devices[d] && s.position d != .open)
  classes : ∀ b : BusId, map.classes[b] = .none
  islands : map.islands = computeIslands (s.mapped t ds map li gs a)

theorem enterMap_form (devicesValid : ∀ (d : DeviceId) h, s.store.devices[d] = some h → h.retired = false → h.valid)
    (elementsValid : ∀ (e : ElementId) h, s.store.elements[e] = some h → h.retired = false → h.valid) :
    ∃ ds map li gs a,
      enterTopology (enterDevices (enterUtilities (enterLanes t (rebuildGuards (rebuildIndex (enterStation t s)))))) =
        s.mapped t ds map li gs a ∧ s.Placed t ds li ∧ s.Mapped t ds map li gs a := by
  have indices := rebuildIndices_form (s := enterStation t s) devicesValid elementsValid
  have index : (enterStation t s).indexed = s.indexed := rfl
  have indexAt (d : DeviceId) : s.indexed.index[d] = s.entryBy d := Vector.getElem_ofFn _
  rw [index] at indices
  rw [indices]
  generalize s.indexed = ix at indexAt ⊢
  generalize (enterStation t s).guarded = gs
  obtain ⟨ds, li, a, form, placed⟩ := enterPlaces_form (t := t)
    { enterStation t s with topology := ix, protection.guards := gs }
  have here : s.Placed t ds li := ⟨placed.devices, placed.lanes, placed.testCount, placed.points⟩
  have stands : enterDevices (enterUtilities (enterLanes t
      { enterStation t s with topology := ix, protection.guards := gs })) = s.mapped t ds ix li gs a := form
  rw [stands]
  obtain ⟨map, mapped, inUse, index, conducting, classes, islands⟩ :=
    enterTopology_form (s := s.mapped t ds ix li gs a) fun q fresh => by
      have status : li.points[q].status = .none := congrArg PointLive.status (here.points q)
      cases status.symm.trans fresh
  refine ⟨ds, map, li, gs, a, mapped, here, inUse, fun d => ?_, fun d => ?_, classes, islands⟩
  · rw [index]
    exact indexAt d
  · rw [conducting d]
    exact (congrArg DeviceLive.isConducting (here.devices d)).trans (placed_isConducting d s)

/-! ## The units -/

theorem enterScheme_writes {seen : DeviceId → Position}
    (sound : ∀ y, activeSettings s.store.scheme = some y → schemeConsistent s y = true)
    (placed : ∀ d : DeviceId, isActive s.store.devices[d] = true → s.switching.devices[d].state = stateOfPosition (seen d))
    (fresh : s.changeover = { ChangeoverUnit.initial with utilities := s.store.utilities.map utilityAtEntry }) :
    ∃ unit ns a, enterScheme s = { s with changeover := unit, notices := ns, attention := a } ∧
      unit.utilities = s.changeover.utilities ∧
      (activeSettings s.store.scheme = none → unit = s.changeover) ∧
      ∀ y, activeSettings s.store.scheme = some y → unit.scheme = some y ∧ unit.mode = .auto ∧
        ∀ i : SideId, unit.sides[i].state = schemeSideAtEntry y seen i := by
  cases active : activeSettings s.store.scheme with
  | none => exact ⟨s.changeover, s.notices, s.attention, enterScheme_none active, rfl, fun _ => rfl, nofun⟩
  | some y =>
    have unknown (u : UtilityId) : s.changeover.utilities[u].qualification = .unknown := by
      have here : s.changeover.utilities[u] = utilityAtEntry s.store.utilities[u] := by
        rw [fresh]
        exact Vector.getElem_map ..
      rw [here]
      unfold utilityAtEntry
      split <;> rfl
    have side (i : SideId) : s.changeover.sides[i] = SideLive.initial := by
      rw [fresh]
      exact Vector.getElem_replicate ..
    obtain ⟨sides, c, ns, a, form, states⟩ := enterScheme_form active (sound y active) placed unknown
      (fun i => congrArg SideLive.state (side i)) (by rw [fresh]; rfl)
    exact ⟨_, ns, a, form, rfl, nofun, fun z same => by
      cases same
      exact ⟨rfl, rfl, states⟩⟩

end

end Sys2Proof.Machine

/-!
PROOF. The state that ENTER SERVICE leaves (R169), in the terms of the records and the devices as they are seen.
-/

namespace Sys2Proof.Machine

section
variable {s u : Parts} {t : StationSettings}

/-- What the units are once they are taken into service. -/
structure Parts.UnitsEntered (u : Parts) (seen : DeviceId → Position) (c : ChangeoverUnit) (pu : ParallelingUnit)
    (ls : Vector LaneLive 16) (lu : LoadUnit) (pr : ProtectionUnit) : Prop where
  utilities : c.utilities = u.changeover.utilities
  schemeless : activeSettings u.store.scheme = none → c = u.changeover
  scheme : ∀ y, activeSettings u.store.scheme = some y → c.scheme = some y ∧ c.mode = .auto ∧
    ∀ i : SideId, c.sides[i].state = schemeSideAtEntry y seen i
  lanes : LanesStand u.lanes.lanes ls
  generators : ∀ g : GeneratorId, pu.generators[g] = u.generatorAtEntry g
  blocks : ∀ l : BlockId, u.BlockAtEntry l lu.blocks[l]
  elements : ∀ e : ElementId, pr.elements[e] = u.elementAtEntry e

theorem enterUnits_form {seen : DeviceId → Position}
    (valid : ∀ (e : ElementId) h, u.store.elements[e] = some h → h.retired = false → h.valid)
    (sound : ∀ y, activeSettings u.store.scheme = some y → schemeConsistent u y = true)
    (placed : ∀ d : DeviceId, isActive u.store.devices[d] = true → u.switching.devices[d].state = stateOfPosition (seen d))
    (fresh : u.changeover = { ChangeoverUnit.initial with utilities := u.store.utilities.map utilityAtEntry })
    (down : ∀ l : LaneId, u.lanes.lanes[l].state ≠ .up) :
    ∃ c pu ls lu pr ns a, enterProtection (enterLoads (enterParalleling (enterScheme u))) = { u with
        changeover := c, paralleling := pu, lanes.lanes := ls, load := lu, protection := pr, notices := ns, attention := a } ∧
      u.UnitsEntered seen c pu ls lu pr := by
  obtain ⟨c, ns, a, scheme, utilities, schemeless, withScheme⟩ := enterScheme_writes sound placed fresh
  rw [scheme]
  obtain ⟨pu, ls, m, paralleling, lanes, generators⟩ :=
    enterParalleling_form (s := { u with changeover := c, notices := ns, attention := a }) down
  rw [paralleling]
  obtain ⟨lu, m', loads, blocks⟩ := enterLoads_form { u with
    changeover := c, paralleling := pu, lanes.lanes := ls, notices := ns, attention.flags := a.flags, attention.changed := m }
  obtain ⟨pr, m'', protection, elements⟩ := enterProtection_form (s := { u with
    changeover := c, paralleling := pu, lanes.lanes := ls, load := lu, notices := ns
    attention.flags := a.flags, attention.changed := m' }) valid
  rw [loads]
  have generators' : ∀ g : GeneratorId, pu.generators[g] = u.generatorAtEntry g := generators
  have blocks' : ∀ l : BlockId, u.BlockAtEntry l lu.blocks[l] := blocks
  have elements' : ∀ e : ElementId, pr.elements[e] = u.elementAtEntry e := elements
  have lanes' : LanesStand u.lanes.lanes ls := lanes
  rw [protection]
  exact ⟨c, pu, ls, lu, pr, ns, ⟨a.flags, m''⟩, rfl, utilities, schemeless, withScheme, lanes', generators', blocks', elements'⟩

/-- What ENTER SERVICE leaves in place or starts beside its units. -/
theorem enterParts_form {seen : DeviceId → Position} (position : ∀ d, seen d = s.position d)
    (devicesValid : ∀ (d : DeviceId) h, s.store.devices[d] = some h → h.retired = false → h.valid)
    (elementsValid : ∀ (e : ElementId) h, s.store.elements[e] = some h → h.retired = false → h.valid)
    (sound : ∀ y, activeSettings s.store.scheme = some y → schemeConsistent s y = true) :
    ∃ ds map li gs a c pu ls lu pr ns a', enterParts t s = { s.mapped t ds map li gs a with
        store.scrubPosition := 0, store.scrubTimer := .running (scrubInterval t)
        service.hold := { HoldSet.empty with lockoutPending := !s.lockouts.pending.isEmpty }
        changeover := c, paralleling := pu, lanes.lanes := ls, load := lu, protection := pr, notices := ns, attention := a' } ∧
      s.Placed t ds li ∧ s.Mapped t ds map li gs a ∧ (s.mapped t ds map li gs a).UnitsEntered seen c pu ls lu pr := by
  obtain ⟨ds, map, li, gs, a, form, placed, mapped⟩ := enterMap_form (t := t) devicesValid elementsValid
  have states (d : DeviceId) (active : isActive s.store.devices[d] = true) : ds[d].state = stateOfPosition (seen d) := by
    rw [placed.devices d, position d]
    exact if_pos active
  have down (l : LaneId) : li.lanes[l].state ≠ .up := by
    have lane : li.lanes[l] = laneAtEntry t.lanes[l] := by
      rw [placed.lanes]
      exact Vector.getElem_map ..
    rw [lane]
    change (if t.lanes[l].enabled = true then LaneState.down else LaneState.disabled) ≠ .up
    split
    · decide
    · decide
  obtain ⟨c, pu, ls, lu, pr, ns, a', units, entered⟩ :=
    enterUnits_form (u := s.mapped t ds map li gs a) elementsValid sound states rfl down
  let v : Parts := { s.mapped t ds map li gs a with
    changeover := c, paralleling := pu, lanes.lanes := ls, load := lu, protection := pr, notices := ns, attention := a' }
  obtain ⟨flags, locked⟩ := enterLockouts_form (s := v) rfl rfl
  refine ⟨ds, map, li, gs, a, c, pu, ls, lu, pr, ns, { a' with flags := flags }, ?_, placed, mapped, entered⟩
  unfold enterParts
  dsimp only
  rw [form, units, show enterLockouts _ = _ from locked]
  rfl

end

end Sys2Proof.Machine

/-!
PROOF. Each part as ENTER SERVICE leaves it (R169).
-/

namespace Sys2Proof.Machine

section
variable {s : Parts} {t : StationSettings} {ds : Vector DeviceLive 48} {map : TopologyMap} {li : LaneInterface}
  {gs : Vector (Option DeviceId) 64} {a : Attention} {c : ChangeoverUnit} {pu : ParallelingUnit} {ls : Vector LaneLive 16}
  {lu : LoadUnit} {pr : ProtectionUnit} {seen : DeviceId → Position}

/-! ## What the references of check 4 say (R168) -/

theorem consistent_scheme (sound : consistent s .scheme = true) {y : SchemeSettings}
    (active : activeSettings s.store.scheme = some y) : schemeConsistent s y = true := by
  change (activeSettings s.store.scheme).all (schemeConsistent s) = true at sound
  rw [active] at sound
  exact sound

theorem isActive_of_any {α : Type} {r : Option (Held α)} {p : α → Bool} (h : (activeSettings r).any p = true) :
    isActive r = true := by
  cases active : isActive r with
  | true => rfl
  | false =>
    rw [activeSettings_inactive active] at h
    cases h

theorem consistent_generator {g : GeneratorId} (sound : consistent s (.generator g) = true) {y : GeneratorSettings}
    (active : activeSettings s.store.generators[g] = some y) : isActive s.store.devices[y.device] = true := by
  change (activeSettings s.store.generators[g]).all (generatorConsistent s g) = true at sound
  rw [active] at sound
  exact isActive_of_any (Bool.and_eq_true .. |>.mp sound).1

theorem consistent_block {l : BlockId} (sound : consistent s (.block l) = true) {y : BlockSettings}
    (active : activeSettings s.store.blocks[l] = some y) : isActive s.store.devices[y.feeder] = true := by
  change (activeSettings s.store.blocks[l]).all (blockConsistent s l) = true at sound
  rw [active] at sound
  exact isActive_of_any sound

/-! ## The devices and the lanes -/

theorem Parts.Placed.conducting (k : s.Placed t ds li) (d : DeviceId) :
    (s.mapped t ds map li gs a).isConducting d = (isActive s.store.devices[d] && s.position d != .open) :=
  (congrArg DeviceLive.isConducting (k.devices d)).trans (placed_isConducting d s)

theorem Parts.Placed.lane (k : s.Placed t ds li) (stands : LanesStand li.lanes ls) (l : LaneId) :
    ls[l].counts = DiscardCounts.zero ∧ ls[l].state = if t.lanes[l].enabled then .down else .disabled := by
  have lane : li.lanes[l] = laneAtEntry t.lanes[l] := by
    rw [k.lanes]
    exact Vector.getElem_map ..
  obtain ⟨counts, state⟩ := stands l
  rw [lane] at counts state
  exact ⟨counts, state⟩

theorem utilityAtEntry_eq (r : Option (Held UtilitySettings)) : utilityAtEntry r =
    { UtilityLive.initial with settings := activeSettings r, measured := isActive r } := by
  unfold utilityAtEntry activeSettings
  cases isActive r with
  | true => rfl
  | false => rfl

/-! ## The generators and the blocks -/

theorem Parts.Placed.generator (k : s.Placed t ds li) (g : GeneratorId) (sound : consistent s (.generator g) = true) :
    (s.mapped t ds map li gs a).generatorAtEntry g = { GeneratorLive.initial with
      state := .unavailable, settings := activeSettings s.store.generators[g]
      run := match activeSettings s.store.generators[g] with
        | some y => if s.position y.device = .open then .stop else .run
        | none => .stop } := by
  unfold Parts.generatorAtEntry
  change { GeneratorLive.initial with
    state := .unavailable, settings := activeSettings s.store.generators[g]
    run := match activeSettings s.store.generators[g] with
      | some y => if (s.mapped t ds map li gs a).isConducting y.device then .run else .stop
      | none => .stop } = _
  cases active : activeSettings s.store.generators[g] with
  | none => rfl
  | some y =>
    dsimp only
    rw [k.conducting, consistent_generator sound active, Bool.true_and]
    by_cases away : s.position y.device = .open
    · rw [if_pos away, away]
      rfl
    · rw [if_neg away, if_pos (bne_iff_ne.mpr away)]

theorem Parts.BlockAtEntry.settings {l : BlockId} {x : BlockLive} (k : s.BlockAtEntry l x) :
    x.settings = activeSettings s.store.blocks[l] := by
  obtain ⟨retired, placed⟩ := k
  cases active : activeSettings s.store.blocks[l] with
  | none => exact (retired active).1
  | some y => exact (placed y active).1

/-! ## The islands -/

theorem mapped_utilityLive (u : UtilityId) : (s.mapped t ds map li gs a).utilityLive u = false := by
  have here : (s.mapped t ds map li gs a).changeover.utilities[u] = utilityAtEntry s.store.utilities[u] := Vector.getElem_map ..
  unfold Parts.utilityLive
  rw [here, utilityAtEntry_eq]
  rfl

section
variable (mapped : s.Mapped t ds map li gs a)
include mapped

theorem islands_residual (still : ∀ g : GeneratorId, s.paralleling.generators[g] = GeneratorLive.initial) :
    ∀ i ∈ map.islands, i.energisation = .residual := fun i mem => by
  rw [mapped.islands] at mem
  refine computeIslands_residual mapped.classes mapped_utilityLive (fun g => ?_) mem
  have here : (s.mapped t ds map li gs a).paralleling.generators[g] = GeneratorLive.initial := still g
  unfold Parts.generatorLive
  rw [here]
  rfl

theorem islands_entered (entered : (s.mapped t ds map li gs a).UnitsEntered seen c pu ls lu pr)
    (still : ∀ g : GeneratorId, s.paralleling.generators[g] = GeneratorLive.initial) {p : Parts}
    (topology : p.topology = map) (changeover : p.changeover = c) (paralleling : p.paralleling = pu) :
    map.islands = computeIslands p := by
  rw [mapped.islands]
  have was (g : GeneratorId) : (s.mapped t ds map li gs a).paralleling.generators[g] = GeneratorLive.initial := still g
  have is (g : GeneratorId) : p.paralleling.generators[g].state = .unavailable := by
    rw [paralleling, entered.generators g]
    rfl
  refine (Parts.SameIslands.islands ⟨by rw [topology]; rfl, by rw [topology]; rfl, by rw [topology]; rfl, by rw [topology]; rfl,
    fun u => ?_, fun g => ?_, fun g => ?_⟩).symm
  · unfold Parts.utilityLive
    rw [changeover, entered.utilities]
  · unfold Parts.generatorLive
    rw [is, was]
    rfl
  · unfold Parts.isOnline
    rw [is, was]
    rfl

end

end

end Sys2Proof.Machine

/-!
PROOF. ENTER SERVICE checks and enters (R168, R169).
-/

namespace Sys2Proof.Machine

section
variable {s p : Parts}

/-! ## Checks 4 to 6 -/

theorem find?_all {bad : RecordName → Bool} (none_ : ∀ n, bad n = false) : allRecords.find? bad = none :=
  List.find?_eq_none.mpr fun n _ => by rw [none_ n]; decide

theorem judgeReferences_consistency {n : RecordName} (here : consistent s n = false)
    (first : ∀ m : RecordName, m.position < n.position → consistent s m = true) :
    judgeReferences s = some ⟨.range, 4, n.position⟩ := by
  unfold judgeReferences
  rw [find?_allRecords (n := n) (by rw [here]; rfl) fun m before => by rw [first m before]; rfl]

section
variable (sound : ∀ n, consistent s n = true)
include sound

theorem find?_inconsistent : allRecords.find? (fun n => !consistent s n) = none := find?_all fun n => by rw [sound n]; rfl

theorem judgeReferences_terminal {n : RecordName} (here : sharesTerminal s n = true)
    (first : ∀ m : RecordName, m.position < n.position → sharesTerminal s m = false) :
    judgeReferences s = some ⟨.range, 5, n.position⟩ := by
  unfold judgeReferences
  rw [find?_inconsistent sound, find?_allRecords here first]

section
variable (sole : ∀ n, sharesTerminal s n = false)
include sole

theorem judgeReferences_chains :
    judgeReferences s = (allRecords.find? (liesOnCycle s)).map fun n => ⟨.range, 6, n.position⟩ := by
  unfold judgeReferences
  rw [find?_inconsistent sound, find?_all sole]

theorem judgeReferences_cycle {n : RecordName} (here : liesOnCycle s n = true)
    (first : ∀ m : RecordName, m.position < n.position → liesOnCycle s m = false) :
    judgeReferences s = some ⟨.range, 6, n.position⟩ := by
  rw [judgeReferences_chains sound sole, find?_allRecords here first, Option.map_some]

theorem judgeReferences_passes (straight : ∀ n, liesOnCycle s n = false) : judgeReferences s = none := by
  rw [judgeReferences_chains sound sole, find?_all straight, Option.map_none]

end

end

/-! ## The answers -/

theorem exec_enterService (t : Byte) (s : State) : exec (.enterService t) s = taking 0x82 t enterRequest s := rfl

section
variable {s : State} (live : s.live) (t : Byte)
include live

theorem enterService_fails {f : FailedCheck} (judged : judgeEntry s.parts = (p, some f)) : exec (.enterService t) s =
    .next (s.answers 0x82 t f.status [byte f.number, byte f.concerned.val] (settle p)) := by
  rw [exec_enterService, taking_live 0x82 t enterRequest s live.1, enterRequest_fails judged]

/-- A check that fails with no change. -/
theorem enterService_stands {f : FailedCheck} (judged : judgeEntry s.parts = (s.parts, some f)) : exec (.enterService t) s =
    .next (s.answers 0x82 t f.status [byte f.number, byte f.concerned.val] s.parts) := by
  rw [enterService_fails live t judged, settle_calm _ live.2]

theorem enterService_passes {x : StationSettings} (judged : judgeEntry s.parts = (s.parts, none))
    (station : settingsOf s.parts.store.station = some x) : exec (.enterService t) s =
      .next (s.answers 0x82 t .ok [] (settle (enterParts x s.parts))) := by
  rw [exec_enterService, taking_live 0x82 t enterRequest s live.1, enterRequest_passes judged station]

end

/-! ## A record found INVALID -/

/-- Check 3 at a record found INVALID makes it DAMAGED and leaves the part CONFIGURING. -/
theorem useRecord_entry {n : RecordName} {x : Held AnySettings} (configuring : s.service.inService = false)
    (stored : s.record n = some x) (intact : x.integrity ≠ .damaged) (differs : x.settings ≠ x.code.covers)
    (restores : x.code.restores = false) : ∃ p, useRecord n s = (p, none) ∧
      p.record n = some { x with integrity := .damaged } ∧ p.attention.flags.record = true ∧ p.service.inService = false := by
  obtain ⟨record, flag, -⟩ := damageNotice_invalidated stored
  obtain ⟨st, form⟩ := invalidated_form s n x
  exact ⟨damageNotice n (s.invalidated n x), useRecord_invalid stored intact differs restores, record, flag,
    damageNotice_serving (by rw [form]; exact configuring) n⟩

theorem of_record_valid {α : Type} {f : α → AnySettings} {h : Held α} (valid : (h.map f).valid)
    (inj : Function.Injective f := by exact fun _ _ e => by injection e) : h.valid := ⟨valid.1, inj valid.2⟩

/-! ## The whole -/

/-- Settles O52: the six checks in their order, and the eleven steps of the entry. -/
theorem enterServiceChecksAndEnters : Obligations.EnterServiceChecksAndEnters := by
  intro t s live fails first
  have stands {a : Status} {number : Nat} {n : StoreIndex} (judged : judgeEntry s.parts = (s.parts, some ⟨a, number, n⟩)) :
      fails a number n s.parts := enterService_stands live t judged
  refine ⟨fun serving => stands (judgeEntry_serving serving), fun configuring => ⟨fun absent => ?_, fun h station active => ?_⟩⟩
  · refine stands (judgeEntry_stationless configuring ?_)
    rcases absent with none_ | ⟨h, stored, retired⟩
    · rw [none_]
      rfl
    · rw [stored, isActive_some, retired]
      rfl
  have present : isActive s.parts.store.station = true := by rw [station, isActive_some, active]; rfl
  have intact (k : h.integrity ≠ .damaged) : isDamaged s.parts.store.station = false := by
    rw [station]
    exact beq_eq_false_iff_ne.mpr k
  refine ⟨fun damaged => stands (judgeEntry_damaged configuring present (by rw [station]; exact beq_iff_eq.mpr damaged)),
    fun n x sound stored standing before => ⟨fun damaged => ?_, fun whole differs restores => ?_⟩, fun valid => ?_⟩
  · refine stands ?_
    exact judgeEntry_unsound configuring present (intact sound)
      (readActive_fails stored standing (useRecord_damaged stored damaged) before)
  · obtain ⟨p, read, record, flag, service⟩ := useRecord_entry configuring stored whole differs restores
    refine ⟨p, enterService_fails live t (f := ⟨.damaged, 3, n.position⟩) ?_, record, flag, service⟩
    exact judgeEntry_unsound configuring present (intact sound) (readActive_fails stored standing read before)
  have stationValid : (h.map AnySettings.station).valid :=
    valid .station _ (congrArg (Option.map (Held.map AnySettings.station)) station) active
  have judged : judgeEntry s.parts = (s.parts, judgeReferences s.parts) :=
    judgeEntry_sound configuring present (intact stationValid.1) (readActive_sound valid)
  refine ⟨fun n ⟨here, before⟩ => stands ?_, fun consistent_ => ⟨fun n ⟨here, before⟩ => stands ?_, fun sole =>
    ⟨fun n ⟨here, before⟩ => stands ?_, fun straight => ?_⟩⟩⟩
  · rw [judged, judgeReferences_consistency (Bool.not_eq_true' _ |>.mp here) fun m k => Bool.not_eq_false' _ |>.mp (before m k)]
  · rw [judged, judgeReferences_terminal consistent_ here before]
  · rw [judged, judgeReferences_cycle consistent_ sole here before]
  rw [judgeReferences_passes consistent_ sole straight] at judged
  intro seen
  obtain ⟨ds, map, li, gs, a, c, pu, ls, lu, pr, ns, a', form, placed, mapped, entered⟩ :=
    enterParts_form (t := h.settings) (seen := seen) (fun _ => rfl)
      (fun d x stored standing => of_record_valid
        (valid (.device d) _ (congrArg (Option.map (Held.map AnySettings.device)) stored) standing))
      (fun e x stored standing => of_record_valid
        (valid (.element e) _ (congrArg (Option.map (Held.map AnySettings.element)) stored) standing))
      (fun y active => consistent_scheme (consistent_ .scheme) active)
  refine ⟨_, enterService_passes live t judged (by rw [station]; rfl), ?_⟩
  rw [form]
  refine ⟨rfl, rfl, rfl, rfl, fun d => ⟨placed.devices d, mapped.conducting d, mapped.index d⟩, placed.lane entered.lanes,
    placed.testCount, placed.points, mapped.inUse, fun u => ?_, fun g => ?_, fun l => ⟨(entered.blocks l).settings, ?_, ?_⟩,
    fun still => ⟨?_, ?_, ?_⟩, fun none_ => ?_, fun y active => entered.scheme y active, entered.elements⟩
  · exact (congrArg (fun v : Vector UtilityLive 2 => v[u]) entered.utilities).trans
      ((Vector.getElem_map ..).trans (utilityAtEntry_eq _))
  · exact (entered.generators g).trans (placed.generator g (consistent_ _))
  · exact fun inactive => ((entered.blocks l).1 (activeSettings_inactive inactive)).2
  · intro y active
    obtain ⟨-, demand, held, -⟩ := (entered.blocks l).2 y active
    refine ⟨demand, fun opened => held ?_⟩
    rw [placed.conducting, show s.parts.position y.feeder = .open from opened]
    exact Bool.and_false _
  · exact islands_entered mapped entered still rfl rfl rfl
  · exact islands_residual mapped still
  · intro l y active away
    obtain ⟨-, -, -, dark⟩ := (entered.blocks l).2 y active
    refine dark ?_ fun i mem => by
      rw [islands_residual mapped still i mem]
      decide
    rw [placed.conducting, consistent_block (consistent_ (.block l)) active]
    exact bne_iff_ne.mpr away
  · have unset := entered.schemeless none_
    exact ⟨congrArg ChangeoverUnit.scheme unset, congrArg ChangeoverUnit.mode unset, fun i =>
      (congrArg (fun c : ChangeoverUnit => c.sides[i].state) unset).trans
        (congrArg SideLive.state (Vector.getElem_replicate ..))⟩

end

end Sys2Proof.Machine
